-- ==== Sys2Proof/Word.lean ====
section
/-! DEFINITION. The words of the part: the octet, the 16-bit counts, and the numbers that name a
link and a circuit record (00_scope.md, Principal Figures). Byte-order and bit-field helpers stand
in Sys2Proof/Machine/Operands.lean, where a repair can mend them. -/

namespace Sys2Proof

/-- An octet, as the host and the line units see it. -/
abbrev Byte := BitVec 8

/-- A 16-bit count: the frame tally, the superframe number, a circuit's tag. -/
abbrev Half := BitVec 16

/-- A link number, 0 to 7. -/
abbrev LinkNo := Fin 8

/-- The index of a circuit record, 0 to 191 (R1). -/
abbrev RecNo := Fin 192

/-- The octet that holds a number, modulo 256. -/
def octet (n : Nat) : Byte := BitVec.ofNat 8 n

end Sys2Proof
end

