-- ==== Sys2Proof/Config.lean ====
section
/-! DEFINITION. The fixed figures of the part (00_scope.md, Principal Figures). The manual leaves none of
them to an implementation, and it leaves no result of a command open. The one free value is a level
that it does not state. -/

namespace Sys2Proof.Config

/-- Slots of a frame on one link, in each direction (R78). -/
def slotsPerFrame : Nat := 40

/-- Bearer slots of a link: slots 0 to 37 (R17). -/
def bearerSlots : Nat := 38

/-- Bit periods of a full frame (R78). -/
def framePeriods : Nat := 320

/-- The change queue holds at most this many entries (R57). -/
def queueRoom : Nat := 24

/-- An outbound queue holds at most this many messages (R161). -/
def outboundRoom : Nat := 4

/-- An AT_SUPERFRAME cutover lies at most this many superframes ahead (R34). -/
def farthestCutover : Nat := 32767

/-- A line message holds at most this many octets (R150). -/
def longestMessage : Nat := 16

/-- Withdrawal frames on each entry into ABSENT (R131). -/
def withdrawalFrames : Nat := 4

/-- Consecutive arrivals with valid presence that bring a link to UP (R131). -/
def presenceFrames : Nat := 4

/-- Consecutive arrivals with invalid presence that end a session (R132). -/
def lossFrames : Nat := 4

/-- Consecutive arrivals with REFUSE that make one refusal (R137). -/
def refusalFrames : Nat := 2

/-- Frames in which a refusal by the receive machine is shown (R145). -/
def refusalShown : Nat := 2

/-- Pulses in a row, 320 bit periods apart, that end acquisition (R95). -/
def pulsesToLock : Nat := 3

/-- The level of SDO, none for high impedance, while CS_N is low and the port waits for it to rise after
RST_N has risen (R177). The manual states none: a free value, DESIGN CHOICE (assumption 15). -/
opaque sdoPassedOver : Option Bool

end Sys2Proof.Config
end

