-- ==== Sys2Proof/Syntax.lean ====
section
/-! DEFINITION. The commands of the part: one constructor of `Instr` for each row of
spec/opcode_table.json, with what the row carries from outside. A command that the host writes into
the mailbox carries its AWAIT flag alone: its fields stand in the request area, which State holds
(R181). A step that the part makes within itself carries only what it cannot find in State. -/

namespace Sys2Proof

/-- The octets that the eight LIN lines completed in the frame that a command ends, from the first
octet that the capture does not hold yet: one list for each link, in the order of the slots. A list
shorter than the frame leaves the later octets incomplete (R79, R80). DESIGN CHOICE (assumption 6).
-/
abbrev LineOctets := List (List Byte)

/-- The parts of a read transaction (R177, R178, R196). DESIGN CHOICE (assumption 15). -/
inductive ReadPart where
  /-- The address octet is complete, with its starting address: the snapshot of the register window is
  made. -/
  | address (start : BitVec 7)
  /-- The next data octet has been sent complete, from the snapshot that stands. -/
  | octet
  /-- Both, with nothing between them: a transaction of one data octet at the address of EVENT_VECTOR.
  -/
  | whole
  deriving DecidableEq, Repr

/-- A circuit request as a line message carries it (R151), each parameter one octet at its face
value. The width field of OPEN is four bits, and its cutover flag is set for NEXT_SUPERFRAME. -/
inductive LineRequest where
  | openCircuit (srcLink srcSlot : Byte) (width : BitVec 4) (superframe : Bool) (lease : Byte)
      (dests : List (Byte × Byte))
  | add (index gen link slot : Byte)
  | drop (index gen link slot : Byte)
  | release (index gen : Byte)
  | renew (index gen lease : Byte)
  | status (index gen : Byte)
  deriving DecidableEq, Repr

/-- One command or event of the part, by its row of spec/opcode_table.json. -/
inductive Instr where
  /-- DEVICE_RESET (R191): RST_N low, or power-up. -/
  | deviceReset
  /-- OPEN (R38): a COMMAND write of code 01h. -/
  | openCircuit (await : Bool)
  /-- ADD (R41): a COMMAND write of code 02h. -/
  | add (await : Bool)
  /-- DROP (R42): a COMMAND write of code 03h. -/
  | drop (await : Bool)
  /-- MOVE (R43): a COMMAND write of code 04h. -/
  | move (await : Bool)
  /-- RELEASE (R44, R45): a COMMAND write of code 05h. -/
  | release (await : Bool)
  /-- RENEW (R47): a COMMAND write of code 06h. -/
  | renew (await : Bool)
  /-- CANCEL (R46): a COMMAND write of code 07h. -/
  | cancel (await : Bool)
  /-- ADOPT (R48): a COMMAND write of code 08h. -/
  | adopt (await : Bool)
  /-- QUERY (R49): a COMMAND write of code 09h. -/
  | query (await : Bool)
  /-- LOCATE (R51): a COMMAND write of code 0Ah. -/
  | locate (await : Bool)
  /-- NEXT (R52): a COMMAND write of code 0Bh. -/
  | nextRecord (await : Bool)
  /-- BAR (R53): a COMMAND write of code 0Ch. -/
  | bar (await : Bool)
  /-- UNBAR (R53): a COMMAND write of code 0Dh. -/
  | unbar (await : Bool)
  /-- READ_REFERRAL (R172): a COMMAND write of code 0Eh. -/
  | readReferral (await : Bool)
  /-- APPROVE (R173): a COMMAND write of code 0Fh, DECIDE, whose verdict octet is 01h. -/
  | approve (await : Bool)
  /-- DENY (R174): a COMMAND write of code 0Fh, DECIDE, whose verdict octet is 02h. -/
  | deny (await : Bool)
  /-- SET_SUPERFRAME (R107): a COMMAND write of code 10h. -/
  | setSuperframe (await : Bool)
  /-- UNDEFINED_COMMAND (R184): a COMMAND write of a code that names no command. -/
  | undefinedCommand (code : BitVec 7) (await : Bool)
  /-- COMMAND_REFUSED (R186): a COMMAND write of any code while the mailbox is AWAITING. -/
  | commandRefused (code : BitVec 7) (await : Bool)
  /-- ABANDON (R187): a CONTROL write with ABANDON set and CP_RESET clear. -/
  | abandon
  /-- CP_RESET (R188): a CONTROL write with CP_RESET set. -/
  | cpReset
  /-- WRITE_MASTER (R92): a ROLE write of MASTER, with the octets of the frame it cuts short. -/
  | writeMaster (rx : LineOctets)
  /-- WRITE_SLAVE (R92): a ROLE write of SLAVE. -/
  | writeSlave
  /-- WRITE_ENABLE_0 (R130): a write of ENABLE 0 to LINK_CTRL_k, its POLICY bit as in force. -/
  | writeEnable0 (k : LinkNo)
  /-- WRITE_ENABLE_1 (R130): a write of ENABLE 1 to LINK_CTRL_k, its POLICY bit as in force. -/
  | writeEnable1 (k : LinkNo)
  /-- FILL_WRITE (R84): a write to FILL_k. -/
  | fillWrite (k : LinkNo) (v : Byte)
  /-- EVENT_FLAGS_WRITE (R195): a write to octet 35h, or to octet 36h when `second` is set. -/
  | eventFlagsWrite (second : Bool) (v : Byte)
  /-- EVENT_ENABLE_WRITE (R194): a write to octet 37h, or to octet 38h when `second` is set. -/
  | eventEnableWrite (second : Bool) (v : Byte)
  /-- EVENT_VECTOR_READ (R178, R196): a part of a read transaction. Its octets at other addresses are
  sent in the same way and have no effect. -/
  | eventVectorRead (part : ReadPart)
  /-- LOST_NOTICE_WRITE (R163): a write to LOST_NOTICE. -/
  | lostNoticeWrite (v : Byte)
  /-- REGISTER_WRITE (R179): a host write of one octet to an address of the register window. -/
  | registerWrite (a : BitVec 7) (v : Byte)
  /-- FRM_PULSE (R94, R95): a pulse seen on FRM at a bit period, with the level of SFM there and the
  octets of the frame it may end. -/
  | frmPulse (position : Nat) (sfm : Bool) (rx : LineOctets)
  /-- FRAME_START (R101): the frame in progress has run its 320 bit periods, with or without a pulse
  on FRM at that bit period. -/
  | frameStart (pulse sfm : Bool) (rx : LineOctets)
  /-- FLYWHEEL_FRAME_START (R97): the expected position passes with no pulse seen there. -/
  | flywheelFrameStart (sfm : Bool) (rx : LineOctets)
  /-- HOLDOVER_LIMIT_EXCEEDED (R98): the expected position passes with no pulse seen there, at the
  holdover limit. -/
  | holdoverLimitExceeded (sfm : Bool) (rx : LineOctets)
  /-- APPLY_DUE_CHANGES (R62): the Circuit Manager's step for the last frame start. -/
  | applyDueChanges
  /-- LEASE_TICK (R112): the Circuit Manager takes the lease tick handed to it. -/
  | leaseTick
  /-- LEASE_EXPIRY (R112): the Circuit Manager takes a lease tick at which a lease runs out. -/
  | leaseExpiry
  /-- REFERRAL_TIMEOUT (R171): the Circuit Manager takes the oldest timeout handed to it for a
  link. -/
  | referralTimeout (k : LinkNo)
  /-- CONTROL_SLOT_ARRIVAL (R134): the channel octet and the handshake octet of a frame. -/
  | controlSlotArrival (k : LinkNo) (chan hs : Byte)
  /-- PRESENCE_LOSS (R132): the arrival that ends a session for want of presence. -/
  | presenceLoss (k : LinkNo) (chan hs : Byte)
  /-- ACKNOWLEDGE_TIMEOUT (R138): the arrival at which the acknowledge count runs out. -/
  | acknowledgeTimeout (k : LinkNo) (chan hs : Byte)
  /-- ASSEMBLY_TIMEOUT (R144): the arrival at which the assembly count runs out. -/
  | assemblyTimeout (k : LinkNo) (chan hs : Byte)
  /-- LINE_OPEN (R39, R40): the Circuit Manager takes the OPEN that link k has handed to it. -/
  | lineOpen (k : LinkNo)
  /-- LINE_ADD (R41): the Circuit Manager takes the ADD that link k has handed to it. -/
  | lineAdd (k : LinkNo)
  /-- LINE_DROP (R42): the Circuit Manager takes the DROP that link k has handed to it. -/
  | lineDrop (k : LinkNo)
  /-- LINE_RELEASE (R44, R45): the Circuit Manager takes the RELEASE that link k has handed to it. -/
  | lineRelease (k : LinkNo)
  /-- LINE_RENEW (R47): the Circuit Manager takes the RENEW that link k has handed to it. -/
  | lineRenew (k : LinkNo)
  /-- STATUS (R50): the Circuit Manager takes the STATUS that link k has handed to it. -/
  | status (k : LinkNo)
  /-- HELD_RESULT_ENTRY (R161): the arrival at which the outbound queue gains room for a HELD
  RESULT. -/
  | heldResultEntry (k : LinkNo) (chan hs : Byte)
  deriving DecidableEq, Repr

end Sys2Proof
end

