-- ==== Sys2Proof/Machine/State.lean ====
section
/-! DEFINITION. The state of the part, block by block as 00_scope.md, Ownership of State, lists it,
and the state after device reset. Every field is plain data. The fields that the model adds to the
manual's (what one block has handed to another and the other has not yet taken, the bit-period
count, the levels of the input pins, the queue of commands) say so. -/

namespace Sys2Proof.Machine

/-! ## Circuits and positions -/

/-- The two planes of the position map (R17). -/
inductive Plane where
  | ingress
  | egress
  deriving DecidableEq, Repr

/-- The phases of a claim (R19). -/
inductive Phase where
  | joining
  | live
  | leaving
  deriving DecidableEq, Repr

/-- An entry of the position map (R17). -/
inductive PosEntry where
  | fixed
  | openPos
  | barred
  | claimed (i : RecNo) (phase : Phase)
  deriving DecidableEq, Repr

/-- The seven states of a circuit record (R8). -/
inductive CircuitState where
  | free
  | referred
  | opening
  | active
  | altering
  | closing
  | retired
  deriving DecidableEq, Repr

/-- The owner of a record (R2). -/
inductive Owner where
  | host
  | link (k : LinkNo)
  deriving DecidableEq, Repr

/-- The source of a circuit (R3). -/
inductive Source where
  | position (link slot : Nat)
  | constant (v : Byte)
  deriving DecidableEq, Repr

/-- A slot group, by its link and first slot. Its width is the circuit's (R4). -/
structure Group where
  link : Nat
  slot : Nat
  deriving DecidableEq, Repr

/-- The cutover of a change (R6). -/
inductive Cutover where
  | nextFrame
  | nextSuperframe
  | atSuperframe (n : Half)
  deriving DecidableEq, Repr

/-- Who made a staged change (R6). -/
inductive Cause where
  | host
  | owner
  | lease
  deriving DecidableEq, Repr

/-- A staged change's kind with its parameter (R6). -/
inductive Change where
  | activate
  | add (g : Group)
  | drop (g : Group)
  | move (src : Source)
  | deactivate
  deriving DecidableEq, Repr

/-- The kind of a staged change, without its parameter (R57). -/
inductive ChangeKind where
  | activate
  | add
  | drop
  | move
  | deactivate
  deriving DecidableEq, Repr

/-- The staged change field of a record (R6). -/
structure Staged where
  change : Change
  cutover : Cutover
  cause : Cause
  deriving DecidableEq, Repr

/-- A lease: the granted value and the remaining count, in ticks (R5). -/
structure Lease where
  granted : Byte
  remaining : Byte
  deriving DecidableEq, Repr

/-- A live stamp: the superframe number and frame counter in force at an activation (R7). -/
structure Stamp where
  number : Half
  counter : BitVec 4
  deriving DecidableEq, Repr

/-- Why a record retired (R1, R12). -/
inductive RetireCause where
  | lineRelease
  | leaseExpired
  deriving DecidableEq, Repr

/-- A circuit record (R1). In FREE every field but the generation is as written here: owner and
source absent, width 0, no destination, tag 0, which is how an absent field is reported (R1, Note 1).
-/
structure Record where
  generation : Byte := 0
  state : CircuitState := .free
  owner : Option Owner := none
  source : Option Source := none
  width : Nat := 0
  dests : List Group := []
  lease : Option Lease := none
  tag : Half := 0
  staged : Option Staged := none
  stamp : Option Stamp := none
  attention : Bool := false
  retireCause : Option RetireCause := none
  deriving DecidableEq, Repr

/-- An entry of the change queue (R57). The staging tally is the due condition of NEXT_FRAME and
NEXT_SUPERFRAME; the target number of AT_SUPERFRAME stands in the cutover, and its tally is not
read. DESIGN CHOICE (assumption 20). -/
structure QueueEntry where
  circuit : RecNo
  kind : ChangeKind
  cutover : Cutover
  tally : Half
  awaited : Bool
  deriving DecidableEq, Repr

/-- An entry of the egress program (R76). -/
inductive ProgramEntry where
  | noEntry
  | ingress (link slot : Nat)
  | constant (v : Byte)
  deriving DecidableEq, Repr

/-- What a frame start carries (R101): the values in force for the frame it begins. -/
structure FrameInfo where
  tally : Half
  counter : BitVec 4
  number : Half
  superframe : Bool
  deriving DecidableEq, Repr

/-- A timeout that the Referral Unit has handed to the Circuit Manager (R171). -/
structure Timeout where
  link : LinkNo
  circuit : RecNo
  generation : Byte
  deriving DecidableEq, Repr

/-- The Circuit Manager: circuit table, position map, change queue, egress program, reach sets, lease
monitor, and the work handed to it that it has not yet taken (R24). -/
structure Manager where
  /-- The circuit table (R1). -/
  table : Vector Record 192
  /-- The position map, ingress plane first, then by link, then by slot (R17). -/
  map : Vector PosEntry 640
  /-- The change queue, oldest entry first (R57). -/
  queue : List QueueEntry
  /-- The egress program, by link, then by bearer slot (R76). -/
  program : Vector ProgramEntry 304
  /-- REACH_k: bit j set, link j in the reach set of link k (R37). -/
  reach : Vector Byte 8
  /-- The lease divider, LEASE_PHASE (R110). -/
  divider : BitVec 6
  /-- ATTENTION_COUNT (R16). -/
  attentionCount : Nat
  /-- What the last frame start handed on carries (R101). -/
  frame : FrameInfo
  /-- That frame start has been handed on and its application step not yet taken (R62). -/
  applicationDue : Bool
  /-- A lease tick has been handed on and not yet taken (R110). -/
  tickDue : Bool
  /-- Timeouts handed on and not yet taken, oldest first (R171). -/
  timeouts : List Timeout
  deriving DecidableEq, Repr

/-! ## The Switch Path -/

/-- The Switch Path: sample store, capture and fill octets. -/
structure SwitchPath where
  /-- The held octets, by ingress link, then by bearer slot (R79). -/
  held : Vector Byte 304
  /-- The octets of the frame in progress that the LIN lines have completed, one list a link (R79).
  -/
  capture : Vector (List Byte) 8
  /-- The bits sampled of the octet in progress on each link, the last in bit 0 (R78). -/
  shift : Vector Byte 8
  /-- Slot 38 of the frame in progress, once complete, on each link (R85). -/
  channelIn : Vector Byte 8
  /-- FILL_k as last written (R84). -/
  fill : Vector Byte 8
  /-- The fill octet of each link in force for sending in the frame in progress (R84). -/
  fillInForce : Vector Byte 8
  deriving DecidableEq, Repr

/-! ## The Timing Unit -/

/-- The role of the Timing Unit (R92). -/
inductive Role where
  | master
  | slave
  deriving DecidableEq, Repr

/-- The timing states (R91). -/
inductive TimingState where
  | freeRun
  | acquiring
  | locked
  | holdover
  deriving DecidableEq, Repr

/-- The Timing Unit (R91). The count of bit periods and the positions measured on it are the model's
form of the unit's own counts (R94, R100). DESIGN CHOICE (assumption 7). -/
structure Timing where
  role : Role
  state : TimingState
  tally : Half
  counter : BitVec 4
  number : Half
  consistency : Nat
  holdoverCount : Nat
  holdoverLimit : Byte
  markerEnabled : Bool
  windowOpen : Bool
  /-- Bit periods counted on CLKIN since device reset (R100). -/
  clock : Nat
  /-- The bit period at which the last frame start fell (R94). -/
  frameAt : Nat
  /-- The bit period of the previous pulse seen since the entry into ACQUIRING (R94). -/
  pulseAt : Option Nat
  /-- The previous sample of FRM (R94). -/
  frmBefore : Bool
  deriving DecidableEq, Repr

/-! ## The link channels and the Referral Unit -/

/-- The states of a link (R129). -/
inductive LinkState where
  | disabled
  | absent
  | up
  | stalled
  deriving DecidableEq, Repr

/-- The phase of an in-process request (R154). A HELD request keeps its RESULT. -/
inductive RequestPhase where
  | handed
  | referred
  | held (result : List Byte)
  deriving DecidableEq, Repr

/-- An in-process request (R154). A message that the channel refused (R152) has no circuit request.
-/
structure InProcess where
  kind : Byte
  tag : Byte
  request : Option LineRequest
  phase : RequestPhase
  deriving DecidableEq, Repr

/-- When a presented pair was presented, as R131 counts it: while withdrawal went on, in ABSENT
after it, or outside the present stay in ABSENT. DEDUCED (assumption 8). -/
inductive PairKind where
  | withdrawal
  | ready
  | other
  deriving DecidableEq, Repr

/-- The pair of octets that a channel presents for the next frame (R128). -/
structure Pair where
  channel : Byte
  handshake : Byte
  kind : PairKind
  deriving DecidableEq, Repr

/-- What an arrival showed, as the confirmation run compares it (R140). -/
structure Shown where
  channel : Byte
  offer : Bool
  seq : Bool
  final : Bool
  deriving DecidableEq, Repr

/-- One Link Control Channel (R129, R154, R160, R161, R163). -/
structure Link where
  enable : Bool := true
  state : LinkState := .absent
  withdrawal : Nat := 4
  presence : Nat := 0
  loss : Nat := 0
  sendSeq : Bool := false
  /-- The octet on offer, by its place in the head message of the outbound queue. -/
  onOffer : Option Nat := none
  ackCount : Nat := 0
  refusalSeen : Nat := 0
  refusalLatch : Bool := false
  expectedSeq : Bool := false
  receiveAck : Bool := true
  assembly : List Byte := []
  run : Nat := 0
  /-- The previous arrival, read only while the run is above 0. -/
  before : Shown := ⟨0, false, false, false⟩
  assemblyCount : Nat := 0
  refusalDisplay : Nat := 0
  inProcess : Option InProcess := none
  outbound : List (List Byte) := []
  noticeCount : Byte := 0
  noticeLost : Bool := false
  presented : Pair := ⟨0xFF, 0xFF, .withdrawal⟩
  /-- The arrival of the frame in progress has been handled. -/
  arrived : Bool := false
  deriving DecidableEq, Repr

/-- The shared settings of the link channels (R129). -/
structure Settings where
  confirmCount : Byte
  ackTimeout : Byte
  assemblyTimeout : Byte
  deriving DecidableEq, Repr

/-- A WAITING referral record (R168). -/
structure Referral where
  circuit : RecNo
  generation : Byte
  tag : Byte
  sourceLink : Nat
  sourceSlot : Nat
  width : Nat
  cutover : Cutover
  lease : Byte
  dests : List Group
  remaining : Byte
  deriving DecidableEq, Repr

/-- The Referral Unit. -/
structure ReferralUnit where
  /-- The referral record of each link: none is EMPTY (R168). -/
  records : Vector (Option Referral) 8
  /-- POLICY: bit k set, link k has policy REFER (R167). -/
  policy : Byte
  /-- REFERRAL_TIMEOUT (R170). -/
  timeout : Byte
  deriving DecidableEq, Repr

/-! ## The Host Port and the Event Unit -/

/-- The outcomes of a request or of the mailbox (13_formats_and_register_map.md, 13.5). -/
inductive OutcomeCode where
  | ok
  | badFormat
  | badPosition
  | overlap
  | notPermitted
  | badCutover
  | positionBarred
  | positionBusy
  | noRecord
  | queueFull
  | unknownCircuit
  | notOwner
  | pending
  | limit
  | retiring
  | denied
  | noReferral
  | epochLocked
  | withdrawn
  | abandoned
  deriving DecidableEq, Repr

/-- The mailbox (R180). -/
structure Mailbox where
  request : Vector Byte 24
  command : Byte
  awaiting : Bool
  refusedWrite : Bool
  sequence : Byte
  outcome : OutcomeCode
  response : Vector Byte 24
  deriving DecidableEq, Repr

/-- The read side of the SPI port (R177, R178): the snapshot of the last read transaction, none before
the first, the address that its next data octet falls on, and the last data octet sent on SDO. DESIGN
CHOICE (assumption 15). -/
structure Port where
  snapshot : Option (Vector Byte 128)
  next : BitVec 7
  sent : Byte
  deriving DecidableEq, Repr

/-- The Event Unit (R192, R194): flag and enable of code c at bit c − 1. -/
structure Events where
  flags : BitVec 13
  enables : BitVec 13
  deriving DecidableEq, Repr

/-- The levels of the input pins that the part samples, as the outside drives them (00_scope.md, Pins
and Electrical Summary). The output pins are functions of the state. -/
structure Pins where
  lin : BitVec 8
  frm : Bool
  sfm : Bool
  deriving DecidableEq, Repr

/-! ## The whole part -/

/-- The state of the part, and the queue of the commands that wait to reach it, first in, first out.
-/
structure State where
  timing : Timing
  switch : SwitchPath
  manager : Manager
  links : Vector Link 8
  settings : Settings
  referrals : ReferralUnit
  mailbox : Mailbox
  port : Port
  events : Events
  pins : Pins
  pending : List Instr
  deriving DecidableEq, Repr

/-- The part never stops with a fault: the manual names no event after which it goes no further. No
constructor, so nobody raises one. -/
inductive Fault where
  deriving DecidableEq, Repr

/-- The reasons to refuse a command. -/
inductive Refusal where
  /-- Raised by an arm of exec whose command has no meaning yet, with the row's mnemonic. Safe: the
  model stops where the part goes on. No arm raises it now. -/
  | notModelled (mnemonic : String)
  deriving DecidableEq, Repr

/-! ## Device reset -/

/-- The position map after device reset: slots 38 and 39 FIXED, every bearer entry OPEN (R17). -/
def resetMap : Vector PosEntry 640 :=
  ⟨((List.range 640).map fun n =>
      if n % Config.slotsPerFrame < Config.bearerSlots then PosEntry.openPos else .fixed).toArray,
    by simp⟩

/-- The reach sets after device reset: each link alone (R37). -/
def resetReach : Vector Byte 8 := #v[1, 2, 4, 8, 16, 32, 64, 128]

/-- The Timing Unit after device reset (R91, R94). -/
def Timing.reset : Timing where
  role := .slave
  state := .acquiring
  tally := 0
  counter := 0
  number := 0
  consistency := 0
  holdoverCount := 0
  holdoverLimit := 16
  markerEnabled := false
  windowOpen := true
  clock := 0
  frameAt := 0
  pulseAt := none
  frmBefore := true

/-- The Switch Path after device reset (R79, R84). DESIGN CHOICE for `shift` and `channelIn`
(assumption 13). -/
def SwitchPath.reset : SwitchPath where
  held := Vector.replicate 304 0xFF
  capture := Vector.replicate 8 []
  shift := Vector.replicate 8 0
  channelIn := Vector.replicate 8 0
  fill := Vector.replicate 8 0xFF
  fillInForce := Vector.replicate 8 0xFF

/-- The Circuit Manager after device reset (R1, R16, R17, R37, R57, R76, R110). DESIGN CHOICE for
`frame` (assumption 13). -/
def Manager.reset : Manager where
  table := Vector.replicate 192 {}
  map := resetMap
  queue := []
  program := Vector.replicate 304 .noEntry
  reach := resetReach
  divider := 0
  attentionCount := 0
  frame := ⟨0, 0, 0, false⟩
  applicationDue := false
  tickDue := false
  timeouts := []

/-- The mailbox after either reset (R180). -/
def Mailbox.reset : Mailbox where
  request := Vector.replicate 24 0
  command := 0
  awaiting := false
  refusedWrite := false
  sequence := 0
  outcome := .ok
  response := Vector.replicate 24 0

/-- The part right after device reset (R191, R198, and the rules of each block), with no command
waiting. Input pins stand high: DESIGN CHOICE (assumption 2). -/
def State.reset : State where
  timing := Timing.reset
  switch := SwitchPath.reset
  manager := Manager.reset
  links := Vector.replicate 8 {}
  settings := ⟨2, 64, 32⟩
  referrals := ⟨Vector.replicate 8 none, 0, 50⟩
  mailbox := Mailbox.reset
  port := ⟨none, 0, 0⟩
  events := ⟨0, 0⟩
  pins := ⟨0xFF, true, true⟩
  pending := []

end Sys2Proof.Machine
end

