-- ==== Sys2Proof/Machine/Flags.lean ====
section
/-! DEFINITION. The Event Unit (11_events_and_the_interrupt_line.md): raising, clearing and enabling
the thirteen event flags, the priority vector and the interrupt line. The part has no other flags. -/

namespace Sys2Proof.Machine

/-- The code of the TIMING event (R192). -/
def timingEvent : Nat := 1

/-- The code of the LINK k event (R192). -/
def linkEvent (k : LinkNo) : Nat := 2 + k.val

/-- The code of the REFERRAL event (R192). -/
def referralEvent : Nat := 10

/-- The code of the NOTICE_LOST event (R192). -/
def noticeLostEvent : Nat := 11

/-- The code of the ATTENTION event (R192). -/
def attentionEvent : Nat := 12

/-- The code of the MAILBOX event (R192). -/
def mailboxEvent : Nat := 13

/-- The flag position of a code: code c at bit c − 1 (R192; 13.6). -/
def flagBit (c : Nat) : BitVec 13 := 1#13 <<< (c - 1)

/-- A block raises an event by setting its flag (R192). -/
def State.raise (c : Nat) (s : State) : State :=
  { s with events := { s.events with flags := s.events.flags ||| flagBit c } }

/-- The positions that one octet of EVENT_FLAGS or EVENT_ENABLE covers: codes 1 to 8, or 9 to 13
(13.6). Bits 7..5 of the second octet carry no code. -/
def eventOctet (second : Bool) (v : Byte) : BitVec 13 :=
  if second then v.setWidth 13 <<< 8 else v.setWidth 13

/-- A write to an octet of EVENT_FLAGS clears each flag whose position is 1 (R195). -/
def State.clearFlags (second : Bool) (v : Byte) (s : State) : State :=
  { s with events := { s.events with flags := s.events.flags &&& ~~~ eventOctet second v } }

/-- A write to an octet of EVENT_ENABLE sets or clears the enables of its positions (R194). -/
def State.writeEnables (second : Bool) (v : Byte) (s : State) : State :=
  { s with events := { s.events with
      enables := (s.events.enables &&& ~~~ eventOctet second 0xFF) ||| eventOctet second v } }

/-- The lowest code among the flags that are set and enabled, 0 when there is none (R196). -/
def Events.vector (e : Events) : Byte :=
  match (List.range 13).find? fun i => (e.flags &&& e.enables).getLsbD i with
  | some i => octet (i + 1)
  | none => 0

/-- The flag that a code names is cleared; a code of 0 clears nothing (R196). -/
def State.clearCode (code : Byte) (s : State) : State :=
  if code = 0 then s
  else { s with events := { s.events with flags := s.events.flags &&& ~~~ flagBit code.toNat } }

/-- IRQ_N is low while any flag is both set and enabled (R197). -/
def Events.irqLow (e : Events) : Bool := e.flags &&& e.enables != 0

/-- One of the two octets that show the flags or the enables (R195; 13.6). -/
def eventView (second : Bool) (b : BitVec 13) : Byte :=
  if second then (b.extractLsb' 8 5).setWidth 8 else b.extractLsb' 0 8

end Sys2Proof.Machine
end

