-- ==== Sys2Proof/WellFormed.lean ====
section
/-! DEFINITION. Which terms of `Instr` a sender can give: the checks on what the type alone does not
rule out. A command has its meaning whether or not it passes; these checks say which terms stand
for the event that their row names. -/

namespace Sys2Proof

/-- Octets of the LIN lines: one list for each of the eight links, every list as long as the first
(all links share the bit periods), none past the bearer slots (R78, R85). -/
def LineOctets.wellFormed (rx : LineOctets) : Bool :=
  rx.length == 8 && rx.all (fun l => l.length == (rx.headD []).length)
    && decide ((rx.headD []).length ≤ Config.bearerSlots)

/-- A command code that names no command: 00h, or 11h and above (R184). -/
def undefinedCode (code : BitVec 7) : Bool := code == 0 || decide (17 ≤ code.toNat)

/-- The addresses of the register window that another row of the table writes: COMMAND, CONTROL,
EVENT_FLAGS, EVENT_ENABLE, ROLE, LOST_NOTICE and FILL_k (13_formats_and_register_map.md, 13.6). -/
def hasRowOfItsOwn (a : BitVec 7) : Bool :=
  let n := a.toNat
  n == 0x18 || n == 0x34 || (0x35 ≤ n && n ≤ 0x38) || n == 0x3B || n == 0x49
    || (0x68 ≤ n && n ≤ 0x6F)

/-- The presence field of a handshake octet is the valid code 101b (R127). -/
def handshakePresent (hs : Byte) : Bool := hs.extractLsb' 5 3 == 5

/-- The checks of one command. -/
def Instr.wellFormed : Instr → Bool
  | .deviceReset | .openCircuit _ | .add _ | .drop _ | .move _ | .release _ | .renew _ | .cancel _
  | .adopt _ | .query _ | .locate _ | .nextRecord _ | .bar _ | .unbar _ | .readReferral _
  | .approve _ | .deny _ | .setSuperframe _ | .commandRefused _ _ | .abandon | .cpReset
  | .writeSlave | .writeEnable0 _ | .writeEnable1 _ | .fillWrite _ _ | .eventFlagsWrite _ _
  | .eventEnableWrite _ _ | .eventVectorRead _ | .lostNoticeWrite _ | .applyDueChanges
  | .leaseTick | .leaseExpiry | .referralTimeout _ | .controlSlotArrival _ _ _
  | .acknowledgeTimeout _ _ _ | .assemblyTimeout _ _ _ | .lineOpen _ | .lineAdd _ | .lineDrop _
  | .lineRelease _ | .lineRenew _ | .status _ | .heldResultEntry _ _ _ => true
  | .undefinedCommand code _ => undefinedCode code
  | .registerWrite a _ => !hasRowOfItsOwn a
  | .presenceLoss _ _ hs => !handshakePresent hs
  | .writeMaster rx | .frmPulse _ _ rx | .frameStart _ _ rx | .flywheelFrameStart _ rx
  | .holdoverLimitExceeded _ rx => LineOctets.wellFormed rx

/-- A line request that a finished message can carry: one to four destination pairs in an OPEN
(R151). -/
def LineRequest.wellFormed : LineRequest → Bool
  | .openCircuit _ _ _ _ _ dests => decide (1 ≤ dests.length) && decide (dests.length ≤ 4)
  | .add _ _ _ _ | .drop _ _ _ _ | .release _ _ | .renew _ _ _ | .status _ _ => true

end Sys2Proof
end

