-- ==== Sys2Proof/Decode.lean ====
section
/-! DEFINITION. What the part reads from the octets that reach it: line messages (R150 to R153), the
command that a host write of one octet is, and the commands of an SPI transaction (R177 to R179). The
opcode table gives no row any bits, so `decodeTableWord` finds no command in a word. -/

namespace Sys2Proof

/-- The command that a word spells by the table's bits. No row of spec/opcode_table.json gives bits:
none. DESIGN CHOICE (assumption 16). -/
def decodeTableWord (_nbits _w : Nat) : Option Instr := none

namespace Decode

/-- The sum of a message's octets, modulo 256 (R150). -/
def checkSum (m : List Byte) : Byte := m.foldr (· + ·) 0

/-- A message without its check, closed by the check that makes the sum 0 (R150). -/
def withCheck (m : List Byte) : List Byte := m ++ [-(checkSum m)]

/-- Octets taken two by two. An octet left over makes no pair. -/
def pairs : List Byte → List (Byte × Byte)
  | a :: b :: rest => (a, b) :: pairs rest
  | _ => []

/-- The parameters of a message, by its kind and their number (R151, R152): none for a kind that is
no request or for a length that is not the kind's. -/
def parameters (kind : Byte) (ps : List Byte) : Option LineRequest :=
  match kind.toNat, ps with
  | 1, sl :: ss :: wc :: lease :: rest =>
    if 2 ≤ rest.length ∧ rest.length ≤ 8 ∧ rest.length % 2 = 0 then
      some (.openCircuit sl ss (wc.extractLsb' 0 4) (wc.getLsbD 4) lease (pairs rest))
    else none
  | 2, [i, g, l, f] => some (.add i g l f)
  | 3, [i, g, l, f] => some (.drop i g l f)
  | 4, [i, g] => some (.release i g)
  | 5, [i, g, v] => some (.renew i g v)
  | 6, [i, g] => some (.status i g)
  | _, _ => none

/-- The request of a finished message (R152, R153): none when its check, its kind or its length is
wrong. Octet 1, the tag, is read apart. -/
def lineRequest (m : List Byte) : Option LineRequest :=
  match m with
  | kind :: _ :: rest =>
    if checkSum m = 0 ∧ rest ≠ [] then parameters kind rest.dropLast else none
  | _ => none

/-- Kind and parameters of a request, octet by octet (13_formats_and_register_map.md, 13.2). -/
def requestOctets : LineRequest → Byte × List Byte
  | .openCircuit sl ss w sf lease dests =>
    (1, [sl, ss, (if sf then 16 else 0) + w.setWidth 8, lease] ++
      dests.flatMap (fun d => [d.1, d.2]))
  | .add i g l f => (2, [i, g, l, f])
  | .drop i g l f => (3, [i, g, l, f])
  | .release i g => (4, [i, g])
  | .renew i g v => (5, [i, g, v])
  | .status i g => (6, [i, g])

/-- The message in which a line unit sends a request with a tag (R150, R151). -/
def encodeLineRequest (tag : Byte) (r : LineRequest) : List Byte :=
  withCheck ((requestOctets r).1 :: tag :: (requestOctets r).2)

/-- The row that a COMMAND write of a code is (R184). DECIDE 0Fh is read as its APPROVE row here: the
verdict stands in the request area. DEDUCED (assumption 3). -/
def commandRow (code : BitVec 7) (await : Bool) : Instr :=
  match code.toNat with
  | 0x01 => .openCircuit await
  | 0x02 => .add await
  | 0x03 => .drop await
  | 0x04 => .move await
  | 0x05 => .release await
  | 0x06 => .renew await
  | 0x07 => .cancel await
  | 0x08 => .adopt await
  | 0x09 => .query await
  | 0x0A => .locate await
  | 0x0B => .nextRecord await
  | 0x0C => .bar await
  | 0x0D => .unbar await
  | 0x0E => .readReferral await
  | 0x0F => .approve await
  | 0x10 => .setSuperframe await
  | _ => .undefinedCommand code await

/-- The link of an address in one of the eight-octet banks of the register map. -/
def bankLink (a : BitVec 7) : LinkNo := Fin.ofNat 8 a.toNat

/-- The row that a host write of one octet is, by its address and value
(13_formats_and_register_map.md, 13.6). A LINK_CTRL_k write carries ENABLE and POLICY at once, so it
is a REGISTER_WRITE; so is a CONTROL write with neither bit set. DESIGN CHOICE (assumption 21). -/
def hostWrite (a : BitVec 7) (v : Byte) : Instr :=
  match a.toNat with
  | 0x18 => commandRow (v.extractLsb' 0 7) (v.getLsbD 7)
  | 0x34 => if v.getLsbD 1 then .cpReset else if v.getLsbD 0 then .abandon else .registerWrite a v
  | 0x35 => .eventFlagsWrite false v
  | 0x36 => .eventFlagsWrite true v
  | 0x37 => .eventEnableWrite false v
  | 0x38 => .eventEnableWrite true v
  | 0x3B => if v.getLsbD 0 then .writeMaster (List.replicate 8 []) else .writeSlave
  | 0x49 => .lostNoticeWrite v
  | n => if 0x68 ≤ n ∧ n ≤ 0x6F then .fillWrite (bankLink a) v else .registerWrite a v

/-! ### The SPI port (R177) -/

/-- What happens on the pins of the SPI port and on RST_N, one edge after another. -/
inductive SpiEdge where
  | csFall
  | csRise
  /-- A rising edge of SCK, with the level of SDI there. -/
  | sckRise (sdi : Bool)
  | sckFall
  | rstFall
  | rstRise
  deriving DecidableEq, Repr

/-- What the SPI port keeps between two edges (R177). The rows of the table are whole octets, so this is
no part of the machine's state: it is how the port makes commands of bits. DESIGN CHOICE (assumption
15). -/
structure SpiPort where
  /-- CS_N is low. -/
  csLow : Bool := false
  /-- RST_N is low. -/
  rstLow : Bool := false
  /-- A transaction is in progress. -/
  taking : Bool := false
  /-- Its direction, true for a read, and the address that the octet in progress falls on, once the
  address octet is complete. -/
  header : Option (Bool × BitVec 7) := none
  /-- How many bits of the octet in progress have been sampled. -/
  count : Nat := 0
  /-- Those bits, the last in bit 0. -/
  shift : Byte := 0
  /-- The bit of the snapshot that SDO shows since the last falling edge of SCK, by address and place. -/
  shown : Option (BitVec 7 × Nat) := none
  deriving DecidableEq, Repr

/-- A transaction begins, in no octet yet (R177). -/
def SpiPort.begin (p : SpiPort) : SpiPort :=
  { p with taking := !p.rstLow, header := none, count := 0, shift := 0, shown := none }

/-- No transaction is in progress: the bits of an octet that is not complete are discarded (R177). -/
def SpiPort.finish (p : SpiPort) : SpiPort :=
  { p with taking := false, header := none, count := 0, shift := 0, shown := none }

/-- An octet is complete (R177 to R179): the address octet, which makes the snapshot of a read, an octet
sent, or an octet written. -/
def SpiPort.complete (p : SpiPort) (v : Byte) : SpiPort × List Instr :=
  let p := { p with count := 0, shift := 0 }
  match p.header with
  | none =>
    let a : BitVec 7 := v.extractLsb' 0 7
    ({ p with header := some (v.getLsbD 7, a) },
      if v.getLsbD 7 then [.eventVectorRead (.address a)] else [])
  | some (true, a) => ({ p with header := some (true, a + 1) }, [.eventVectorRead .octet])
  | some (false, a) => ({ p with header := some (false, a + 1) }, [hostWrite a v])

/-- A bit of SDI is sampled, most significant bit first (R177). -/
def SpiPort.sample (p : SpiPort) (sdi : Bool) : SpiPort × List Instr :=
  let v : Byte := (p.shift <<< 1) ||| (BitVec.ofBool sdi).setWidth 8
  if p.count = 7 then p.complete v else ({ p with count := p.count + 1, shift := v }, [])

/-- The bit that SDO shows after a falling edge of SCK: in a data octet of a read, the first bit that
has not been clocked yet (R177). -/
def SpiPort.next (p : SpiPort) : Option (BitVec 7 × Nat) :=
  match p.header with
  | some (true, a) => some (a, 7 - p.count)
  | _ => none

/-- One edge at the port, and the commands that it makes (R177). While RST_N is low the port only
follows CS_N, and a transaction that RST_N ends or finds begun has no further effect. -/
def SpiPort.edge (p : SpiPort) : SpiEdge → SpiPort × List Instr
  | .csFall => ({ p.begin with csLow := true }, [])
  | .csRise => ({ p.finish with csLow := false }, [])
  | .sckRise sdi => if p.taking then p.sample sdi else (p, [])
  | .sckFall => (if p.taking then { p with shown := p.next } else p, [])
  | .rstFall => ({ p.finish with rstLow := true }, [.deviceReset])
  | .rstRise => ({ p with rstLow := false }, [])

/-- The commands of a run of edges, in order, and the port after it. -/
def SpiPort.edges : SpiPort → List SpiEdge → SpiPort × List Instr
  | p, [] => (p, [])
  | p, e :: rest =>
    let (p, first) := p.edge e
    let (p, others) := SpiPort.edges p rest
    (p, first ++ others)

/-- The clocking of bits on SDI. -/
def clocked (bits : List Bool) : List SpiEdge := bits.flatMap fun b => [.sckRise b, .sckFall]

/-- The commands of one transaction, from its bits on SDI while CS_N is low (R177 to R179). -/
def transaction (bits : List Bool) : List Instr :=
  (SpiPort.edges {} (.csFall :: clocked bits ++ [.csRise])).2

end Decode

end Sys2Proof
end

