-- ==== Sys2Proof/Machine/Operands.lean ====
section
/-! DEFINITION. The operand forms and the answers of 13_formats_and_register_map.md: the fields of
the request area (13.3), the response area (13.4), the codes (13.5), and the messages that the part
sends (13.2). -/

namespace Sys2Proof.Machine

/-! ## Octets and numbers -/

/-- The number that two octets carry, most significant octet first. -/
def halfOf (hi lo : Byte) : Half := hi ++ lo

/-- The more significant octet of a 16-bit number. -/
def highOctet (h : Half) : Byte := h.extractLsb' 8 8

/-- The less significant octet of a 16-bit number. -/
def lowOctet (h : Half) : Byte := h.extractLsb' 0 8

/-- A mark in a bit position of an octet: 2 to the position, or 0. -/
def mark (b : Bool) (i : Nat) : Nat := if b then 2 ^ i else 0

/-! ## Codes -/

/-- The state code of R8. -/
def CircuitState.code : CircuitState → Nat
  | .free => 0
  | .referred => 1
  | .opening => 2
  | .active => 3
  | .altering => 4
  | .closing => 5
  | .retired => 6

/-- The outcome codes of 13.5. -/
def OutcomeCode.code : OutcomeCode → Nat
  | .ok => 0
  | .badFormat => 1
  | .badPosition => 2
  | .overlap => 3
  | .notPermitted => 4
  | .badCutover => 5
  | .positionBarred => 6
  | .positionBusy => 7
  | .noRecord => 8
  | .queueFull => 9
  | .unknownCircuit => 10
  | .notOwner => 11
  | .pending => 12
  | .limit => 13
  | .retiring => 14
  | .denied => 15
  | .noReferral => 16
  | .epochLocked => 17
  | .withdrawn => 18
  | .abandoned => 19

/-- The retire-cause code of 13.4: 0 absent, 1 LINE_RELEASE, 2 LEASE_EXPIRED. -/
def retireCode : Option RetireCause → Nat
  | none => 0
  | some .lineRelease => 1
  | some .leaseExpired => 2

/-- The staged-kind code of 13.4: 0 none, 1 ACTIVATE to 5 DEACTIVATE. -/
def stagedKindCode : Option Staged → Nat
  | none => 0
  | some st =>
    match st.change with
    | .activate => 1
    | .add _ => 2
    | .drop _ => 3
    | .move _ => 4
    | .deactivate => 5

/-- The staged-cause code of 13.4: 1 HOST, 2 OWNER, 3 LEASE. -/
def stagedCauseCode : Option Staged → Nat
  | none => 0
  | some st =>
    match st.cause with
    | .host => 1
    | .owner => 2
    | .lease => 3

/-- The cutover-kind code of 13.3. -/
def cutoverCode : Cutover → Nat
  | .nextFrame => 0
  | .nextSuperframe => 1
  | .atSuperframe _ => 2

/-- The kind of a change, as its queue entry holds it (R57). -/
def Change.kind : Change → ChangeKind
  | .activate => .activate
  | .add _ => .add
  | .drop _ => .drop
  | .move _ => .move
  | .deactivate => .deactivate

/-- The entry code of a LOCATE answer (13.4). -/
def entryCode : PosEntry → Nat
  | .openPos => 0
  | .barred => 1
  | .fixed => 2
  | .claimed _ _ => 3

/-- The phase code of a LOCATE answer (13.4). -/
def phaseCode : PosEntry → Nat
  | .claimed _ .joining => 1
  | .claimed _ .live => 2
  | .claimed _ .leaving => 3
  | _ => 0

/-! ## The request area -/

/-- An octet of the request area (R180). -/
def State.request (s : State) (i : Nat) : Byte := (s.mailbox.request[i]?).getD 0

/-- The cutover at octets 16 to 18: none for an undefined kind (13.3). -/
def State.requestCutover (s : State) : Option Cutover :=
  match (s.request 16).toNat with
  | 0 => some .nextFrame
  | 1 => some .nextSuperframe
  | 2 => some (.atSuperframe (halfOf (s.request 17) (s.request 18)))
  | _ => none

/-- A source from its kind octet and the two octets behind it: none for an undefined kind (13.3). -/
def sourceOf (kind a b : Byte) : Option Source :=
  match kind.toNat with
  | 0 => some (.position a.toNat b.toNat)
  | 1 => some (.constant a)
  | _ => none

/-- The plane of a plane octet (13.3). -/
def planeOf (v : Byte) : Option Plane :=
  match v.toNat with
  | 0 => some .ingress
  | 1 => some .egress
  | _ => none

/-- The group that two octets name. -/
def groupOf (link slot : Byte) : Group := ⟨link.toNat, slot.toNat⟩

/-- The fields of an OPEN, from either requester: a source or a cutover that is none had an undefined
kind. -/
structure OpenFields where
  source : Option Source
  width : Nat
  lease : Byte
  tag : Half
  count : Nat
  dests : List Group
  cutover : Option Cutover
  deriving DecidableEq, Repr

/-- The fields of a host OPEN (13.3). -/
def State.requestOpen (s : State) : OpenFields where
  source := sourceOf (s.request 0) (s.request 1) (s.request 2)
  width := (s.request 3).toNat
  lease := s.request 4
  tag := halfOf (s.request 5) (s.request 6)
  count := (s.request 7).toNat
  dests := ((List.range 4).map fun j => groupOf (s.request (8 + 2 * j)) (s.request (9 + 2 * j))).take
    (s.request 7).toNat
  cutover := s.requestCutover

/-- The fields of a line OPEN (R151, R153): the source is always POSITION and the tag 0. -/
def lineOpenFields (srcLink srcSlot : Byte) (width : BitVec 4) (superframe : Bool) (lease : Byte)
    (dests : List (Byte × Byte)) : OpenFields where
  source := some (.position srcLink.toNat srcSlot.toNat)
  width := width.toNat
  lease := lease
  tag := 0
  count := dests.length
  dests := dests.map fun d => groupOf d.1 d.2
  cutover := some (if superframe then .nextSuperframe else .nextFrame)

/-- The filters of NEXT (R52). -/
inductive Filter where
  | inUse
  | attention
  | owner (o : Owner)
  | staged
  | retired
  | expiredWaiting
  deriving DecidableEq, Repr

/-- The filter at octets 1 and 2 (13.3): none for an undefined filter, or for an owner with bit 7
clear and a link above 7 (R28, R199). -/
def filterOf (v owner : Byte) : Option Filter :=
  match v.toNat with
  | 0 => some .inUse
  | 1 => some .attention
  | 2 =>
    if owner.getLsbD 7 then some (.owner .host)
    else if h : owner.toNat < 8 then some (.owner (.link ⟨owner.toNat, h⟩)) else none
  | 3 => some .staged
  | 4 => some .retired
  | 5 => some .expiredWaiting
  | _ => none

/-- The link that an octet names, 0 to 7. -/
def linkOf (v : Byte) : Option LinkNo := if h : v.toNat < 8 then some ⟨v.toNat, h⟩ else none

/-- The record that an index octet names, 0 to 191. -/
def recordOf (v : Byte) : Option RecNo := if h : v.toNat < 192 then some ⟨v.toNat, h⟩ else none

/-- The index octet of a record. -/
def indexOctet (i : RecNo) : Byte := octet i.val

/-! ## Answers -/

/-- The answer to a circuit request (R26): its outcome, and the reference, the state and the lease
remaining count where they are reported. -/
structure Reply where
  outcome : OutcomeCode
  reference : Option (Byte × Byte) := none
  state : Option CircuitState := none
  lease : Option Byte := none
  deriving DecidableEq, Repr

/-- A response area from the octets that an answer names. Every other octet is 00h (R185). -/
def respond (fields : List (Nat × Byte)) : Vector Byte 24 :=
  ⟨((List.range 24).map fun i => (fields.lookup i).getD 0).toArray, by simp⟩

/-- The index octet of a reported reference, 00h when it is absent. -/
def Reply.index (r : Reply) : Byte := (r.reference.map (·.1)).getD 0

/-- The generation octet of a reported reference, 00h when it is absent. -/
def Reply.generation (r : Reply) : Byte := (r.reference.map (·.2)).getD 0

/-- The code of a reported state, 0 when it is absent. -/
def Reply.stateCode (r : Reply) : Nat := (r.state.map CircuitState.code).getD 0

/-- The response area of an answered circuit request (13.4). The granted value is reported by QUERY
alone: DEDUCED (assumption 4). -/
def Reply.response (r : Reply) : Vector Byte 24 :=
  respond [
    (0, octet (mark r.reference.isSome 0 + mark r.state.isSome 1 + mark r.lease.isSome 2)),
    (1, r.index), (2, r.generation), (3, octet r.stateCode), (4, r.lease.getD 0)]

/-- The RESULT message that answers a line request (R158; 13.2). -/
def Reply.result (tag : Byte) (r : Reply) : List Byte :=
  Decode.withCheck [0x81, tag,
    octet (r.outcome.code + mark r.reference.isSome 5 + mark r.state.isSome 6
      + mark r.lease.isSome 7),
    r.index, r.generation, octet r.stateCode, r.lease.getD 0]

/-- The answer to a mailbox command: outcome, response area, and the record whose change the step
staged, if it staged one (R26, R182). -/
structure Answer where
  outcome : OutcomeCode
  response : Vector Byte 24
  staged : Option RecNo := none
  deriving DecidableEq, Repr

/-- The octets of a stamp or of a frame's time in the response area: frame counter in bits 7..4 of
octet 3, superframe number at octets 6 and 7 (13.4). -/
def timeFields (stateCode : Nat) (t : Stamp) : List (Nat × Byte) :=
  [(3, octet (stateCode + 16 * t.counter.toNat)), (6, highOctet t.number), (7, lowOctet t.number)]

/-- The response area of a completion by application: reference, state and time (R69, R185). -/
def appliedResponse (index generation : Byte) (st : CircuitState) (t : Stamp) : Vector Byte 24 :=
  respond ([(0, octet (1 + 2 + 8)), (1, index), (2, generation)] ++ timeFields st.code t)

/-- The response area of a completion by withdrawal: reference and state (R74, R185). -/
def withdrawnResponse (index generation : Byte) (st : CircuitState) : Vector Byte 24 :=
  respond [(0, octet (1 + 2)), (1, index), (2, generation), (3, octet st.code)]

/-- The number of a host-owned or line-owned record's owner field: link in bits 2..0, HOST bit 3
(13.4). -/
def ownerField : Option Owner → Nat
  | none => 0
  | some .host => 8
  | some (.link k) => k.val

/-- A list's element as a number field, 0 past its end. -/
def fieldAt (l : List Nat) (j : Nat) : Nat := (l[j]?).getD 0

/-- The response area of a QUERY: a record's fields as they stand (R49; 13.4). DEDUCED for the order
of the destination links (assumption 12). -/
def queryResponse (i : RecNo) (r : Record) : Vector Byte 24 :=
  let links := r.dests.map Group.link
  let slots := r.dests.map Group.slot
  let isConstant : Bool := match r.source with | some (.constant _) => true | _ => false
  let stampTime := r.stamp.getD ⟨0, 0⟩
  respond ([
    (0, octet (1 + 2 + mark r.lease.isSome 2 + mark r.stamp.isSome 3
      + 16 * retireCode r.retireCause + mark r.attention 6)),
    (1, indexOctet i), (2, r.generation)]
    ++ timeFields r.state.code stampTime ++ [
    (4, (r.lease.map Lease.remaining).getD 0), (5, (r.lease.map Lease.granted).getD 0),
    (8, octet (ownerField r.owner + mark isConstant 4 + 32 * r.width)),
    (9, match r.source with
        | some (.position l _) => octet l
        | some (.constant v) => v
        | none => 0),
    (10, match r.source with | some (.position _ q) => octet q | _ => 0),
    (11, octet (r.dests.length + 8 * stagedKindCode r.staged + 64 * stagedCauseCode r.staged)),
    (12, octet (fieldAt links 0 + 16 * fieldAt links 1)),
    (13, octet (fieldAt links 2 + 16 * fieldAt links 3)),
    (14, octet (fieldAt slots 0)), (15, octet (fieldAt slots 1)),
    (16, octet (fieldAt slots 2)), (17, octet (fieldAt slots 3)),
    (18, highOctet r.tag), (19, lowOctet r.tag),
    (20, match r.staged with
        | none => 0
        | some st => octet (cutoverCode st.cutover + match st.change with
            | .add g | .drop g => 8 * g.link
            | .move (.position l _) => 8 * l
            | .move (.constant _) => 4
            | _ => 0)),
    (21, match r.staged with
        | some ⟨.add g, _, _⟩ | some ⟨.drop g, _, _⟩ => octet g.slot
        | some ⟨.move (.position _ q), _, _⟩ => octet q
        | some ⟨.move (.constant v), _, _⟩ => v
        | _ => 0),
    (22, match r.staged with | some ⟨_, .atSuperframe n, _⟩ => highOctet n | _ => 0),
    (23, match r.staged with | some ⟨_, .atSuperframe n, _⟩ => lowOctet n | _ => 0)])

/-- The response area of a LOCATE: the entry, and for a claim its phase and the claimant's reference
(R51; 13.4). -/
def locateResponse (e : PosEntry) (generationOf : RecNo → Byte) : Vector Byte 24 :=
  match e with
  | .claimed i _ =>
    respond [(0, 1), (1, indexOctet i), (2, generationOf i), (9, octet (entryCode e)),
      (10, octet (phaseCode e))]
  | _ => respond [(9, octet (entryCode e))]

/-- The response area of a READ_REFERRAL: all zero for EMPTY (R172; 13.4). -/
def referralResponse : Option Referral → Vector Byte 24
  | none => respond []
  | some r =>
    let superframe : Bool := match r.cutover with | .nextSuperframe => true | _ => false
    respond [
      (0, 1), (1, indexOctet r.circuit), (2, r.generation),
      (9, r.tag), (10, r.remaining), (11, r.lease),
      (12, octet r.sourceLink), (13, octet r.sourceSlot), (14, octet (r.width + mark superframe 4)),
      (15, octet r.dests.length),
      (16, octet (fieldAt (r.dests.map Group.link) 0)),
      (17, octet (fieldAt (r.dests.map Group.slot) 0)),
      (18, octet (fieldAt (r.dests.map Group.link) 1)),
      (19, octet (fieldAt (r.dests.map Group.slot) 1)),
      (20, octet (fieldAt (r.dests.map Group.link) 2)),
      (21, octet (fieldAt (r.dests.map Group.slot) 2)),
      (22, octet (fieldAt (r.dests.map Group.link) 3)),
      (23, octet (fieldAt (r.dests.map Group.slot) 3))]

/-- The response area of a SET_SUPERFRAME: the time after the step (R107; 13.4). -/
def timeResponse (t : Stamp) : Vector Byte 24 := respond ((0, octet 8) :: timeFields 0 t)

/-- The response area of a DECIDE: the link, and the referral's reference with the record's state
when a referral was found (R173; 13.4). DEDUCED (assumption 18). -/
def decideResponse (link : Byte) (found : Option (Byte × Byte × CircuitState)) : Vector Byte 24 :=
  match found with
  | none => respond [(8, link)]
  | some (i, g, st) =>
    respond [(0, octet (1 + 2)), (1, i), (2, g), (3, octet st.code), (8, link)]

/-! ## Notices -/

/-- The notices of R159. -/
inductive Notice where
  | live
  | changed
  | retiredLease
  | retiredHost
  | retiredAdopted
  deriving DecidableEq, Repr

/-- A notice as a message, with its notice number and the record's reference (R159, R160; 13.2). -/
def Notice.message (n : Notice) (number index generation : Byte) : List Byte :=
  match n with
  | .live => Decode.withCheck [0x82, number, index, generation]
  | .changed => Decode.withCheck [0x84, number, index, generation]
  | .retiredLease => Decode.withCheck [0x83, number, index, generation, 1]
  | .retiredHost => Decode.withCheck [0x83, number, index, generation, 2]
  | .retiredAdopted => Decode.withCheck [0x83, number, index, generation, 3]

end Sys2Proof.Machine
end

