-- ==== Sys2Proof/Machine/Ops.lean ====
section
/-! DEFINITION. The operations that several steps share: reading and writing the tables, claims and
their phases, attention, entry into FREE and RETIRED, the change queue, completion of the mailbox,
and the messages handed to a link. -/

namespace Sys2Proof.Machine

/-! ## Tables -/

/-- Every element of a list, with its place, through one function. -/
def updateFrom {α : Type} (f : Nat → α → α) : Nat → List α → List α
  | _, [] => []
  | i, a :: rest => f i a :: updateFrom f (i + 1) rest

theorem length_updateFrom {α : Type} (f : Nat → α → α) (l : List α) :
    ∀ i, (updateFrom f i l).length = l.length := by
  induction l with
  | nil => intro i; rfl
  | cons a rest ih => intro i; simp [updateFrom, ih]

/-- Every element of a table, with its place, through one function. -/
def updateAll {α : Type} {n : Nat} (v : Vector α n) (f : Nat → α → α) : Vector α n :=
  ⟨(updateFrom f 0 v.toList).toArray, by simp [length_updateFrom]⟩

/-- The circuit record at an index. -/
def State.record (s : State) (i : RecNo) : Record := s.manager.table[i]

/-- The circuit record at an index is written. -/
def State.setRecord (i : RecNo) (r : Record) (s : State) : State :=
  { s with manager := { s.manager with table := s.manager.table.set i r } }

/-- The link channel of a link. -/
def State.link (s : State) (k : LinkNo) : Link := s.links[k]

/-- The link channel of a link is written. -/
def State.setLink (k : LinkNo) (l : Link) (s : State) : State :=
  { s with links := s.links.set k l }

/-- The referral record of a link, none when it is EMPTY. -/
def State.referral (s : State) (k : LinkNo) : Option Referral := s.referrals.records[k]

/-- The referral record of a link is written. -/
def State.setReferral (k : LinkNo) (r : Option Referral) (s : State) : State :=
  { s with referrals := { s.referrals with records := s.referrals.records.set k r } }

/-- The change queue is written. -/
def State.setQueue (q : List QueueEntry) (s : State) : State :=
  { s with manager := { s.manager with queue := q } }

/-! ## The position map and the egress program -/

/-- The place of a position in the map: ingress plane first, then by link, then by slot. -/
def positionPlace (p : Plane) (link slot : Nat) : Nat :=
  (match p with | .ingress => 0 | .egress => 320) + Config.slotsPerFrame * link + slot

/-- The plane of a place in the map. -/
def placePlane (n : Nat) : Plane := if n < 320 then .ingress else .egress

/-- The position map entry of a position (R17). There is no position outside links 0 to 7 and slots
0 to 39: it reads FIXED, and no request reaches it past the position-range check (R31). DESIGN
CHOICE (assumption 20). -/
def State.entry (s : State) (p : Plane) (link slot : Nat) : PosEntry :=
  if link < 8 ∧ slot < Config.slotsPerFrame then
    (s.manager.map[positionPlace p link slot]?).getD .fixed
  else .fixed

/-- Every entry of the position map through one function of its position. -/
def State.updateMap (f : Plane → Nat → Nat → PosEntry → PosEntry) (s : State) : State :=
  { s with manager := { s.manager with
      map := updateAll s.manager.map fun n e => f (placePlane n) (n % 320 / 40) (n % 40) e } }

/-- The egress program entry of an egress bearer position (R76): NONE where there is no such entry.
-/
def State.programEntry (s : State) (link slot : Nat) : ProgramEntry :=
  if link < 8 ∧ slot < Config.bearerSlots then
    (s.manager.program[Config.bearerSlots * link + slot]?).getD .noEntry
  else .noEntry

/-- Every entry of the egress program through one function of its position. -/
def State.updateProgram (f : Nat → Nat → ProgramEntry → ProgramEntry) (s : State) : State :=
  { s with manager := { s.manager with
      program := updateAll s.manager.program fun n e => f (n / 38) (n % 38) e } }

/-- A position lies in a slot group of a width. -/
def inGroup (g : Group) (width link slot : Nat) : Bool :=
  link == g.link && decide (g.slot ≤ slot) && decide (slot < g.slot + width)

/-- An ingress position lies in a source of a width. A CONSTANT source names none (R3). -/
def inSource (src : Option Source) (width link slot : Nat) : Bool :=
  match src with
  | some (.position l q) => inGroup ⟨l, q⟩ width link slot
  | _ => false

/-- A position lies in one of the groups that an OPEN names: the source on the ingress plane, the
destinations on the egress plane. -/
def inCircuit (src : Option Source) (dests : List Group) (width : Nat) (p : Plane)
    (link slot : Nat) : Bool :=
  match p with
  | .ingress => inSource src width link slot
  | .egress => dests.any fun g => inGroup g width link slot

/-- The OPEN positions that a test picks become claimed JOINING by a record (R19). -/
def State.claim (i : RecNo) (picks : Plane → Nat → Nat → Bool) (s : State) : State :=
  s.updateMap fun p l q e => if e = .openPos ∧ picks p l q then .claimed i .joining else e

/-- The claims of a record in one phase, at the positions that a test picks, become another entry
(R19). A claim in another phase is left as it is. -/
def State.rephase (i : RecNo) (picks : Plane → Nat → Nat → Bool) (old : Phase) (new : PosEntry)
    (s : State) : State :=
  s.updateMap fun p l q e => if e = .claimed i old ∧ picks p l q then new else e

/-- Every position. -/
def everywhere : Plane → Nat → Nat → Bool := fun _ _ _ => true

/-- The positions of one egress group. -/
def egressGroup (g : Group) (width : Nat) : Plane → Nat → Nat → Bool
  | .egress, l, q => inGroup g width l q
  | .ingress, _, _ => false

/-- Every claim of a record, in any phase, is released to OPEN (R11, R12). -/
def State.releaseClaims (i : RecNo) (s : State) : State :=
  s.updateMap fun _ _ _ e =>
    match e with
    | .claimed j _ => if j = i then .openPos else e
    | _ => e

/-- What the egress program names for slot j of a source (R63). -/
def sourceEntry (src : Option Source) (j : Nat) : ProgramEntry :=
  match src with
  | some (.position l q) => .ingress l (q + j)
  | some (.constant v) => .constant v
  | none => .noEntry

/-- The program entries of a group are set to the corresponding slots of a source (R63). -/
def State.programGroup (g : Group) (width : Nat) (src : Option Source) (s : State) : State :=
  s.updateProgram fun l q e => if inGroup g width l q then sourceEntry src (q - g.slot) else e

/-- The program entries of a group are set to NONE (R65). -/
def State.clearGroup (g : Group) (width : Nat) (s : State) : State :=
  s.updateProgram fun l q e => if inGroup g width l q then .noEntry else e

/-! ## Attention, FREE and RETIRED -/

/-- Attention is set on a record. From clear to set, the count goes up and ATTENTION is raised (R14).
-/
def State.setAttention (i : RecNo) (s : State) : State :=
  if (s.record i).attention then s
  else
    let s := s.setRecord i { s.record i with attention := true }
    State.raise attentionEvent
      { s with manager := { s.manager with attentionCount := s.manager.attentionCount + 1 } }

/-- Attention is cleared on a record. From set to clear, the count goes down (R15). -/
def State.clearAttention (i : RecNo) (s : State) : State :=
  if (s.record i).attention then
    let s := s.setRecord i { s.record i with attention := false }
    { s with manager := { s.manager with attentionCount := s.manager.attentionCount - 1 } }
  else s

/-- A record enters FREE: claims released, attention cleared, every field absent but the generation
(R11). -/
def State.freeRecord (i : RecNo) (s : State) : State :=
  let s := (s.releaseClaims i).clearAttention i
  s.setRecord i { generation := (s.record i).generation }

/-- A record enters RETIRED: claims released, staged change absent, cause written, attention set, the
other fields kept (R12). -/
def State.retireRecord (i : RecNo) (cause : RetireCause) (s : State) : State :=
  let s := s.releaseClaims i
  State.setAttention i (s.setRecord i
    { s.record i with state := .retired, staged := none, retireCause := some cause })

/-! ## The change queue -/

/-- The change queue has room for an entry (R57). -/
def State.queueHasRoom (s : State) : Bool := decide (s.manager.queue.length < Config.queueRoom)

/-- A change is staged on a record: its staged change field is written and an unmarked entry is made
at the end of the queue, tagged with the tally of the frame in progress (R58, R59). -/
def State.stage (i : RecNo) (change : Change) (cutover : Cutover) (cause : Cause) (s : State) :
    State :=
  let s := s.setRecord i { s.record i with staged := some ⟨change, cutover, cause⟩ }
  s.setQueue (s.manager.queue ++ [⟨i, change.kind, cutover, s.timing.tally, false⟩])

/-- The entry of a record leaves the queue, and the entries behind it close up (R57). -/
def State.removeEntry (i : RecNo) (s : State) : State :=
  s.setQueue (s.manager.queue.filter fun e => e.circuit ≠ i)

/-- The mailbox awaits the entry of a record (R57). -/
def State.isAwaited (i : RecNo) (s : State) : Bool :=
  s.manager.queue.any fun e => e.circuit = i && e.awaited

/-- The entry of a record is marked awaited (R182). -/
def State.markAwaited (i : RecNo) (s : State) : State :=
  s.setQueue (s.manager.queue.map fun e => if e.circuit = i then { e with awaited := true } else e)

/-- Every awaited mark is cleared (R69). -/
def State.clearAwaited (s : State) : State :=
  s.setQueue (s.manager.queue.map fun e => { e with awaited := false })

/-- The lowest record of which a test holds. -/
def State.firstRecord (s : State) (p : Record → Bool) : Option RecNo :=
  (List.finRange 192).find? fun i => p (s.record i)

/-- A record waits for deferred staging: ACTIVE, with a lease at remaining count 0 (R117). -/
def Record.waits (r : Record) : Bool :=
  r.state = .active && (match r.lease with | some l => l.remaining == 0 | none => false)

/-- A DEACTIVATE of cause LEASE is staged on an ACTIVE record, which goes to CLOSING (R75, R116). -/
def State.stageExpiry (i : RecNo) (s : State) : State :=
  let s := s.rephase i everywhere .live (.claimed i .leaving)
  let s := s.stage i .deactivate .nextFrame .lease
  s.setRecord i { s.record i with state := .closing }

/-- Deferred expiry staging: at most so many times, the lowest waiting record is served while the
queue has room (R75, R116). -/
def State.serveWaiting : Nat → State → State
  | 0, s => s
  | n + 1, s =>
    if s.queueHasRoom then
      match s.firstRecord Record.waits with
      | some i => State.serveWaiting n (s.stageExpiry i)
      | none => s
    else s

/-! ## The mailbox -/

/-- A completion of the mailbox: the outcome is written, the sequence count goes up, the refused-write
indicator is cleared, the state is READY and MAILBOX is raised (R183). The response area is written
apart. -/
def State.complete (code : OutcomeCode) (s : State) : State :=
  State.raise mailboxEvent { s with mailbox := { s.mailbox with
    outcome := code
    sequence := s.mailbox.sequence + 1
    refusedWrite := false
    awaiting := false } }

/-- The response area is written (R185). -/
def State.setResponse (v : Vector Byte 24) (s : State) : State :=
  { s with mailbox := { s.mailbox with response := v } }

/-- The awaited change of a record has been withdrawn: the mailbox completes with WITHDRAWN, with the
record's state as the step leaves it (R74). -/
def State.completeWithdrawn (i : RecNo) (st : CircuitState) (s : State) : State :=
  (s.setResponse (withdrawnResponse (indexOctet i) (s.record i).generation st)).complete .withdrawn

/-! ## Messages to a link -/

/-- The link has a session: UP or STALLED (R160). -/
def Link.hasSession (l : Link) : Bool := l.state = .up || l.state = .stalled

/-- A RESULT for a link's in-process request: it joins the outbound queue and the request leaves, or
it is HELD for want of room, or it is discarded where the link has no session (R155). -/
def Link.placeResult (msg : List Byte) (l : Link) : Link :=
  if l.hasSession then
    if l.outbound.length < Config.outboundRoom then
      { l with outbound := l.outbound ++ [msg], inProcess := none }
    else { l with inProcess := l.inProcess.map fun q => { q with phase := .held msg } }
  else { l with inProcess := none }

/-- A HELD RESULT joins the outbound queue as soon as it has room, and the in-process request leaves
(R161). -/
def Link.enterHeld (l : Link) : Link :=
  match l.inProcess with
  | some ⟨_, _, _, .held msg⟩ =>
    if l.outbound.length < Config.outboundRoom then
      { l with outbound := l.outbound ++ [msg], inProcess := none }
    else l
  | _ => l

/-- A notice reaches a link (R160, R162): with a session it takes the notice count as its number and
joins the queue if there is room. A notice that does not join sets the notice-lost indicator and
raises NOTICE_LOST. -/
def State.notify (k : LinkNo) (n : Notice) (index generation : Byte) (s : State) : State :=
  let l := s.link k
  if l.hasSession then
    let counted := { l with noticeCount := l.noticeCount + 1 }
    if l.outbound.length < Config.outboundRoom then
      s.setLink k { counted with
        outbound := l.outbound ++ [n.message l.noticeCount index generation] }
    else State.raise noticeLostEvent (s.setLink k { counted with noticeLost := true })
  else State.raise noticeLostEvent (s.setLink k { l with noticeLost := true })

/-- A notice for an owner, about a record. A record owned by the host, or by nobody, has none (R2). -/
def State.notifyOwner (owner : Option Owner) (n : Notice) (i : RecNo) (generation : Byte)
    (s : State) : State :=
  match owner with
  | some (.link k) => s.notify k n (indexOctet i) generation
  | _ => s

/-- The RESULT of link k's in-process request is made and placed (R155). -/
def State.answerLine (k : LinkNo) (reply : Reply) (s : State) : State :=
  match (s.link k).inProcess with
  | some q => s.setLink k ((s.link k).placeResult (reply.result q.tag))
  | none => s

end Sys2Proof.Machine
end

