-- ==== Sys2Proof/Machine/Requests.lean ====
section
/-! DEFINITION. Taking a circuit request (02_circuit_requests.md): the nine checks in their order, and
what acceptance does. Each request is one function of the requester, the fields it reads and the
state; the host's commands and the line messages both come here. -/

namespace Sys2Proof.Machine

/-- Who makes a request (R24). -/
inductive Requester where
  | host
  | line (k : LinkNo)
  deriving DecidableEq, Repr

/-- The cause of a change that a requester stages (R25). -/
def Requester.cause : Requester → Cause
  | .host => .host
  | .line _ => .owner

/-- The owner of a circuit that a requester opens (R2). -/
def Requester.owner : Requester → Owner
  | .host => .host
  | .line k => .link k

/-- A request taken: the answer, the record whose change it staged, and the state after it. -/
structure Taken where
  reply : Reply
  staged : Option RecNo
  after : State

/-! ## The check order -/

/-- The outcome of a check that fails. -/
def failIf (failed : Bool) (code : OutcomeCode) : Option OutcomeCode :=
  if failed then some code else none

/-- The first check that fails, in the order of R27. -/
def firstFailure (checks : List (Option OutcomeCode)) : Option OutcomeCode := checks.findSome? id

/-- A reference with this generation to this record is known (R13). -/
def Record.known (r : Record) (generation : Byte) : Bool :=
  r.generation == generation && r.state != .free && r.state != .retired

/-- The record that a reference names, none when the reference is unknown (R13). -/
def State.lookup (s : State) (index generation : Byte) : Option RecNo :=
  match recordOf index with
  | some i => if (s.record i).known generation then some i else none
  | none => none

/-- The requests that name a circuit by reference (R29), with the value that RENEW carries. -/
inductive Naming where
  | add
  | drop
  | move
  | release
  | renew (v : Byte)
  | cancel
  | adopt
  | status
  deriving DecidableEq, Repr

/-- The state check (R30). -/
def Naming.stateCheck (q : Naming) (r : Record) : Option OutcomeCode :=
  let byLease : Bool := match r.staged with | some st => st.cause = .lease | none => false
  match r.state, q with
  | _, .status => none
  | .referred, _ => some .pending
  | .opening, .add | .opening, .drop | .opening, .move => some .pending
  | .opening, _ => none
  | .active, .add => failIf (4 ≤ r.dests.length) .limit
  | .active, .drop => failIf (r.dests.length ≤ 1) .limit
  | .active, _ => none
  | .altering, .add | .altering, .drop | .altering, .move | .altering, .release => some .pending
  | .altering, _ => none
  | .closing, .add | .closing, .drop | .closing, .move => some .pending
  | .closing, .release | .closing, .renew _ => some (if byLease then .retiring else .pending)
  | .closing, .cancel | .closing, .adopt => failIf byLease .retiring
  | .free, _ | .retired, _ => none

/-- The ownership check (R29). -/
def Naming.ownerCheck (q : Naming) (who : Requester) (r : Record) : Option OutcomeCode :=
  match who with
  | .line k => failIf (r.owner ≠ some (.link k)) .notOwner
  | .host => failIf (q = .renew 0 && r.owner != some .host) .notOwner

/-- The circuit-named check: reference, ownership, state (R29). -/
def State.circuitCheck (s : State) (who : Requester) (q : Naming) (index generation : Byte) :
    Option OutcomeCode :=
  match s.lookup index generation with
  | none => some .unknownCircuit
  | some i => firstFailure [q.ownerCheck who (s.record i), q.stateCheck (s.record i)]

/-- A slot group lies on a link 0 to 7 and within the bearer slots (R31). -/
def Group.inRange (g : Group) (width : Nat) : Bool :=
  decide (g.link < 8) && decide (g.slot + width ≤ Config.bearerSlots)

/-- A source lies within the part. A CONSTANT source names no position (R31). -/
def sourceInRange (src : Option Source) (width : Nat) : Bool :=
  match src with
  | some (.position l q) => Group.inRange ⟨l, q⟩ width
  | _ => true

/-- Two groups of one width share a slot on one link (R32). -/
def Group.overlaps (a b : Group) (width : Nat) : Bool :=
  a.link == b.link && decide (a.slot < b.slot + width) && decide (b.slot < a.slot + width)

/-- Some two groups of a list overlap (R32). -/
def anyOverlap (width : Nat) : List Group → Bool
  | [] => false
  | g :: rest => (rest.any fun h => g.overlaps h width) || anyOverlap width rest

/-- A link is in the reach set of link k (R37). -/
def State.reaches (s : State) (k : LinkNo) (link : Nat) : Bool :=
  (s.manager.reach[k]).getLsbD link

/-- The reach check for the links that a request names (R33). Host requests are not subject to it. -/
def State.reachCheck (s : State) (who : Requester) (links : List Nat) : Option OutcomeCode :=
  match who with
  | .host => none
  | .line k => failIf (!(links.all fun l => s.reaches k l)) .notPermitted

/-- The cutover-distance check (R34). -/
def State.cutoverCheck (s : State) (cutover : Option Cutover) : Option OutcomeCode :=
  match cutover with
  | some (.atSuperframe n) =>
    let distance := (n - s.timing.number).toNat
    failIf (!(decide (1 ≤ distance) && decide (distance ≤ Config.farthestCutover))) .badCutover
  | _ => none

/-- The positions of a slot group. -/
def groupPositions (p : Plane) (g : Group) (width : Nat) : List (Plane × Nat × Nat) :=
  (List.range width).map fun j => (p, g.link, g.slot + j)

/-- The positions of a source. -/
def sourcePositions (src : Option Source) (width : Nat) : List (Plane × Nat × Nat) :=
  match src with
  | some (.position l q) => groupPositions .ingress ⟨l, q⟩ width
  | _ => []

/-- An entry is a claim, in any phase. -/
def PosEntry.isClaimed : PosEntry → Bool
  | .claimed _ _ => true
  | _ => false

/-- The barred-and-busy check over the positions a request would newly claim (R35). -/
def State.positionsCheck (s : State) (ps : List (Plane × Nat × Nat)) : Option OutcomeCode :=
  firstFailure [
    failIf (ps.any fun x => s.entry x.1 x.2.1 x.2.2 = .barred) .positionBarred,
    failIf (ps.any fun x => (s.entry x.1 x.2.1 x.2.2).isClaimed) .positionBusy]

/-- The queue-room check (R36). -/
def State.roomCheck (s : State) : Option OutcomeCode := failIf (!s.queueHasRoom) .queueFull

/-! ## Answers -/

/-- The answer to an accepted request that names a circuit: the record as it stands after acceptance
(R26). -/
def State.report (i : RecNo) (s : State) : Reply where
  outcome := .ok
  reference := some (indexOctet i, (s.record i).generation)
  state := some (s.record i).state
  lease := (s.record i).lease.map Lease.remaining

/-- A request on a circuit is refused and changes nothing. Its state and lease are reported when the
refusal comes at or after the circuit-named check and the reference is known (R26). -/
def State.refuse (s : State) (code : OutcomeCode) (format : Option OutcomeCode)
    (index generation : Byte) : Taken :=
  let bare : Reply := { outcome := code, reference := some (index, generation) }
  let reply : Reply :=
    match format, s.lookup index generation with
    | none, some i =>
      { bare with
        state := some (s.record i).state
        lease := (s.record i).lease.map Lease.remaining }
    | _, _ => bare
  ⟨reply, none, s⟩

/-- A request on a circuit: refused at the first check that fails, or accepted on the record that it
names (R27). -/
def State.decideOn (s : State) (index generation : Byte) (format : Option OutcomeCode)
    (checks : Record → List (Option OutcomeCode)) (accept : RecNo → Option RecNo × State) : Taken :=
  match s.lookup index generation with
  | none => s.refuse (format.getD .unknownCircuit) format index generation
  | some i =>
    match firstFailure (format :: checks (s.record i)) with
    | some code => s.refuse code format index generation
    | none => ⟨(accept i).2.report i, (accept i).1, (accept i).2⟩

/-- The state of a record is written. -/
def State.setCircuitState (i : RecNo) (st : CircuitState) (s : State) : State :=
  s.setRecord i { s.record i with state := st }

/-- An accepted request of the owning line unit sets attention (R14). -/
def State.attend (who : Requester) (i : RecNo) (s : State) : State :=
  match who with
  | .host => s
  | .line _ => s.setAttention i

/-! ## OPEN -/

/-- The format check of an OPEN (R28). -/
def OpenFields.formatCheck (f : OpenFields) (who : Requester) : Option OutcomeCode :=
  failIf (f.width == 0 || decide (4 < f.width) || f.count == 0 || decide (4 < f.count)
    || f.source.isNone || f.cutover.isNone || (who != .host && f.lease == 0)) .badFormat

/-- The links that an OPEN names, for the reach check (R33). -/
def OpenFields.links (f : OpenFields) : List Nat :=
  (match f.source with | some (.position l _) => [l] | _ => []) ++ f.dests.map Group.link

/-- The positions that an OPEN would claim (R35). -/
def OpenFields.positions (f : OpenFields) : List (Plane × Nat × Nat) :=
  sourcePositions f.source f.width ++ f.dests.flatMap fun g => groupPositions .egress g f.width

/-- The record that allocation takes: the lowest FREE one, else the lowest RETIRED one (R9). -/
def State.available (s : State) : Option RecNo :=
  match s.firstRecord fun r => r.state = .free with
  | some i => some i
  | none => s.firstRecord fun r => r.state = .retired

/-- The checks of an OPEN, without the queue-room check when it is to be referred (R27, R40). -/
def State.openCheck (s : State) (who : Requester) (referred : Bool) (f : OpenFields) :
    Option OutcomeCode :=
  firstFailure [
    f.formatCheck who,
    failIf (!(sourceInRange f.source f.width && f.dests.all fun g => g.inRange f.width))
      .badPosition,
    failIf (anyOverlap f.width f.dests) .overlap,
    s.reachCheck who f.links,
    s.cutoverCheck f.cutover,
    s.positionsCheck f.positions,
    failIf s.available.isNone .noRecord,
    if referred then none else s.roomCheck]

/-- Allocation of a record for an accepted OPEN, with the claims of its new state (R10, R38). -/
def State.allocate (i : RecNo) (owner : Owner) (f : OpenFields) (st : CircuitState) (s : State) :
    State :=
  let s := s.clearAttention i
  let s := s.setRecord i {
    generation := (s.record i).generation + 1
    state := st
    owner := some owner
    source := f.source
    width := f.width
    dests := f.dests
    lease := if f.lease = 0 then none else some ⟨f.lease, f.lease⟩
    tag := f.tag }
  s.claim i (inCircuit f.source f.dests f.width)

/-- Acceptance of a host OPEN, or of a line OPEN on an AUTO link (R38, R39). -/
def State.acceptOpen (i : RecNo) (who : Requester) (f : OpenFields) (s : State) : State :=
  let s := s.allocate i who.owner f .opening
  (s.stage i .activate (f.cutover.getD .nextFrame) who.cause).attend who i

/-- An OPEN that is not to be referred is taken (R38, R39). -/
def State.takeOpen (who : Requester) (f : OpenFields) (s : State) : Taken :=
  match s.openCheck who false f, s.available with
  | none, some i => ⟨(s.acceptOpen i who f).report i, some i, s.acceptOpen i who f⟩
  | code, _ => ⟨{ outcome := code.getD .noRecord }, none, s⟩

/-! ## ADD, DROP and MOVE -/

/-- Acceptance of an ADD (R41). -/
def State.acceptAdd (i : RecNo) (who : Requester) (g : Group) (cutover : Cutover) (s : State) :
    State :=
  let s := s.claim i (egressGroup g (s.record i).width)
  let s := s.stage i (.add g) cutover who.cause
  (s.setCircuitState i .altering).attend who i

/-- An ADD is taken (R41). -/
def State.takeAdd (who : Requester) (index generation : Byte) (g : Group)
    (cutover : Option Cutover) (s : State) : Taken :=
  s.decideOn index generation (failIf cutover.isNone .badFormat)
    (fun r => [
      s.circuitCheck who .add index generation,
      failIf (!g.inRange r.width) .badPosition,
      failIf (r.dests.any fun h => g.overlaps h r.width) .overlap,
      s.reachCheck who [g.link],
      s.cutoverCheck cutover,
      s.positionsCheck (groupPositions .egress g r.width),
      s.roomCheck])
    fun i => (some i, s.acceptAdd i who g (cutover.getD .nextFrame))

/-- Acceptance of a DROP (R42). -/
def State.acceptDrop (i : RecNo) (who : Requester) (g : Group) (cutover : Cutover) (s : State) :
    State :=
  let s := s.rephase i (egressGroup g (s.record i).width) .live (.claimed i .leaving)
  let s := s.stage i (.drop g) cutover who.cause
  (s.setCircuitState i .altering).attend who i

/-- A DROP is taken. The group must be one of the record's destinations (R31, R42). -/
def State.takeDrop (who : Requester) (index generation : Byte) (g : Group)
    (cutover : Option Cutover) (s : State) : Taken :=
  s.decideOn index generation (failIf cutover.isNone .badFormat)
    (fun r => [
      s.circuitCheck who .drop index generation,
      failIf (!(g.inRange r.width && r.dests.contains g)) .badPosition,
      s.reachCheck who [g.link],
      s.cutoverCheck cutover,
      s.roomCheck])
    fun i => (some i, s.acceptDrop i who g (cutover.getD .nextFrame))

/-- The ingress positions of one source outside another (R21). -/
def sourceOutside (src other : Option Source) (width : Nat) : Plane → Nat → Nat → Bool
  | .ingress, l, q => inSource src width l q && !inSource other width l q
  | .egress, _, _ => false

/-- Acceptance of a MOVE (R21, R43). -/
def State.acceptMove (i : RecNo) (src : Source) (cutover : Cutover) (s : State) : State :=
  let r := s.record i
  let s := s.claim i (sourceOutside (some src) r.source r.width)
  let s := s.rephase i (sourceOutside r.source (some src) r.width) .live (.claimed i .leaving)
  let s := s.stage i (.move src) cutover .host
  s.setCircuitState i .altering

/-- A MOVE is taken, from the host only (R43). -/
def State.takeMove (index generation : Byte) (src : Option Source) (cutover : Option Cutover)
    (s : State) : Taken :=
  s.decideOn index generation (failIf (cutover.isNone || src.isNone) .badFormat)
    (fun r => [
      s.circuitCheck .host .move index generation,
      failIf (!sourceInRange src r.width) .badPosition,
      s.cutoverCheck cutover,
      s.positionsCheck ((sourcePositions src r.width).filter fun x =>
        !inSource r.source r.width x.2.1 x.2.2),
      s.roomCheck])
    fun i => (some i, s.acceptMove i (src.getD (.constant 0)) (cutover.getD .nextFrame))

/-! ## RELEASE and CANCEL -/

/-- A RELEASE of an ACTIVE record stages a DEACTIVATE (R44). -/
def State.releaseActive (i : RecNo) (who : Requester) (cutover : Cutover) (s : State) : State :=
  let s := s.rephase i everywhere .live (.claimed i .leaving)
  let s := s.stage i .deactivate cutover who.cause
  (s.setCircuitState i .closing).attend who i

/-- The host ends an OPENING record: its ACTIVATE is withdrawn, the record goes to FREE, a line owner
is told, and deferred staging follows (R45, R71, R75). -/
def State.hostEndsOpening (i : RecNo) (s : State) : State :=
  let r := s.record i
  let s := (s.removeEntry i).freeRecord i
  (s.notifyOwner r.owner .retiredHost i r.generation).serveWaiting 1

/-- The owning line unit releases an OPENING record: its ACTIVATE is withdrawn, the record goes to
RETIRED, an awaiting mailbox completes, and deferred staging follows (R45, R72, R75). -/
def State.lineEndsOpening (i : RecNo) (s : State) : State :=
  let awaited := s.isAwaited i
  let s := (s.removeEntry i).retireRecord i .lineRelease
  let s := if awaited then s.completeWithdrawn i .retired else s
  s.serveWaiting 1

/-- Acceptance of a RELEASE (R44, R45). -/
def State.acceptRelease (i : RecNo) (who : Requester) (cutover : Cutover) (s : State) :
    Option RecNo × State :=
  if (s.record i).state = .opening then
    match who with
    | .host => (none, s.hostEndsOpening i)
    | .line _ => (none, s.lineEndsOpening i)
  else (some i, s.releaseActive i who cutover)

/-- A RELEASE is taken. Queue room is needed on an ACTIVE record only (R36, R44). -/
def State.takeRelease (who : Requester) (index generation : Byte) (cutover : Option Cutover)
    (s : State) : Taken :=
  s.decideOn index generation (failIf cutover.isNone .badFormat)
    (fun r => [
      s.circuitCheck who .release index generation,
      s.cutoverCheck cutover,
      if r.state = .active then s.roomCheck else none])
    fun i => s.acceptRelease i who (cutover.getD .nextFrame)

/-- The claim changes of an acceptance are reversed: JOINING to OPEN, LEAVING to LIVE (R70). -/
def State.withdrawClaims (i : RecNo) (s : State) : State :=
  (s.rephase i everywhere .joining .openPos).rephase i everywhere .leaving (.claimed i .live)

/-- A host CANCEL of an alteration or of a release: the record returns to ACTIVE, a line owner whose
own change it was is told, and deferred staging follows (R46, R70, R71, R75). -/
def State.cancelChange (i : RecNo) (s : State) : State :=
  let r := s.record i
  let s := (s.withdrawClaims i).removeEntry i
  let s := s.setRecord i { r with state := .active, staged := none }
  let s := match r.staged with
    | some st => if st.cause = Cause.owner then s.notifyOwner r.owner .changed i r.generation else s
    | none => s
  s.serveWaiting 1

/-- Acceptance of a CANCEL, by the record's state (R46). -/
def State.acceptCancel (i : RecNo) (s : State) : State :=
  match (s.record i).state with
  | .opening => s.hostEndsOpening i
  | .altering | .closing => s.cancelChange i
  | _ => s

/-- A CANCEL is taken, from the host only (R46). -/
def State.takeCancel (index generation : Byte) (s : State) : Taken :=
  s.decideOn index generation none
    (fun _ => [s.circuitCheck .host .cancel index generation])
    fun i => (none, s.acceptCancel i)

/-! ## RENEW, ADOPT and STATUS -/

/-- Acceptance of a RENEW: the lease is set to V, or removed when V is 0 (R47). -/
def State.acceptRenew (i : RecNo) (v : Byte) (s : State) : State :=
  s.setRecord i { s.record i with lease := if v = 0 then none else some ⟨v, v⟩ }

/-- A RENEW is taken. A line RENEW of 0 fails the format check (R28, R47). -/
def State.takeRenew (who : Requester) (index generation v : Byte) (s : State) : Taken :=
  s.decideOn index generation (failIf (who != .host && v == 0) .badFormat)
    (fun _ => [s.circuitCheck who (.renew v) index generation])
    fun i => (none, s.acceptRenew i v)

/-- Acceptance of an ADOPT (R48). -/
def State.acceptAdopt (i : RecNo) (s : State) : State :=
  let r := s.record i
  let s := s.setRecord i { r with
    owner := some .host
    lease := none
    staged := r.staged.map fun st => if st.cause = Cause.owner then { st with cause := .host } else st }
  s.notifyOwner r.owner .retiredAdopted i r.generation

/-- An ADOPT is taken, from the host only (R48). -/
def State.takeAdopt (index generation : Byte) (s : State) : Taken :=
  s.decideOn index generation none
    (fun _ => [s.circuitCheck .host .adopt index generation])
    fun i => (none, s.acceptAdopt i)

/-- A STATUS is taken, from a line unit only, and changes nothing (R50). -/
def State.takeStatus (k : LinkNo) (index generation : Byte) (s : State) : Taken :=
  s.decideOn index generation none
    (fun _ => [s.circuitCheck (.line k) .status index generation])
    fun _ => (none, s)

/-! ## Reading the table, barring positions -/

/-- A record matches a filter (R52). -/
def Filter.matches (f : Filter) (r : Record) : Bool :=
  match f with
  | .inUse => r.state != .free && r.state != .retired
  | .attention => r.attention
  | .owner o => r.state != .free && r.owner == some o
  | .staged => r.staged.isSome
  | .retired => r.state = .retired
  | .expiredWaiting => r.waits

/-- A QUERY is taken: the record's fields as they stand; then, with acknowledge, attention is
cleared and a RETIRED record goes to FREE (R49). DEDUCED for the response area of a refusal
(assumption 11). -/
def State.takeQuery (index options : Byte) (s : State) : Answer × State :=
  match recordOf index with
  | none => (⟨.unknownCircuit, respond [], none⟩, s)
  | some i =>
    (⟨.ok, queryResponse i (s.record i), none⟩,
      if options.getLsbD 0 then
        if (s.record i).state = .retired then s.freeRecord i else s.clearAttention i
      else s)

/-- A LOCATE is taken (R51). DEDUCED for the response area of a refusal (assumption 11). -/
def State.takeLocate (plane link slot : Byte) (s : State) : Answer :=
  match planeOf plane with
  | none => ⟨.badFormat, respond [], none⟩
  | some p =>
    if link.toNat < 8 ∧ slot.toNat < Config.slotsPerFrame then
      ⟨.ok, locateResponse (s.entry p link.toNat slot.toNat) fun i => (s.record i).generation, none⟩
    else ⟨.badPosition, respond [], none⟩

/-- A NEXT is taken (R52). DEDUCED for the response area of a refusal (assumption 11). -/
def State.takeNext (start filter owner : Byte) (s : State) : Answer :=
  match filterOf filter owner with
  | none => ⟨.badFormat, respond [], none⟩
  | some f =>
    match (List.finRange 192).find? fun i =>
        decide (start.toNat ≤ i.val) && f.matches (s.record i) with
    | none => ⟨.ok, respond [], none⟩
    | some i =>
      ⟨.ok, respond [(0, octet (1 + 2)), (1, indexOctet i), (2, (s.record i).generation),
        (3, octet (s.record i).state.code)], none⟩

/-- The entry of one bearer position is written. -/
def State.setEntry (p : Plane) (link slot : Nat) (new : PosEntry) (s : State) : State :=
  s.updateMap fun p' l q e => if p' = p ∧ l = link ∧ q = slot then new else e

/-- A BAR or UNBAR is taken; `new` is the entry it makes (R53). DEDUCED for the response area
(assumption 11). -/
def State.takeBar (new : PosEntry) (plane link slot : Byte) (s : State) : Answer × State :=
  match planeOf plane with
  | none => (⟨.badFormat, respond [], none⟩, s)
  | some p =>
    if link.toNat < 8 ∧ slot.toNat < Config.bearerSlots then
      if (s.entry p link.toNat slot.toNat).isClaimed then (⟨.positionBusy, respond [], none⟩, s)
      else (⟨.ok, respond [], none⟩, s.setEntry p link.toNat slot.toNat new)
    else (⟨.badPosition, respond [], none⟩, s)

end Sys2Proof.Machine
end

