-- ==== Sys2Proof/Machine/Cutover.lean ====
section
/-! DEFINITION. Cutover (03_cutover_and_the_change_queue.md): when an entry falls due, the application
of each kind of staged change, and the application step at a frame start. -/

namespace Sys2Proof.Machine

/-- An entry falls due at the frame start last handed on (R60). An AT_SUPERFRAME entry falls due where
that superframe start set the number to n and the number still stands at n: while the entry is staged
SET_SUPERFRAME is refused (R107) and the number is not yet n (R34), so a number that stands elsewhere
shows that the entry was made after that superframe start, at which nothing made later is due (R59):
DEDUCED (assumption 20). -/
def State.due (s : State) (e : QueueEntry) : Bool :=
  let f := s.manager.frame
  match e.cutover with
  | .nextFrame => f.tally == e.tally + 1
  | .nextSuperframe => f.superframe && f.tally != e.tally
  | .atSuperframe n => f.superframe && f.number == n && s.timing.number == n

/-- The program entries of every destination of a record are set to a source (R63, R66). -/
def State.programAll (dests : List Group) (width : Nat) (src : Option Source) (s : State) : State :=
  dests.foldl (fun s g => s.programGroup g width src) s

/-- The program entries of every destination of a record are set to NONE (R67). -/
def State.clearAll (dests : List Group) (width : Nat) (s : State) : State :=
  dests.foldl (fun s g => s.clearGroup g width) s

/-- The application of an ACTIVATE (R63). -/
def State.applyActivate (i : RecNo) (f : FrameInfo) (s : State) : State :=
  let r := s.record i
  let s := s.rephase i everywhere .joining (.claimed i .live)
  let s := s.programAll r.dests r.width r.source
  let s := s.setRecord i
    { r with state := .active, staged := none, stamp := some ⟨f.number, f.counter⟩ }
  s.notifyOwner r.owner .live i r.generation

/-- An alteration made by the host is told to a line owner by CHANGED (R68). -/
def State.tellAltered (r : Record) (cause : Cause) (i : RecNo) (s : State) : State :=
  if cause = .host then s.notifyOwner r.owner .changed i r.generation else s

/-- The application of an ADD (R64). -/
def State.applyAdd (i : RecNo) (g : Group) (cause : Cause) (s : State) : State :=
  let r := s.record i
  let s := s.rephase i (egressGroup g r.width) .joining (.claimed i .live)
  let s := s.programGroup g r.width r.source
  let s := s.setRecord i { r with state := .active, staged := none, dests := r.dests ++ [g] }
  s.tellAltered r cause i

/-- The application of a DROP (R65). -/
def State.applyDrop (i : RecNo) (g : Group) (cause : Cause) (s : State) : State :=
  let r := s.record i
  let s := s.rephase i (egressGroup g r.width) .leaving .openPos
  let s := s.clearGroup g r.width
  let s := s.setRecord i
    { r with state := .active, staged := none, dests := r.dests.filter fun h => h ≠ g }
  s.tellAltered r cause i

/-- The application of a MOVE (R66). -/
def State.applyMove (i : RecNo) (src : Source) (cause : Cause) (s : State) : State :=
  let r := s.record i
  let s := s.rephase i (sourceOutside r.source (some src) r.width) .leaving .openPos
  let s := s.rephase i (sourceOutside (some src) r.source r.width) .joining (.claimed i .live)
  let s := s.programAll r.dests r.width (some src)
  let s := s.setRecord i { r with state := .active, staged := none, source := some src }
  s.tellAltered r cause i

/-- The application of a DEACTIVATE: the record goes where its cause takes it (R67, R68). -/
def State.applyDeactivate (i : RecNo) (cause : Cause) (s : State) : State :=
  let r := s.record i
  let s := s.clearAll r.dests r.width
  match cause with
  | .host => (s.freeRecord i).notifyOwner r.owner .retiredHost i r.generation
  | .owner => s.retireRecord i .lineRelease
  | .lease => (s.retireRecord i .leaseExpired).notifyOwner r.owner .retiredLease i r.generation

/-- The application of a record's staged change, by its kind (R63 to R67). -/
def State.applyChange (i : RecNo) (f : FrameInfo) (s : State) : State :=
  match (s.record i).staged with
  | none => s
  | some st =>
    match st.change with
    | .activate => s.applyActivate i f
    | .add g => s.applyAdd i g st.cause
    | .drop g => s.applyDrop i g st.cause
    | .move src => s.applyMove i src st.cause
    | .deactivate => s.applyDeactivate i st.cause

/-- The application of one due entry. An awaited one completes the mailbox with OK, the state after
application and the time of the frame begun (R69). -/
def State.applyEntry (f : FrameInfo) (s : State) (e : QueueEntry) : State :=
  let s := s.applyChange e.circuit f
  if e.awaited then
    (s.setResponse (appliedResponse (indexOctet e.circuit) (s.record e.circuit).generation
      (s.record e.circuit).state ⟨f.number, f.counter⟩)).complete .ok
  else s

/-- The application step of a frame start: every due entry, oldest first; the entries leave the queue;
then deferred staging for the entries removed (R62, R75). -/
def State.applyDue (s : State) : State :=
  let f := s.manager.frame
  let due := s.manager.queue.filter fun e => s.due e
  let rest := s.manager.queue.filter fun e => !s.due e
  State.serveWaiting due.length ((due.foldl (State.applyEntry f) s).setQueue rest)

/-- The Circuit Manager takes the application step of the last frame start, once (R62). -/
def State.takeApplication (s : State) : State :=
  if s.manager.applicationDue then
    State.applyDue { s with manager := { s.manager with applicationDue := false } }
  else s

end Sys2Proof.Machine
end

