-- ==== Sys2Proof/Machine/Lease.lean ====
section
/-! DEFINITION. The lease monitor (06_leases.md): the tick divider, the lease tick, and expiry in each
state. -/

namespace Sys2Proof.Machine

/-- The lease of a record counts (R111). -/
def Record.counts (r : Record) : Bool :=
  (r.state = .opening || r.state = .active || r.state = .altering)
    && (match r.lease with | some l => l.remaining != 0 | none => false)

/-- A counting lease is reduced by one (R112, step 1). -/
def Record.countDown (r : Record) : Record :=
  if r.counts then
    { r with lease := r.lease.map fun l => { l with remaining := l.remaining - 1 } }
  else r

/-- The lease of a record runs out at the next tick: it counts, and stands at 1 (R112). -/
def Record.runsOut (r : Record) : Bool :=
  r.counts && (match r.lease with | some l => l.remaining == 1 | none => false)

/-- The records whose lease the next tick brings to 0, in ascending order of index (R112). -/
def State.runningOut (s : State) : List RecNo :=
  (List.finRange 192).filter fun i => (s.record i).runsOut

/-- Step 1 of a tick: every counting lease is reduced by one (R112). -/
def State.countLeases (s : State) : State :=
  { s with manager := { s.manager with
      table := updateAll s.manager.table fun _ r => r.countDown } }

/-- Expiry in OPENING: the ACTIVATE is withdrawn and the record retires; a line owner is told and an
awaiting mailbox completes (R73, R114). -/
def State.expireOpening (i : RecNo) (s : State) : State :=
  let r := s.record i
  let awaited := s.isAwaited i
  let s := (s.removeEntry i).retireRecord i .leaseExpired
  let s := s.notifyOwner r.owner .retiredLease i r.generation
  if awaited then s.completeWithdrawn i .retired else s

/-- The entry of a record is rewritten in place as an unmarked DEACTIVATE for the next frame (R73). -/
def State.rewriteEntry (i : RecNo) (s : State) : State :=
  s.setQueue (s.manager.queue.map fun e =>
    if e.circuit = i then ⟨i, .deactivate, .nextFrame, s.timing.tally, false⟩ else e)

/-- Expiry in ALTERING: the alteration is withdrawn and its entry becomes a DEACTIVATE of cause LEASE;
an awaiting mailbox completes (R73, R115). -/
def State.expireAltering (i : RecNo) (s : State) : State :=
  let awaited := s.isAwaited i
  let s := s.withdrawClaims i
  let s := s.rephase i everywhere .live (.claimed i .leaving)
  let s := s.rewriteEntry i
  let s := s.setRecord i
    { s.record i with state := .closing, staged := some ⟨.deactivate, .nextFrame, .lease⟩ }
  if awaited then s.completeWithdrawn i .closing else s

/-- Expiry of one record, by its state. An ACTIVE record is left to the staging pass (R112, step 2).
-/
def State.expire (s : State) (i : RecNo) : State :=
  match (s.record i).state with
  | .opening => s.expireOpening i
  | .altering => s.expireAltering i
  | _ => s

/-- The lease tick, one whole step (R112): counts down; sets attention on the expired records and
handles them in ascending order; then stages the waiting ACTIVE records while there is room (R116).
-/
def State.leaseTick (s : State) : State :=
  let expired := s.runningOut
  let s := expired.foldl (fun s i => s.setAttention i) s.countLeases
  let s := expired.foldl State.expire s
  State.serveWaiting (Config.queueRoom - s.manager.queue.length) s

/-- The Circuit Manager takes the lease tick handed to it, once (R110, R112). A lease set after the
superframe start that made the tick, and before the tick is taken, is reduced by it, one tick sooner
than R113 counts from a divider at 0: DEDUCED from R118 and R120 (assumption 23). -/
def State.takeTick (s : State) : State :=
  if s.manager.tickDue then
    State.leaseTick { s with manager := { s.manager with tickDue := false } }
  else s

/-- A superframe start advances the divider; from 63 to 0 it hands on a lease tick (R110). DEDUCED
(assumption 5). -/
def State.advanceDivider (s : State) : State :=
  { s with manager := { s.manager with
      divider := s.manager.divider + 1
      tickDue := s.manager.tickDue || s.manager.divider == 63 } }

end Sys2Proof.Machine
end

