-- ==== Sys2Proof/Machine/Referral.lean ====
section
/-! DEFINITION. The Referral Unit (09_referral.md): entry, countdown and timeout, the host verdict, and
the ends of a referral. -/

namespace Sys2Proof.Machine

/-- Link k has policy REFER (R167). -/
def State.refers (s : State) (k : LinkNo) : Bool := s.referrals.policy.getLsbD k

/-- Entry into referral: the record is allocated in REFERRED, the referral record is WAITING, REFERRAL
is raised and the in-process request is REFERRED (R40, R169). -/
def State.enterReferral (k : LinkNo) (i : RecNo) (tag : Byte) (f : OpenFields) (s : State) :
    State :=
  let s := s.allocate i (.link k) f .referred
  let source : Nat × Nat := match f.source with | some (.position l q) => (l, q) | _ => (0, 0)
  let s := s.setReferral k (some {
    circuit := i
    generation := (s.record i).generation
    tag := tag
    sourceLink := source.1
    sourceSlot := source.2
    width := f.width
    cutover := f.cutover.getD .nextFrame
    lease := f.lease
    dests := f.dests
    remaining := s.referrals.timeout })
  let s := State.raise referralEvent s
  let l := s.link k
  s.setLink k { l with inProcess := l.inProcess.map fun q => { q with phase := .referred } }

/-- A superframe start reduces the count of link k's WAITING referral; from 1 to 0 it hands a
timeout to the Circuit Manager (R171). DEDUCED (assumption 5). -/
def State.countReferral (s : State) (k : LinkNo) : State :=
  match s.referral k with
  | none => s
  | some r =>
    if r.remaining = 0 then s
    else
      let s := s.setReferral k (some { r with remaining := r.remaining - 1 })
      if r.remaining = 1 then
        { s with manager := { s.manager with
            timeouts := s.manager.timeouts ++ [⟨k, r.circuit, r.generation⟩] } }
      else s

/-- A superframe start at the Referral Unit (R171). The manual gives no order among the timeouts that one
superframe start hands on (R24): the model hands them on in ascending order of link, and takes them so
where no command names one. DESIGN CHOICE (assumption 1). -/
def State.countReferrals (s : State) : State := (List.finRange 8).foldl State.countReferral s

/-- A referral is denied: claims released, the record FREE, RESULT DENIED placed, the referral record
EMPTY (R174). -/
def State.denyReferral (k : LinkNo) (r : Referral) (s : State) : State :=
  let s := s.freeRecord r.circuit
  let s := s.answerLine k
    { outcome := .denied, reference := some (indexOctet r.circuit, r.generation) }
  s.setReferral k none

/-- A timeout denies the referral that it names, if that still waits (R171). -/
def State.timeOut (s : State) (t : Timeout) : State :=
  match s.referral t.link with
  | some r =>
    if r.circuit = t.circuit ∧ r.generation = t.generation then s.denyReferral t.link r else s
  | none => s

/-- The list of timeouts handed on is written. -/
def State.setTimeouts (ts : List Timeout) (s : State) : State :=
  { s with manager := { s.manager with timeouts := ts } }

/-- The oldest timeout handed on for a link is taken (R171). -/
def State.takeTimeout (k : LinkNo) (s : State) : State :=
  match s.manager.timeouts.find? fun t => t.link = k with
  | none => s
  | some t => (s.setTimeouts (s.manager.timeouts.erase t)).timeOut t

/-- Every timeout handed on is taken, oldest first (R171), and those of one superframe start in ascending
order of link: DESIGN CHOICE (assumption 1). -/
def State.takeTimeouts (s : State) : State :=
  s.manager.timeouts.foldl State.timeOut (s.setTimeouts [])

/-- Acceptance of an APPROVE: the ACTIVATE is staged with the line's cutover and cause OWNER, the
record goes to OPENING, RESULT OK is placed, the referral record is EMPTY (R173). -/
def State.approveReferral (k : LinkNo) (r : Referral) (s : State) : State :=
  let s := s.stage r.circuit .activate r.cutover .owner
  let s := s.setCircuitState r.circuit .opening
  let s := s.answerLine k (s.report r.circuit)
  s.setReferral k none

/-- DECIDE is taken: its checks in order, then the verdict (R173, R174). -/
def State.takeDecide (link verdict : Byte) (s : State) : Answer × State :=
  match linkOf link, verdict.toNat with
  | some k, 1 =>
    match s.referral k with
    | none => (⟨.noReferral, decideResponse link none, none⟩, s)
    | some r =>
      let found (s : State) := some (indexOctet r.circuit, r.generation, (s.record r.circuit).state)
      if s.queueHasRoom then
        let s := s.approveReferral k r
        (⟨.ok, decideResponse link (found s), some r.circuit⟩, s)
      else (⟨.queueFull, decideResponse link (found s), none⟩, s)
  | some k, 2 =>
    match s.referral k with
    | none => (⟨.noReferral, decideResponse link none, none⟩, s)
    | some r =>
      let s := s.denyReferral k r
      (⟨.ok, decideResponse link
        (some (indexOctet r.circuit, r.generation, (s.record r.circuit).state)), none⟩, s)
  | _, _ => (⟨.badFormat, decideResponse link none, none⟩, s)

/-- READ_REFERRAL is taken (R172). DEDUCED for the response area of a refusal (assumption 11). -/
def State.takeReadReferral (link : Byte) (s : State) : Answer :=
  match linkOf link with
  | none => ⟨.badFormat, respond [], none⟩
  | some k => ⟨.ok, referralResponse (s.referral k), none⟩

/-- A referral ends with no message, as its link's session is cleared: the record goes to FREE and the
referral record is EMPTY (R175). -/
def State.endReferral (k : LinkNo) (s : State) : State :=
  match s.referral k with
  | some r => (s.freeRecord r.circuit).setReferral k none
  | none => s

end Sys2Proof.Machine
end

