-- ==== Sys2Proof/Machine/Link.lean ====
section
/-! DEFINITION. The Link Control Channels (07_control_slot_transfer.md; 08_line_messages.md): the pair
presented, the link states and the session, the send and receive machines, and the handling of an
arrival in its steps. -/

namespace Sys2Proof.Machine

/-! ## The pair presented -/

/-- A handshake octet with valid presence (R127; 13.1). -/
def handshakeOctet (offer seq final ack refuse : Bool) : Byte :=
  octet (0xA0 + mark offer 4 + mark seq 3 + mark final 2 + mark ack 1 + mark refuse 0)

/-- The head message of the outbound queue. -/
def Link.head (l : Link) : List Byte := l.outbound.headD []

/-- The pair that a channel presents in its present state (R126, R128). -/
def Link.pairNow (l : Link) : Pair :=
  match l.state with
  | .disabled => ⟨0xFF, 0xFF, .other⟩
  | .absent =>
    if 0 < l.withdrawal then ⟨0xFF, 0xFF, .withdrawal⟩
    else ⟨0xFF, handshakeOctet false false false true false, .ready⟩
  | .up =>
    match l.onOffer with
    | some j =>
      ⟨(l.head[j]?).getD 0xFF,
        handshakeOctet true l.sendSeq (j + 1 == l.head.length) l.receiveAck
          (decide (0 < l.refusalDisplay)), .other⟩
    | none =>
      ⟨0xFF, handshakeOctet false l.sendSeq false l.receiveAck (decide (0 < l.refusalDisplay)),
        .other⟩
  | .stalled =>
    ⟨0xFF, handshakeOctet false l.sendSeq false l.receiveAck (decide (0 < l.refusalDisplay)), .other⟩

/-- Step 7 of an arrival: the pair for the next frame is presented (R134). -/
def Link.present (l : Link) : Link := { l with presented := l.pairNow, arrived := true }

/-- A frame start at a channel: the pair of the new frame is the pair presented at the arrival of
the frame that ended, or the pair as it stands when no arrival was handled for it (R86). DEDUCED
(assumption 8). -/
def Link.beginFrame (l : Link) : Link :=
  { l with presented := if l.arrived then l.presented else l.pairNow, arrived := false }

/-- Frames stop at a channel: the frame in progress is not completed, and the frame that resumes has no
arrival before it, so that its pair is the pair as it stands then (R86, R147). -/
def Link.endFrame (l : Link) : Link := { l with arrived := false }

/-! ## Link states and the session -/

/-- Clearing a session at the channel: steps 1 to 3 of R133. -/
def Link.clear (l : Link) : Link :=
  { l with assembly := [], assemblyCount := 0, inProcess := none, outbound := [], onOffer := none }

/-- Clearing a link's session, with the end of its referral (R133, R175). -/
def State.clearSession (k : LinkNo) (s : State) : State :=
  let s := s.endReferral k
  s.setLink k (s.link k).clear

/-- The pair presented by a channel that the host or a control-plane reset stops or starts between two
arrivals. From the next frame on it is FFh in both octets (R130): a pair already presented for that
frame gives way to it, and the frame in progress keeps its pair. Either was presented before the entry
into ABSENT (R131). DEDUCED (assumption 8). -/
def Link.cutPair (l : Link) : Pair :=
  if l.arrived then ⟨0xFF, 0xFF, .other⟩ else { l.presented with kind := .other }

/-- Entry into ABSENT: withdrawal begins, in which the part presents invalid presence for 4 frames before
it presents valid presence again (R126, R131). The pair already presented was presented before the
entry. -/
def Link.enterAbsent (l : Link) : Link :=
  { l with
    state := .absent
    withdrawal := Config.withdrawalFrames
    presence := 0
    presented := l.cutPair }

/-- Entry into UP: the session starts with SEQ 0, expected SEQ 0 and ACK 1 (R126, R131, R160). -/
def Link.enterUp (l : Link) : Link :=
  { l with
    state := .up
    sendSeq := false
    expectedSeq := false
    receiveAck := true
    onOffer := none
    assembly := []
    ackCount := 0
    assemblyCount := 0
    loss := 0
    refusalSeen := 0
    run := 0
    refusalDisplay := 0
    refusalLatch := false
    noticeCount := 0 }

/-- Every per-link item of R129 at its device-reset value. The notice count and the notice-lost
indicator are not among them (R160, R163): DEDUCED (assumption 14). -/
def Link.resetItems (l : Link) : Link :=
  { noticeCount := l.noticeCount
    noticeLost := l.noticeLost
    enable := l.enable
    presented := l.cutPair
    arrived := l.arrived }

/-- A host write of ENABLE 0 (R130). -/
def State.disableLink (k : LinkNo) (s : State) : State :=
  if (s.link k).state = .disabled then s
  else
    let s := s.clearSession k
    State.raise (linkEvent k) (s.setLink k { (s.link k).resetItems with
      enable := false, state := .disabled })

/-- A host write of ENABLE 1 (R130). -/
def State.enableLink (k : LinkNo) (s : State) : State :=
  if (s.link k).state = .disabled then
    State.raise (linkEvent k) (s.setLink k { (s.link k).enterAbsent with enable := true })
  else s

/-- The part of a control-plane reset that falls to one link (R149, R163). -/
def State.resetLink (s : State) (k : LinkNo) : State :=
  if (s.link k).enable then
    let s := s.clearSession k
    s.setLink k { (s.link k).resetItems with noticeLost := false }
  else s.setLink k { s.link k with noticeLost := false }

/-! ## Sending -/

/-- An acknowledgement of the octet on offer (R136). The head message leaves with its last octet, and
a HELD RESULT takes the room (R161). -/
def Link.acknowledge (l : Link) : Link :=
  match l.onOffer with
  | none => l
  | some j =>
    if j + 1 < l.head.length then
      { l with sendSeq := !l.sendSeq, onOffer := some (j + 1), ackCount := 0 }
    else
      Link.enterHeld
        { l with sendSeq := !l.sendSeq, outbound := l.outbound.tail, onOffer := none }

/-- The count of refusals seen (R137), before a refusal is recognised. -/
def Link.seeRefusal (valid refuse : Bool) (l : Link) : Link :=
  if !valid then { l with refusalSeen := 0 }
  else if refuse then
    if l.refusalLatch then l else { l with refusalSeen := l.refusalSeen + 1 }
  else { l with refusalSeen := 0, refusalLatch := false }

/-- A refusal is recognised at this count (R137). -/
def Link.recognises (l : Link) : Bool := decide (Config.refusalFrames ≤ l.refusalSeen)

/-- A recognised refusal drops the message that has an octet on offer (R137). -/
def Link.dropRefused (l : Link) : Link :=
  if l.recognises then
    let l := { l with refusalSeen := 0, refusalLatch := true }
    if l.onOffer.isSome then
      Link.enterHeld { l with outbound := l.outbound.tail, onOffer := none, ackCount := 0 }
    else l
  else l

/-- Entry into STALLED (R139). A HELD RESULT joins the emptied queue (R161). -/
def Link.stall (l : Link) : Link :=
  Link.enterHeld { l with state := .stalled, onOffer := none, outbound := [] }

/-- The acknowledge count of an octet that stays on offer (R138). -/
def Link.countAck (timeout : Byte) (l : Link) : Link :=
  let l := { l with ackCount := l.ackCount + 1 }
  if timeout.toNat ≤ l.ackCount then l.stall else l

/-- With nothing on offer, the first octet of the head message is put on offer (R135). -/
def Link.offerHead (l : Link) : Link :=
  if l.state = .up ∧ l.onOffer = none ∧ l.outbound ≠ [] then
    { l with onOffer := some 0, ackCount := 0 }
  else l

/-- Steps 2 to 5 of an arrival in UP (R134). -/
def Link.sendSteps (timeout : Byte) (valid ack refuse : Bool) (l : Link) : Link :=
  let acked := valid && l.onOffer.isSome && ack == l.sendSeq
  let seen := (if acked then l.acknowledge else l).seeRefusal valid refuse
  let dropped := seen.recognises && seen.onOffer.isSome
  let settled := seen.dropRefused
  let counted :=
    if l.onOffer.isSome && !acked && !dropped then settled.countAck timeout else settled
  counted.offerHead

/-! ## Receiving -/

/-- A refusal by the receive machine (R145). -/
def Link.refuseMessage (l : Link) : Link :=
  { l with assembly := [], assemblyCount := 0, run := 0, refusalDisplay := Config.refusalShown }

/-- A finished message becomes the in-process request (R141, R152): handed on as a circuit request, or
answered at once by RESULT BAD_FORMAT. -/
def Link.finishMessage (msg : List Byte) (l : Link) : Link :=
  let l := { l with assembly := [] }
  let kind := msg.headD 0
  let tag := msg.tail.headD 0
  match Decode.lineRequest msg with
  | some q => { l with inProcess := some ⟨kind, tag, some q, .handed⟩ }
  | none =>
    Link.placeResult (Reply.result tag { outcome := .badFormat })
      { l with inProcess := some ⟨kind, tag, none, .handed⟩ }

/-- An octet is taken (R141). -/
def Link.takeOctet (chan : Byte) (seq final : Bool) (l : Link) : Link :=
  let msg := l.assembly ++ [chan]
  let l := { l with
    assembly := msg
    receiveAck := seq
    expectedSeq := !l.expectedSeq
    assemblyCount := 0 }
  if final then l.finishMessage msg else l

/-- The confirmation run after an arrival (R140). -/
def Link.nextRun (valid displayed : Bool) (shown : Shown) (l : Link) : Nat :=
  if !valid || displayed then 0
  else if 0 < l.run ∧ l.before = shown then min 3 (l.run + 1)
  else 1

/-- Step 6 of an arrival in UP or STALLED (R140 to R145). -/
def Link.receiveStep (cfg : Settings) (valid : Bool) (shown : Shown) (l : Link) : Link :=
  let displayed := decide (0 < l.refusalDisplay)
  let run := l.nextRun valid displayed shown
  let eligible := valid && shown.offer && shown.seq == l.expectedSeq
  let l := { l with
    run := run
    before := shown
    refusalDisplay := l.refusalDisplay - 1 }
  if eligible then
    if displayed || decide (run < cfg.confirmCount.toNat) then l
    else if l.assembly = [] ∧ l.inProcess.isSome then l
    else if l.assembly.length = Config.longestMessage then l.refuseMessage
    else if shown.final ∧ l.assembly.length < 2 then l.refuseMessage
    else l.takeOctet shown.channel shown.seq shown.final
  else if l.assembly = [] then l
  else
    let l := { l with assemblyCount := l.assemblyCount + 1 }
    if cfg.assemblyTimeout.toNat ≤ l.assemblyCount then l.refuseMessage else l

/-! ## Handling an arrival -/

/-- What an arrival shows beside its presence (R127; 13.1). -/
def shownBy (chan hs : Byte) : Shown :=
  ⟨chan, hs.getLsbD 4, hs.getLsbD 3, hs.getLsbD 2⟩

/-- An arrival handled in ABSENT, by the pair that its frame carried (R131). -/
def State.absentArrival (k : LinkNo) (valid : Bool) (s : State) : State :=
  let l := s.link k
  match l.presented.kind with
  | .withdrawal => s.setLink k { l with withdrawal := l.withdrawal - 1 }
  | .other => s
  | .ready =>
    if valid then
      let l := { l with presence := l.presence + 1 }
      if Config.presenceFrames ≤ l.presence then
        State.raise (linkEvent k) (s.setLink k l.enterUp)
      else s.setLink k l
    else s.setLink k { l with presence := 0 }

/-- The loss count after an arrival (R132). -/
def Link.nextLoss (valid : Bool) (l : Link) : Nat := if valid then 0 else l.loss + 1

/-- The end of a session for want of presence, as the line unit's withdrawal brings it about (R126, R132). DEDUCED for the loss count (assumption 17). -/
def State.loseSession (k : LinkNo) (s : State) : State :=
  let s := s.clearSession k
  State.raise (linkEvent k) (s.setLink k (s.link k).enterAbsent)

/-- The steps of an arrival at a channel that keeps its session (R134): sending in UP, the refusal
count alone in STALLED, then receiving. DEDUCED for a request that leaves within the arrival
(assumption 10). -/
def Link.sessionSteps (cfg : Settings) (valid : Bool) (chan hs : Byte) (l : Link) : Link :=
  let sent :=
    if l.state = .up then l.sendSteps cfg.ackTimeout valid (hs.getLsbD 1) (hs.getLsbD 0)
    else (l.seeRefusal valid (hs.getLsbD 0)).dropRefused
  sent.receiveStep cfg valid (shownBy chan hs)

/-- An arrival handled in UP or STALLED (R132, R134, R138). -/
def State.sessionArrival (k : LinkNo) (valid : Bool) (chan hs : Byte) (s : State) : State :=
  let l := { s.link k with loss := (s.link k).nextLoss valid }
  let s := s.setLink k l
  if Config.lossFrames ≤ l.loss then s.loseSession k
  else
    let after := l.sessionSteps s.settings valid chan hs
    let s := s.setLink k after
    if l.state = .up ∧ after.state = .stalled then State.raise (linkEvent k) s else s

/-- A control-slot arrival on link k is handled, and the pair for the next frame presented (R127,
R134). No arrival is handed to a channel while frames are absent (R85, R88). -/
def State.arrival (k : LinkNo) (chan hs : Byte) (s : State) : State :=
  if s.timing.state = .acquiring then s
  else
    let valid := handshakePresent hs
    let s :=
      match (s.link k).state with
      | .disabled => s
      | .absent => s.absentArrival k valid
      | .up | .stalled => s.sessionArrival k valid chan hs
    s.setLink k (s.link k).present

/-! ## Line requests taken -/

/-- The request that link k has handed to the Circuit Manager and that waits to be taken, with its tag
(R154, R155). -/
def State.handed (k : LinkNo) (s : State) : Option (Byte × LineRequest) :=
  match (s.link k).inProcess with
  | some ⟨_, tag, some q, .handed⟩ => some (tag, q)
  | _ => none

/-- The Circuit Manager's answer to a request of link k is placed, and the state follows (R155). -/
def Taken.finishLine (k : LinkNo) (t : Taken) : State := t.after.answerLine k t.reply

/-- A line OPEN is taken: accepted on an AUTO link, referred on a REFER link (R39, R40). -/
def State.takeLineOpen (k : LinkNo) (tag : Byte) (f : OpenFields) (s : State) : State :=
  if s.refers k then
    match s.openCheck (.line k) true f, s.available with
    | none, some i => s.enterReferral k i tag f
    | code, _ => Taken.finishLine k ⟨{ outcome := code.getD .noRecord }, none, s⟩
  else (s.takeOpen (.line k) f).finishLine k

/-- A handed request of link k is taken by its kind (R153, R155). -/
def State.takeLine (k : LinkNo) (tag : Byte) (q : LineRequest) (s : State) : State :=
  match q with
  | .openCircuit sl ss w sf v ds => s.takeLineOpen k tag (lineOpenFields sl ss w sf v ds)
  | .add i g l f => (s.takeAdd (.line k) i g (groupOf l f) (some .nextFrame)).finishLine k
  | .drop i g l f => (s.takeDrop (.line k) i g (groupOf l f) (some .nextFrame)).finishLine k
  | .release i g => (s.takeRelease (.line k) i g (some .nextFrame)).finishLine k
  | .renew i g v => (s.takeRenew (.line k) i g v).finishLine k
  | .status i g => (s.takeStatus k i g).finishLine k

/-- The Circuit Manager takes link k's handed request if it is of the kind that a test picks. -/
def State.takeHanded (k : LinkNo) (kind : LineRequest → Bool) (s : State) : State :=
  match s.handed k with
  | some (tag, q) => if kind q then s.takeLine k tag q else s
  | none => s

end Sys2Proof.Machine
end

