-- ==== Sys2Proof/Machine/SwitchPath.lean ====
section
/-! DEFINITION. The Switch Path (04_the_switch_path.md): replacement of the held octets at a frame
start, the entry into ACQUIRING, the fill octets, and what the egress lines carry. -/

namespace Sys2Proof.Machine

/-! ## The sample store -/

/-- The octets of the frame in progress on a link: those that the capture holds, then those that a
command brings (R79). -/
def SwitchPath.arrived (w : SwitchPath) (rx : LineOctets) (k : Nat) : List Byte :=
  (w.capture[k]?).getD [] ++ (rx[k]?).getD []

/-- The fill octet of a link, as last written (R84). -/
def SwitchPath.fillOf (w : SwitchPath) (k : Nat) : Byte := (w.fill[k]?).getD 0xFF

/-- The held octets after a frame start that ends a frame: the octet that arrived, or the link's fill
octet where none was complete (R80). -/
def SwitchPath.replaced (w : SwitchPath) (rx : LineOctets) : Vector Byte 304 :=
  updateAll w.held fun n _ => ((w.arrived rx (n / 38))[n % 38]?).getD (w.fillOf (n / 38))

/-- The capture and what is sampled of octets that are not complete are emptied (R80, R85, R88). -/
def SwitchPath.emptied (w : SwitchPath) : SwitchPath :=
  { w with
    capture := Vector.replicate 8 []
    shift := Vector.replicate 8 0
    channelIn := Vector.replicate 8 0 }

/-- A frame start at the Switch Path. One that ends a frame replaces the held octets (R80); one that
resumes frames leaves them (R89). The fill octets last written come in force for sending (R84). -/
def SwitchPath.frameStart (ended : Bool) (rx : LineOctets) (w : SwitchPath) : SwitchPath :=
  { w.emptied with
    held := if ended then w.replaced rx else w.held
    fillInForce := w.fill }

/-- An entry into ACQUIRING at the Switch Path: every held octet becomes its link's fill octet, and the
frame in progress is discarded (R88). -/
def SwitchPath.enterAcquiring (w : SwitchPath) : SwitchPath :=
  { w.emptied with held := updateAll w.held fun n _ => w.fillOf (n / 38) }

/-- A write to FILL_k (R84). -/
def State.writeFill (k : LinkNo) (v : Byte) (s : State) : State :=
  { s with switch := { s.switch with fill := s.switch.fill.set k v } }

/-! ## What leaves the part -/

/-- The held octet of an ingress bearer position (R79). -/
def State.heldOctet (s : State) (link slot : Nat) : Byte :=
  (s.switch.held[Config.bearerSlots * link + slot]?).getD 0xFF

/-- The octet that a slot of a link carries in the frame in progress: by the egress program for a
bearer slot (R81), and the channel's pair in slots 38 and 39 (R86). -/
def State.egressOctet (s : State) (k : LinkNo) (slot : Nat) : Byte :=
  if slot < Config.bearerSlots then
    match s.programEntry k slot with
    | .ingress l q => s.heldOctet l q
    | .constant v => v
    | .noEntry => s.switch.fillInForce[k]
  else if slot = Config.bearerSlots then (s.link k).presented.channel
  else (s.link k).presented.handshake

/-- Frames run: every timing state but ACQUIRING produces them (R87, R88). -/
def State.framesRun (s : State) : Bool := s.timing.state != .acquiring

/-- The bit period of the frame in progress, from 0 (R78). -/
def State.bitPeriod (s : State) : Nat := s.timing.clock - s.timing.frameAt

/-- The level of LOUT k: the bits of the slots, most significant first, in a running frame (R78), and
high while frames are absent (R88). -/
def State.lout (s : State) (k : LinkNo) : Bool :=
  if s.framesRun then (s.egressOctet k (s.bitPeriod / 8)).getLsbD (7 - s.bitPeriod % 8) else true

/-- The level that the part drives on FRM: none in role SLAVE, where FRM is an input; in role MASTER,
high for the first bit period of every frame (R93, R106). -/
def State.frmDriven (s : State) : Option Bool :=
  if s.timing.role = .master then some (s.bitPeriod == 0) else none

/-- The level of SFO: high for the first bit period of a frame that a superframe start began (R106).
-/
def State.sfo (s : State) : Bool :=
  s.framesRun && s.manager.frame.superframe && s.bitPeriod == 0

/-! ## Taking octets from the lines -/

/-- One bit of every LIN line is shifted into its octet, the first to come the most significant (R78).
-/
def SwitchPath.sample (lin : BitVec 8) (w : SwitchPath) : SwitchPath :=
  { w with shift := updateAll w.shift fun k b =>
      (b <<< 1) ||| (BitVec.ofBool (lin.getLsbD k)).setWidth 8 }

/-- The octets of a bearer slot are complete and enter the capture (R79). -/
def SwitchPath.captureOctets (w : SwitchPath) : SwitchPath :=
  { w with capture := updateAll w.capture fun k l => l ++ [(w.shift[k]?).getD 0] }

/-- Slot 38 is complete: the channel octets wait for slot 39 (R85). -/
def SwitchPath.keepChannel (w : SwitchPath) : SwitchPath := { w with channelIn := w.shift }

/-- Slot 39 is complete: every channel is handed its arrival, the channel octet of slot 38 and the
handshake octet of slot 39 (R85). -/
def State.handArrivals (s : State) : State :=
  (List.finRange 8).foldl
    (fun s k => s.arrival k s.switch.channelIn[k] s.switch.shift[k]) s

end Sys2Proof.Machine
end

