-- ==== Sys2Proof/Machine/Timing.lean ====
section
/-! DEFINITION. The Timing Unit (05_frame_and_superframe_timing.md): frame starts and superframe
starts, acquisition, lock, holdover and the role writes; and the rows of the table that are its
events. -/

namespace Sys2Proof.Machine

/-! ## Frame starts -/

/-- The Circuit Manager's work of the frame start before: its application step, then the lease tick,
where either is still to be taken: DEDUCED (assumption 5). -/
def State.settle (s : State) : State := s.takeApplication.takeTick

/-- The frame start is forced to be a superframe start by the marker (R103). `first` is the superframe
start of R96. -/
def Timing.forced (first sfm : Bool) (t : Timing) : Bool :=
  !first && t.markerEnabled && sfm && t.windowOpen && t.counter != 15

/-- The frame start is a superframe start (R102). -/
def Timing.startsSuperframe (first sfm : Bool) (t : Timing) : Bool :=
  first || t.forced first sfm || t.counter == 15

/-- The counts of the Timing Unit after a frame start (R101 to R104). -/
def Timing.counted (first sfm : Bool) (t : Timing) : Timing :=
  let counter : BitVec 4 := if first || t.forced first sfm then 0 else t.counter + 1
  { t with
    tally := t.tally + 1
    counter := counter
    number := if t.startsSuperframe first sfm then t.number + 1 else t.number
    windowOpen := if t.forced first sfm then false else t.windowOpen || counter == 15 }

/-- What a frame start carries, from the counts after it (R101). -/
def Timing.carried (t : Timing) (superframe : Bool) : FrameInfo :=
  ⟨t.tally, t.counter, t.number, superframe⟩

/-- The frame start is handed on (R101): the Switch Path begins its frame, every channel the frame's
pair, the Circuit Manager has an application step to take. -/
def State.handFrame (superframe ended : Bool) (rx : LineOctets) (s : State) : State :=
  { s with
    switch := s.switch.frameStart ended rx
    links := s.links.map Link.beginFrame
    manager := { s.manager with
      frame := s.timing.carried superframe
      applicationDue := true } }

/-- The superframe start is handed to the lease monitor and the Referral Unit (R101, R110, R171). -/
def State.handSuperframe (superframe : Bool) (s : State) : State :=
  if superframe then s.advanceDivider.countReferrals else s

/-- A frame start (R101). `first` is the superframe start that resumes frames or begins FREE_RUN (R96),
`ended` says that a frame was in progress, and the octets are the last of that frame's. -/
def State.frameStart (first ended : Bool) (rx : LineOctets) (s : State) : State :=
  let s := s.settle
  let superframe := s.timing.startsSuperframe first s.pins.sfm
  let s := { s with timing := s.timing.counted first s.pins.sfm }
  (s.handFrame superframe ended rx).handSuperframe superframe

/-! ## Timing states -/

/-- The position at which the frame in progress ends: the expected position of R94. -/
def Timing.expected (t : Timing) : Nat := t.frameAt + Config.framePeriods

/-- The frame about to begin falls at a position, and no bit period before it is still to come. -/
def State.frameFalls (p : Nat) (s : State) : State :=
  { s with timing := { s.timing with frameAt := p, clock := max s.timing.clock p } }

/-- No bit period before a position is still to come. -/
def State.passTo (p : Nat) (s : State) : State :=
  { s with timing := { s.timing with clock := max s.timing.clock p } }

/-- A change of the timing state, which raises TIMING (R109). -/
def State.toTimingState (st : TimingState) (holdoverCount : Nat) (s : State) : State :=
  State.raise timingEvent
    { s with timing := { s.timing with state := st, holdoverCount := holdoverCount } }

/-- Frames stop: the run of pulses begins anew, the sample store is filled, and no channel has an arrival
of a frame before the next (R86, R88, R95, R109, R147). -/
def State.stopFrames (holdoverCount : Nat) (s : State) : State :=
  let s := s.toTimingState .acquiring holdoverCount
  { s with
    timing := { s.timing with consistency := 0, pulseAt := none }
    switch := s.switch.enterAcquiring
    links := s.links.map Link.endFrame }

/-- Entry into ACQUIRING. What the frame starts and superframe starts before it have handed on is taken
first: while frames are absent no entry is applied, no lease expires and no referral times out (R61,
R123, R171). DEDUCED (assumption 5). -/
def State.enterAcquiring (holdoverCount : Nat) (s : State) : State :=
  s.settle.takeTimeouts.stopFrames holdoverCount

/-- The consistency count after a pulse in ACQUIRING (R95). -/
def Timing.nextConsistency (p : Nat) (t : Timing) : Nat :=
  match t.pulseAt with
  | some q => if p = q + Config.framePeriods ∧ 1 ≤ t.consistency then t.consistency + 1 else 1
  | none => 1

/-- A pulse at a position in ACQUIRING (R95, R96). -/
def State.acquirePulse (p : Nat) (s : State) : State :=
  let count := s.timing.nextConsistency p
  if Config.pulsesToLock ≤ count then
    let s := (s.frameFalls p).toTimingState .locked 0
    let s := { s with timing := { s.timing with consistency := 0, pulseAt := none } }
    s.frameStart true false []
  else
    { s with timing := { s.timing with
        consistency := count, pulseAt := some p, clock := max s.timing.clock p } }

/-- The frame in progress has run its 320 bit periods, with or without a pulse at that position (R93,
R97, R98). -/
def State.frameEnds (pulse : Bool) (rx : LineOctets) (s : State) : State :=
  let next := fun (s : State) => (s.frameFalls s.timing.expected).frameStart false true rx
  match s.timing.state with
  | .acquiring => s
  | .freeRun => next s
  | .locked => if pulse then next s else next (s.toTimingState .holdover 1)
  | .holdover =>
    if pulse then next (s.toTimingState .locked 0)
    else if s.timing.holdoverCount + 1 ≤ s.timing.holdoverLimit.toNat then
      next { s with timing := { s.timing with holdoverCount := s.timing.holdoverCount + 1 } }
    else (s.enterAcquiring 0).passTo s.timing.expected

/-- A pulse seen on FRM at a position (R94, R95, R97, R98). In role MASTER the pin is driven and no
pulse is seen (R93). -/
def State.pulse (p : Nat) (rx : LineOctets) (s : State) : State :=
  match s.timing.state with
  | .freeRun => s
  | .acquiring => s.acquirePulse p
  | .locked | .holdover => if p = s.timing.expected then s.frameEnds true rx else s

/-- FRM has been sampled high (R94). -/
def State.frmHigh (s : State) : State := { s with timing := { s.timing with frmBefore := true } }

/-- The level that SFM has from here on. -/
def State.withSfm (sfm : Bool) (s : State) : State := { s with pins := { s.pins with sfm := sfm } }

/-! ## Roles -/

/-- A write of MASTER (R92, R96). The octets are those that its frame completed, where it cuts one
short (R90). DEDUCED for the counts that it keeps (assumption 9). -/
def State.toMaster (rx : LineOctets) (s : State) : State :=
  if s.timing.state = .freeRun then s
  else
    let running := s.framesRun
    let s := (s.frameFalls s.timing.clock).toTimingState .freeRun s.timing.holdoverCount
    let s := { s with timing := { s.timing with role := .master } }
    s.frameStart true running rx

/-- A write of SLAVE (R92, R94). -/
def State.toSlave (s : State) : State :=
  match s.timing.state with
  | .acquiring => s
  | .freeRun =>
    let s := s.enterAcquiring s.timing.holdoverCount
    { s with timing := { s.timing with role := .slave, frmBefore := true } }
  | .locked => s.enterAcquiring s.timing.holdoverCount
  | .holdover => s.enterAcquiring 0

/-! ## The rows of the table -/

/-- WRITE_MASTER (R92). -/
def execWriteMaster (rx : LineOctets) (s : State) : Host.Outcome State Fault Refusal :=
  .next (s.toMaster rx)

/-- WRITE_SLAVE (R92). -/
def execWriteSlave (s : State) : Host.Outcome State Fault Refusal := .next s.toSlave

/-- FRM_PULSE (R94, R95): in role SLAVE the previous sample of FRM is left high: DESIGN CHOICE
(assumption 7). -/
def execFrmPulse (position : Nat) (sfm : Bool) (rx : LineOctets) (s : State) :
    Host.Outcome State Fault Refusal :=
  let s := s.withSfm sfm
  .next (if s.timing.role = .slave then s.frmHigh.pulse position rx else s)

/-- FRAME_START (R101): the frame in progress has run its 320 bit periods. The previous sample of FRM
(R94) is left as it was, with a pulse as without: DESIGN CHOICE (assumption 7). -/
def execFrameStart (pulse sfm : Bool) (rx : LineOctets) (s : State) :
    Host.Outcome State Fault Refusal :=
  .next ((s.withSfm sfm).frameEnds pulse rx)

/-- FLYWHEEL_FRAME_START (R97): the expected position passes with no pulse seen there. DEDUCED
(assumption 3). The previous sample of FRM (R94) is left as it was: DESIGN CHOICE (assumption 7). -/
def execFlywheelFrameStart (sfm : Bool) (rx : LineOctets) (s : State) :
    Host.Outcome State Fault Refusal :=
  .next ((s.withSfm sfm).frameEnds false rx)

/-- HOLDOVER_LIMIT_EXCEEDED (R98): the expected position passes with no pulse seen there; past the
limit the unit enters ACQUIRING. DEDUCED (assumption 3). The previous sample of FRM (R94) is left as it
was: DESIGN CHOICE (assumption 7). -/
def execHoldoverLimitExceeded (sfm : Bool) (rx : LineOctets) (s : State) :
    Host.Outcome State Fault Refusal :=
  .next ((s.withSfm sfm).frameEnds false rx)

end Sys2Proof.Machine
end

