-- ==== Sys2Proof/Machine/Mailbox.lean ====
section
/-! DEFINITION. The mailbox (10_host_port_and_mailbox.md): what each command reads from the request
area and answers, the taking of a command, the wait for a change, ABANDON and the control-plane
reset; and the rows of the table that are host commands. -/

namespace Sys2Proof.Machine

/-! ## What each command does -/

/-- The answer to a circuit request through the mailbox: outcome, response area, and the record whose
change was staged (R182). -/
def Taken.answer (t : Taken) : Answer × State :=
  (⟨t.reply.outcome, t.reply.response, t.staged⟩, t.after)

/-- A host OPEN (R38; 13.3). -/
def State.hostOpen (s : State) : Answer × State := (s.takeOpen .host s.requestOpen).answer

/-- A host ADD (R41; 13.3). -/
def State.hostAdd (s : State) : Answer × State :=
  (s.takeAdd .host (s.request 0) (s.request 1) (groupOf (s.request 2) (s.request 3))
    s.requestCutover).answer

/-- A host DROP (R42; 13.3). -/
def State.hostDrop (s : State) : Answer × State :=
  (s.takeDrop .host (s.request 0) (s.request 1) (groupOf (s.request 2) (s.request 3))
    s.requestCutover).answer

/-- A MOVE (R43; 13.3). -/
def State.hostMove (s : State) : Answer × State :=
  (s.takeMove (s.request 0) (s.request 1)
    (sourceOf (s.request 2) (s.request 3) (s.request 4)) s.requestCutover).answer

/-- A host RELEASE (R44, R45; 13.3). -/
def State.hostRelease (s : State) : Answer × State :=
  (s.takeRelease .host (s.request 0) (s.request 1) s.requestCutover).answer

/-- A host RENEW (R47; 13.3). -/
def State.hostRenew (s : State) : Answer × State :=
  (s.takeRenew .host (s.request 0) (s.request 1) (s.request 2)).answer

/-- A CANCEL (R46; 13.3). -/
def State.hostCancel (s : State) : Answer × State :=
  (s.takeCancel (s.request 0) (s.request 1)).answer

/-- An ADOPT (R48; 13.3). -/
def State.hostAdopt (s : State) : Answer × State :=
  (s.takeAdopt (s.request 0) (s.request 1)).answer

/-- A QUERY (R49; 13.3). -/
def State.hostQuery (s : State) : Answer × State := s.takeQuery (s.request 0) (s.request 1)

/-- A LOCATE (R51; 13.3). -/
def State.hostLocate (s : State) : Answer × State :=
  (s.takeLocate (s.request 0) (s.request 1) (s.request 2), s)

/-- A NEXT (R52; 13.3). -/
def State.hostNext (s : State) : Answer × State :=
  (s.takeNext (s.request 0) (s.request 1) (s.request 2), s)

/-- A BAR (R53; 13.3). -/
def State.hostBar (s : State) : Answer × State :=
  s.takeBar .barred (s.request 0) (s.request 1) (s.request 2)

/-- An UNBAR (R53; 13.3). -/
def State.hostUnbar (s : State) : Answer × State :=
  s.takeBar .openPos (s.request 0) (s.request 1) (s.request 2)

/-- A READ_REFERRAL (R172; 13.3). -/
def State.hostReadReferral (s : State) : Answer × State := (s.takeReadReferral (s.request 0), s)

/-- A DECIDE (R173, R174; 13.3). -/
def State.hostDecide (s : State) : Answer × State := s.takeDecide (s.request 0) (s.request 1)

/-- An entry of the change queue waits for a numbered superframe (R107). -/
def QueueEntry.numbered (e : QueueEntry) : Bool :=
  match e.cutover with
  | .atSuperframe _ => true
  | _ => false

/-- A SET_SUPERFRAME (R107; 13.3). -/
def State.hostSetSuperframe (s : State) : Answer × State :=
  let n := halfOf (s.request 0) (s.request 1)
  if s.manager.queue.any QueueEntry.numbered then
    (⟨.epochLocked, timeResponse ⟨s.timing.number, s.timing.counter⟩, none⟩, s)
  else
    (⟨.ok, timeResponse ⟨n, s.timing.counter⟩, none⟩,
      { s with timing := { s.timing with number := n } })

/-- A command code that names no command, which the Host Port takes itself (R184). -/
def State.hostUndefined (s : State) : Answer × State := (⟨.badFormat, respond [], none⟩, s)

/-- What a command does, by its code (R184). -/
def commandBody (code : BitVec 7) : State → Answer × State :=
  match code.toNat with
  | 0x01 => State.hostOpen
  | 0x02 => State.hostAdd
  | 0x03 => State.hostDrop
  | 0x04 => State.hostMove
  | 0x05 => State.hostRelease
  | 0x06 => State.hostRenew
  | 0x07 => State.hostCancel
  | 0x08 => State.hostAdopt
  | 0x09 => State.hostQuery
  | 0x0A => State.hostLocate
  | 0x0B => State.hostNext
  | 0x0C => State.hostBar
  | 0x0D => State.hostUnbar
  | 0x0E => State.hostReadReferral
  | 0x0F => State.hostDecide
  | 0x10 => State.hostSetSuperframe
  | _ => State.hostUndefined

/-! ## Taking a command -/

/-- The Host Port acts on an immediate answer (R182): it enters AWAITING on the staged change, or
completes at once. -/
def State.finishCommand (await : Bool) (a : Answer) (s : State) : State :=
  let s := s.setResponse a.response
  match a.staged with
  | some i =>
    if await && a.outcome = OutcomeCode.ok then
      let s := s.markAwaited i
      { s with mailbox := { s.mailbox with awaiting := true } }
    else s.complete a.outcome
  | none => s.complete a.outcome

/-- A COMMAND write is refused: the refused-write indicator is set (R186). -/
def State.refuseWrite (s : State) : State :=
  { s with mailbox := { s.mailbox with refusedWrite := true } }

/-- A COMMAND write that is taken is remembered in COMMAND (R180, R181; 13.6). -/
def State.noteCommand (code : BitVec 7) (await : Bool) (s : State) : State :=
  { s with mailbox := { s.mailbox with command := BitVec.ofBool await ++ code } }

/-- A write to COMMAND: taken in READY, with the command handled and answered in the same event (R181,
R182), refused in AWAITING (R186). -/
def State.takeCommand (code : BitVec 7) (await : Bool) (body : State → Answer × State) (s : State) :
    State :=
  if s.mailbox.awaiting then s.refuseWrite
  else
    let done := body (s.noteCommand code await)
    done.2.finishCommand await done.1

/-- A write to COMMAND of any code (R181, R184). -/
def State.writeCommand (code : BitVec 7) (await : Bool) (s : State) : State :=
  s.takeCommand code await (commandBody code)

/-! ## CONTROL -/

/-- A CONTROL write with ABANDON alone (R187). -/
def State.abandonWait (s : State) : State :=
  if s.mailbox.awaiting then s.clearAwaited.complete .abandoned else s

/-- A control-plane reset (R188, R198). -/
def State.controlReset (s : State) : State :=
  let s := { s.clearAwaited with mailbox := Mailbox.reset }
  let s := (List.finRange 8).foldl State.resetLink s
  { s with events := { s.events with flags := 0 } }

/-! ## The rows of the table -/

/-- OPEN (R38). -/
def execOpenCircuit (await : Bool) (s : State) : Host.Outcome State Fault Refusal :=
  .next (s.takeCommand 0x01 await State.hostOpen)

/-- ADD (R41). -/
def execAdd (await : Bool) (s : State) : Host.Outcome State Fault Refusal :=
  .next (s.takeCommand 0x02 await State.hostAdd)

/-- DROP (R42). -/
def execDrop (await : Bool) (s : State) : Host.Outcome State Fault Refusal :=
  .next (s.takeCommand 0x03 await State.hostDrop)

/-- MOVE (R43). -/
def execMove (await : Bool) (s : State) : Host.Outcome State Fault Refusal :=
  .next (s.takeCommand 0x04 await State.hostMove)

/-- RELEASE (R44, R45). -/
def execRelease (await : Bool) (s : State) : Host.Outcome State Fault Refusal :=
  .next (s.takeCommand 0x05 await State.hostRelease)

/-- RENEW (R47). -/
def execRenew (await : Bool) (s : State) : Host.Outcome State Fault Refusal :=
  .next (s.takeCommand 0x06 await State.hostRenew)

/-- CANCEL (R46). -/
def execCancel (await : Bool) (s : State) : Host.Outcome State Fault Refusal :=
  .next (s.takeCommand 0x07 await State.hostCancel)

/-- ADOPT (R48). -/
def execAdopt (await : Bool) (s : State) : Host.Outcome State Fault Refusal :=
  .next (s.takeCommand 0x08 await State.hostAdopt)

/-- QUERY (R49). -/
def execQuery (await : Bool) (s : State) : Host.Outcome State Fault Refusal :=
  .next (s.takeCommand 0x09 await State.hostQuery)

/-- LOCATE (R51). -/
def execLocate (await : Bool) (s : State) : Host.Outcome State Fault Refusal :=
  .next (s.takeCommand 0x0A await State.hostLocate)

/-- NEXT (R52). -/
def execNextRecord (await : Bool) (s : State) : Host.Outcome State Fault Refusal :=
  .next (s.takeCommand 0x0B await State.hostNext)

/-- BAR (R53). -/
def execBar (await : Bool) (s : State) : Host.Outcome State Fault Refusal :=
  .next (s.takeCommand 0x0C await State.hostBar)

/-- UNBAR (R53). -/
def execUnbar (await : Bool) (s : State) : Host.Outcome State Fault Refusal :=
  .next (s.takeCommand 0x0D await State.hostUnbar)

/-- READ_REFERRAL (R172). -/
def execReadReferral (await : Bool) (s : State) : Host.Outcome State Fault Refusal :=
  .next (s.takeCommand 0x0E await State.hostReadReferral)

/-- APPROVE (R173): a DECIDE, whose verdict stands in the request area. -/
def execApprove (await : Bool) (s : State) : Host.Outcome State Fault Refusal :=
  .next (s.takeCommand 0x0F await State.hostDecide)

/-- DENY (R174): a DECIDE, whose verdict stands in the request area. -/
def execDeny (await : Bool) (s : State) : Host.Outcome State Fault Refusal :=
  .next (s.takeCommand 0x0F await State.hostDecide)

/-- SET_SUPERFRAME (R107). -/
def execSetSuperframe (await : Bool) (s : State) : Host.Outcome State Fault Refusal :=
  .next (s.takeCommand 0x10 await State.hostSetSuperframe)

/-- UNDEFINED_COMMAND (R184). -/
def execUndefinedCommand (code : BitVec 7) (await : Bool) (s : State) :
    Host.Outcome State Fault Refusal :=
  .next (s.writeCommand code await)

/-- COMMAND_REFUSED (R186). -/
def execCommandRefused (code : BitVec 7) (await : Bool) (s : State) :
    Host.Outcome State Fault Refusal :=
  .next (s.writeCommand code await)

/-- ABANDON (R187). -/
def execAbandon (s : State) : Host.Outcome State Fault Refusal := .next s.abandonWait

/-- CP_RESET (R188). -/
def execCpReset (s : State) : Host.Outcome State Fault Refusal := .next s.controlReset

end Sys2Proof.Machine
end

