-- ==== Sys2Proof/Machine/HostPort.lean ====
section
/-! DEFINITION. The Host Port (10_host_port_and_mailbox.md) and the register map
(13_formats_and_register_map.md, 13.6): what a read of each address gives, what a write to each
address does, the snapshot of a read transaction, and the rows of the table that are register
accesses. -/

namespace Sys2Proof.Machine

/-! ## Reading the register window -/

/-- Eight marks in one octet, by link. -/
def linkMarks (p : LinkNo → Bool) : Byte :=
  octet (((List.finRange 8).map fun k => mark (p k) k.val).sum)

/-- The state code of 3Eh (13.6). -/
def TimingState.code : TimingState → Nat
  | .freeRun => 0
  | .acquiring => 1
  | .locked => 2
  | .holdover => 3

/-- The state code of LINK_STATUS_k (13.6). -/
def LinkState.code : LinkState → Nat
  | .disabled => 0
  | .absent => 1
  | .up => 2
  | .stalled => 3

/-- The first octet of TIMING_STATE (13.6). -/
def Timing.stateOctet (t : Timing) : Byte :=
  octet (t.state.code + mark (t.role == .master) 2 + 8 * t.consistency)

/-- The octet that a read of an address gives (13.6). An unmapped address reads 00h (R178). -/
def State.readRegister (s : State) (a : BitVec 7) : Byte :=
  let n := a.toNat
  let k := Decode.bankLink a
  if n < 0x18 then s.request n
  else if n = 0x18 then s.mailbox.command
  else if n = 0x19 then octet (mark s.mailbox.awaiting 0 + mark s.mailbox.refusedWrite 1)
  else if n = 0x1A then s.mailbox.sequence
  else if n = 0x1B then octet s.mailbox.outcome.code
  else if n < 0x34 then (s.mailbox.response[n - 0x1C]?).getD 0
  else if n = 0x35 then eventView false s.events.flags
  else if n = 0x36 then eventView true s.events.flags
  else if n = 0x37 then eventView false s.events.enables
  else if n = 0x38 then eventView true s.events.enables
  else if n = 0x39 then s.events.vector
  else if n = 0x3A then octet s.manager.attentionCount
  else if n = 0x3B then octet (mark (s.timing.role == .master) 0)
  else if n = 0x3C then s.timing.holdoverLimit
  else if n = 0x3D then octet (mark s.timing.markerEnabled 0)
  else if n = 0x3E then s.timing.stateOctet
  else if n = 0x3F then s.timing.counter.setWidth 8
  else if n = 0x40 then octet s.timing.holdoverCount
  else if n = 0x41 then highOctet s.timing.number
  else if n = 0x42 then lowOctet s.timing.number
  else if n = 0x43 then s.manager.divider.setWidth 8
  else if n = 0x44 then s.settings.confirmCount
  else if n = 0x45 then s.settings.ackTimeout
  else if n = 0x46 then s.settings.assemblyTimeout
  else if n = 0x47 then s.referrals.timeout
  else if n = 0x48 then linkMarks fun k => (s.referral k).isSome
  else if n = 0x49 then linkMarks fun k => (s.link k).noticeLost
  else if 0x50 ≤ n ∧ n < 0x58 then octet (mark (s.link k).enable 0 + mark (s.refers k) 1)
  else if 0x58 ≤ n ∧ n < 0x60 then octet (s.link k).state.code
  else if 0x60 ≤ n ∧ n < 0x68 then s.manager.reach[k]
  else if 0x68 ≤ n ∧ n < 0x70 then s.switch.fill[k]
  else 0

/-- The snapshot of the whole register window (R178). -/
def State.window (s : State) : Vector Byte 128 :=
  ⟨((List.range 128).map fun n => s.readRegister (BitVec.ofNat 7 n)).toArray, by simp⟩

/-! ## Writing the register window -/

/-- A write to the POLICY field of LINK_CTRL_k (R167). -/
def State.writePolicy (k : LinkNo) (refer : Bool) (s : State) : State :=
  let bit : Byte := 1#8 <<< k.val
  { s with referrals := { s.referrals with
      policy := if refer then s.referrals.policy ||| bit else s.referrals.policy &&& ~~~ bit } }

/-- A write to LINK_CTRL_k: ENABLE and POLICY as two separate fields (R130, R167, R200). DEDUCED
(assumption 21). -/
def State.writeLinkControl (k : LinkNo) (v : Byte) (s : State) : State :=
  let s := s.writePolicy k (v.getLsbD 1)
  if v.getLsbD 0 then s.enableLink k else s.disableLink k

/-- A write to LOST_NOTICE clears the indicator of each link whose position is 1 (R163). -/
def State.clearLost (v : Byte) (s : State) : State :=
  { s with links := updateAll s.links fun k l =>
      if v.getLsbD k then { l with noticeLost := false } else l }

/-- A write to an octet of the request area (R180). -/
def State.writeRequest (n : Nat) (v : Byte) (s : State) : State :=
  { s with mailbox := { s.mailbox with request := s.mailbox.request.setIfInBounds n v } }

/-- A write to CONTROL: CP_RESET goes before ABANDON, and neither changes nothing (R188). -/
def State.writeControl (v : Byte) (s : State) : State :=
  if v.getLsbD 1 then s.controlReset else if v.getLsbD 0 then s.abandonWait else s

/-- A write to ROLE: bit 0 alone is read (R92; 13.6). -/
def State.writeRole (v : Byte) (s : State) : State :=
  if v.getLsbD 0 then s.toMaster (List.replicate 8 []) else s.toSlave

/-- A host write of one octet to an address of the register window (R179, R200; 13.6). A write to a
read-only or an unmapped address is ignored, and so is a value outside a setting's range (R99, R146,
R170). -/
def State.writeRegister (a : BitVec 7) (v : Byte) (s : State) : State :=
  let n := a.toNat
  let k := Decode.bankLink a
  if n < 0x18 then s.writeRequest n v
  else if n = 0x18 then s.writeCommand (v.extractLsb' 0 7) (v.getLsbD 7)
  else if n = 0x34 then s.writeControl v
  else if n = 0x35 then s.clearFlags false v
  else if n = 0x36 then s.clearFlags true v
  else if n = 0x37 then s.writeEnables false v
  else if n = 0x38 then s.writeEnables true v
  else if n = 0x3B then s.writeRole v
  else if n = 0x3C then
    if v = 0 then s else { s with timing := { s.timing with holdoverLimit := v } }
  else if n = 0x3D then { s with timing := { s.timing with markerEnabled := v.getLsbD 0 } }
  else if n = 0x44 then
    if v = 0 ∨ 3 < v.toNat then s
    else { s with settings := { s.settings with confirmCount := v } }
  else if n = 0x45 then
    if v.toNat < 8 then s else { s with settings := { s.settings with ackTimeout := v } }
  else if n = 0x46 then
    if v.toNat < 8 then s else { s with settings := { s.settings with assemblyTimeout := v } }
  else if n = 0x47 then
    if v = 0 then s else { s with referrals := { s.referrals with timeout := v } }
  else if n = 0x49 then s.clearLost v
  else if 0x50 ≤ n ∧ n < 0x58 then s.writeLinkControl k v
  else if 0x60 ≤ n ∧ n < 0x68 then
    { s with manager := { s.manager with reach := s.manager.reach.set k v } }
  else if 0x68 ≤ n ∧ n < 0x70 then s.writeFill k v
  else s

/-! ## Read transactions -/

/-- The address of EVENT_VECTOR (13.6). -/
def eventVectorAddress : BitVec 7 := 0x39

/-- The address octet of a read transaction is complete: the snapshot is made, and the first data octet
falls on the starting address (R177, R178). -/
def State.makeSnapshot (start : BitVec 7) (s : State) : State :=
  { s with port := { s.port with snapshot := some s.window, next := start } }

/-- A data octet has been sent: the next one falls on the next address, and 7Fh is followed by 00h
(R177). -/
def State.notePort (v : Byte) (s : State) : State :=
  { s with port := { s.port with sent := v, next := s.port.next + 1 } }

/-- The octet that falls on an address has been sent complete with a value. Only EVENT_VECTOR has an
effect: the flag that the octet names is cleared (R178, R196). -/
def State.sentAt (a : BitVec 7) (v : Byte) (s : State) : State :=
  if a = eventVectorAddress then s.clearCode v else s

/-- The next data octet of the read transaction has been sent complete, from the snapshot (R178, R196).
With no read transaction there is no octet. -/
def State.sendOctet (s : State) : State :=
  match s.port.snapshot with
  | some w => (s.notePort w[s.port.next.toNat]).sentAt s.port.next w[s.port.next.toNat]
  | none => s

/-- The parts of a read transaction (R178, R196). -/
def State.readPart (part : ReadPart) (s : State) : State :=
  match part with
  | .address start => s.makeSnapshot start
  | .octet => s.sendOctet
  | .whole => (s.makeSnapshot eventVectorAddress).sendOctet

/-- The level of SDO, none where it is high impedance (R177): while CS_N is high or RST_N low. It is the
bit of the snapshot that the port shows, most significant bit first, in a data octet of a read
transaction, and 0 in an address octet and in a write transaction. The manual states no level while a
transaction begun before RST_N rose is passed over: a free value. DESIGN CHOICE (assumption 15). -/
def State.sdo (s : State) (p : Decode.SpiPort) : Option Bool :=
  if !p.csLow || p.rstLow then none
  else if !p.taking then Config.sdoPassedOver
  else
    match p.shown, s.port.snapshot with
    | some (a, bit), some w => some (w[a.toNat].getLsbD bit)
    | _, _ => some false

/-! ## Device reset -/

/-- Device reset (R191, R198): every block at its reset state. The levels that the outside drives on
the input pins, and the commands that wait to reach the part, are not the part's. DESIGN CHOICE
(assumption 19). -/
def State.deviceReset (s : State) : State :=
  { State.reset with pins := s.pins, pending := s.pending }

/-! ## The rows of the table -/

/-- DEVICE_RESET (R191). -/
def execDeviceReset (s : State) : Host.Outcome State Fault Refusal := .next s.deviceReset

/-- WRITE_ENABLE_0 (R130). -/
def execWriteEnable0 (k : LinkNo) (s : State) : Host.Outcome State Fault Refusal :=
  .next (s.disableLink k)

/-- WRITE_ENABLE_1 (R130). -/
def execWriteEnable1 (k : LinkNo) (s : State) : Host.Outcome State Fault Refusal :=
  .next (s.enableLink k)

/-- FILL_WRITE (R84). -/
def execFillWrite (k : LinkNo) (v : Byte) (s : State) : Host.Outcome State Fault Refusal :=
  .next (s.writeFill k v)

/-- EVENT_FLAGS_WRITE (R195). -/
def execEventFlagsWrite (second : Bool) (v : Byte) (s : State) :
    Host.Outcome State Fault Refusal :=
  .next (s.clearFlags second v)

/-- EVENT_ENABLE_WRITE (R194). -/
def execEventEnableWrite (second : Bool) (v : Byte) (s : State) :
    Host.Outcome State Fault Refusal :=
  .next (s.writeEnables second v)

/-- EVENT_VECTOR_READ (R196). -/
def execEventVectorRead (part : ReadPart) (s : State) : Host.Outcome State Fault Refusal :=
  .next (s.readPart part)

/-- LOST_NOTICE_WRITE (R163). -/
def execLostNoticeWrite (v : Byte) (s : State) : Host.Outcome State Fault Refusal :=
  .next (s.clearLost v)

/-- REGISTER_WRITE (R179). -/
def execRegisterWrite (a : BitVec 7) (v : Byte) (s : State) : Host.Outcome State Fault Refusal :=
  .next (s.writeRegister a v)

end Sys2Proof.Machine
end

