-- ==== Sys2Proof/Machine/LineSteps.lean ====
section
/-! DEFINITION. The rows of the table that are control-slot arrivals, and those by which the Circuit
Manager takes a request that a link has handed to it. -/

namespace Sys2Proof.Machine

/-! ## Arrivals -/

/-- CONTROL_SLOT_ARRIVAL (R134). -/
def execControlSlotArrival (k : LinkNo) (chan hs : Byte) (s : State) :
    Host.Outcome State Fault Refusal :=
  .next (s.arrival k chan hs)

/-- PRESENCE_LOSS (R132): the arrival that makes the loss count 4. DEDUCED (assumption 3). -/
def execPresenceLoss (k : LinkNo) (chan hs : Byte) (s : State) :
    Host.Outcome State Fault Refusal :=
  .next (s.arrival k chan hs)

/-- ACKNOWLEDGE_TIMEOUT (R138): the arrival at which the acknowledge count reaches ACK_TIMEOUT.
DEDUCED (assumption 3). -/
def execAcknowledgeTimeout (k : LinkNo) (chan hs : Byte) (s : State) :
    Host.Outcome State Fault Refusal :=
  .next (s.arrival k chan hs)

/-- ASSEMBLY_TIMEOUT (R144): the arrival at which the assembly count reaches ASSEMBLY_TIMEOUT.
DEDUCED (assumption 3). -/
def execAssemblyTimeout (k : LinkNo) (chan hs : Byte) (s : State) :
    Host.Outcome State Fault Refusal :=
  .next (s.arrival k chan hs)

/-- HELD_RESULT_ENTRY (R161): the arrival at which a message leaves the outbound queue and a HELD
RESULT joins it. DEDUCED (assumption 3). -/
def execHeldResultEntry (k : LinkNo) (chan hs : Byte) (s : State) :
    Host.Outcome State Fault Refusal :=
  .next (s.arrival k chan hs)

/-! ## Line requests -/

/-- The request is an OPEN. -/
def isLineOpen : LineRequest → Bool
  | .openCircuit _ _ _ _ _ _ => true
  | _ => false

/-- The request is an ADD. -/
def isLineAdd : LineRequest → Bool
  | .add _ _ _ _ => true
  | _ => false

/-- The request is a DROP. -/
def isLineDrop : LineRequest → Bool
  | .drop _ _ _ _ => true
  | _ => false

/-- The request is a RELEASE. -/
def isLineRelease : LineRequest → Bool
  | .release _ _ => true
  | _ => false

/-- The request is a RENEW. -/
def isLineRenew : LineRequest → Bool
  | .renew _ _ _ => true
  | _ => false

/-- The request is a STATUS. -/
def isStatus : LineRequest → Bool
  | .status _ _ => true
  | _ => false

/-- LINE_OPEN (R39, R40). -/
def execLineOpen (k : LinkNo) (s : State) : Host.Outcome State Fault Refusal :=
  .next (s.takeHanded k isLineOpen)

/-- LINE_ADD (R41). -/
def execLineAdd (k : LinkNo) (s : State) : Host.Outcome State Fault Refusal :=
  .next (s.takeHanded k isLineAdd)

/-- LINE_DROP (R42). -/
def execLineDrop (k : LinkNo) (s : State) : Host.Outcome State Fault Refusal :=
  .next (s.takeHanded k isLineDrop)

/-- LINE_RELEASE (R44, R45). -/
def execLineRelease (k : LinkNo) (s : State) : Host.Outcome State Fault Refusal :=
  .next (s.takeHanded k isLineRelease)

/-- LINE_RENEW (R47). -/
def execLineRenew (k : LinkNo) (s : State) : Host.Outcome State Fault Refusal :=
  .next (s.takeHanded k isLineRenew)

/-- STATUS (R50). -/
def execStatus (k : LinkNo) (s : State) : Host.Outcome State Fault Refusal :=
  .next (s.takeHanded k isStatus)

end Sys2Proof.Machine
end

