-- ==== Sys2Proof/Machine/ManagerSteps.lean ====
section
/-! DEFINITION. The rows of the table that are the Circuit Manager's own steps. Each takes what has
been handed to the manager and not yet taken; with nothing of its kind handed on, nothing is done. -/

namespace Sys2Proof.Machine

/-- APPLY_DUE_CHANGES (R62). -/
def execApplyDueChanges (s : State) : Host.Outcome State Fault Refusal := .next s.takeApplication

/-- LEASE_TICK (R112). -/
def execLeaseTick (s : State) : Host.Outcome State Fault Refusal := .next s.takeTick

/-- LEASE_EXPIRY (R112): the tick at which a lease runs out. DEDUCED (assumption 3). -/
def execLeaseExpiry (s : State) : Host.Outcome State Fault Refusal := .next s.takeTick

/-- REFERRAL_TIMEOUT (R171). -/
def execReferralTimeout (k : LinkNo) (s : State) : Host.Outcome State Fault Refusal :=
  .next (s.takeTimeout k)

end Sys2Proof.Machine
end

