-- ==== Sys2Proof/Machine/Idle.lean ====
section
/-! DEFINITION. What the part does when no command waits for it: the Circuit Manager takes the work
handed to it, one step at a time, and when there is none one bit period of CLKIN passes: DESIGN CHOICE
(assumption 1). -/

namespace Sys2Proof.Machine

/-! ## The Circuit Manager's work -/

/-- The lowest link with a handed request. -/
def State.firstHanded (s : State) : Option LinkNo :=
  (List.finRange 8).find? fun k => (s.handed k).isSome

/-- The next step of work handed to the Circuit Manager, none when there is no such work: the
application step, then the lease tick, then the oldest timeout, the lowest link first among those of one
superframe start, then the request of the lowest link.
The manual gives no order among them (R24); this is the model's: DESIGN CHOICE
(assumption 1). -/
def State.managerStep (s : State) : Option State :=
  if s.manager.applicationDue then some s.takeApplication
  else if s.manager.tickDue then some s.takeTick
  else
    match s.manager.timeouts with
    | t :: _ => some (s.takeTimeout t.link)
    | [] => s.firstHanded.map fun k => s.takeHanded k fun _ => true

/-! ## One bit period -/

/-- The edge that a sample of FRM shows: high after low, in role SLAVE (R94). -/
def State.frmEdge (s : State) : Bool :=
  s.timing.role == Role.slave && s.pins.frm && !s.timing.frmBefore

/-- FRM is sampled (R94) in the bit period that begins, and the Timing Unit acts on what it brings: a
pulse in ACQUIRING, the end of the frame before it in every other state (R93, R95, R97, R98). -/
def State.timingTick (s : State) : State :=
  let edge := s.frmEdge
  let s := { s with timing := { s.timing with
    frmBefore := if s.timing.role = Role.slave then s.pins.frm else s.timing.frmBefore } }
  if s.framesRun then
    if s.timing.expected ≤ s.timing.clock then s.frameEnds edge [] else s
  else if edge then s.acquirePulse s.timing.clock else s

/-- The octets that the bit period completes go where their slot takes them (R79, R85). -/
def State.octetsComplete (slot : Nat) (s : State) : State :=
  if slot < Config.bearerSlots then { s with switch := s.switch.captureOctets }
  else if slot = Config.bearerSlots then { s with switch := s.switch.keepChannel }
  else if slot = Config.bearerSlots + 1 then s.handArrivals
  else s

/-- The LIN lines are sampled in the bit period that passes, in a running frame (R78, R88). -/
def State.lineTick (s : State) : State :=
  if s.framesRun then
    let b := s.bitPeriod
    let s := { s with switch := s.switch.sample s.pins.lin }
    if b % 8 = 7 then s.octetsComplete (b / 8) else s
  else s

/-- The bit-period count goes on by one (R100). -/
def State.countBit (s : State) : State :=
  { s with timing := { s.timing with clock := s.timing.clock + 1 } }

/-- One bit period of CLKIN passes and the next begins (R78, R93, R94): the lines have carried the bit
of the one that passes, and a frame start falls at the beginning of the next, whose LOUT, FRM and SFO
levels are those of the state then reached (R106). DESIGN CHOICE (assumption 1). -/
def State.bitTick (s : State) : State := s.lineTick.countBit.timingTick

/-- A step of the part with no command waiting. -/
def State.idle (s : State) : State := s.managerStep.getD s.bitTick

end Sys2Proof.Machine
end

