-- ==== Sys2Proof/Machine/Dispatch.lean ====
section
/-! DEFINITION. The command executed: one arm per row of spec/opcode_table.json. -/

namespace Sys2Proof.Machine

def exec (i : Instr) (s : State) : Host.Outcome State Fault Refusal :=
  match i with
  | .deviceReset => Sys2Proof.Machine.execDeviceReset s
  | .openCircuit await => Sys2Proof.Machine.execOpenCircuit await s
  | .add await => Sys2Proof.Machine.execAdd await s
  | .drop await => Sys2Proof.Machine.execDrop await s
  | .move await => Sys2Proof.Machine.execMove await s
  | .release await => Sys2Proof.Machine.execRelease await s
  | .renew await => Sys2Proof.Machine.execRenew await s
  | .cancel await => Sys2Proof.Machine.execCancel await s
  | .adopt await => Sys2Proof.Machine.execAdopt await s
  | .query await => Sys2Proof.Machine.execQuery await s
  | .locate await => Sys2Proof.Machine.execLocate await s
  | .nextRecord await => Sys2Proof.Machine.execNextRecord await s
  | .bar await => Sys2Proof.Machine.execBar await s
  | .unbar await => Sys2Proof.Machine.execUnbar await s
  | .readReferral await => Sys2Proof.Machine.execReadReferral await s
  | .approve await => Sys2Proof.Machine.execApprove await s
  | .deny await => Sys2Proof.Machine.execDeny await s
  | .setSuperframe await => Sys2Proof.Machine.execSetSuperframe await s
  | .undefinedCommand code await => Sys2Proof.Machine.execUndefinedCommand code await s
  | .commandRefused code await => Sys2Proof.Machine.execCommandRefused code await s
  | .abandon => Sys2Proof.Machine.execAbandon s
  | .cpReset => Sys2Proof.Machine.execCpReset s
  | .writeMaster rx => Sys2Proof.Machine.execWriteMaster rx s
  | .writeSlave => Sys2Proof.Machine.execWriteSlave s
  | .writeEnable0 k => Sys2Proof.Machine.execWriteEnable0 k s
  | .writeEnable1 k => Sys2Proof.Machine.execWriteEnable1 k s
  | .fillWrite k v => Sys2Proof.Machine.execFillWrite k v s
  | .eventFlagsWrite second v => Sys2Proof.Machine.execEventFlagsWrite second v s
  | .eventEnableWrite second v => Sys2Proof.Machine.execEventEnableWrite second v s
  | .eventVectorRead part => Sys2Proof.Machine.execEventVectorRead part s
  | .lostNoticeWrite v => Sys2Proof.Machine.execLostNoticeWrite v s
  | .registerWrite a v => Sys2Proof.Machine.execRegisterWrite a v s
  | .frmPulse position sfm rx => Sys2Proof.Machine.execFrmPulse position sfm rx s
  | .frameStart pulse sfm rx => Sys2Proof.Machine.execFrameStart pulse sfm rx s
  | .flywheelFrameStart sfm rx => Sys2Proof.Machine.execFlywheelFrameStart sfm rx s
  | .holdoverLimitExceeded sfm rx => Sys2Proof.Machine.execHoldoverLimitExceeded sfm rx s
  | .applyDueChanges => Sys2Proof.Machine.execApplyDueChanges s
  | .leaseTick => Sys2Proof.Machine.execLeaseTick s
  | .leaseExpiry => Sys2Proof.Machine.execLeaseExpiry s
  | .referralTimeout k => Sys2Proof.Machine.execReferralTimeout k s
  | .controlSlotArrival k chan hs => Sys2Proof.Machine.execControlSlotArrival k chan hs s
  | .presenceLoss k chan hs => Sys2Proof.Machine.execPresenceLoss k chan hs s
  | .acknowledgeTimeout k chan hs => Sys2Proof.Machine.execAcknowledgeTimeout k chan hs s
  | .assemblyTimeout k chan hs => Sys2Proof.Machine.execAssemblyTimeout k chan hs s
  | .lineOpen k => Sys2Proof.Machine.execLineOpen k s
  | .lineAdd k => Sys2Proof.Machine.execLineAdd k s
  | .lineDrop k => Sys2Proof.Machine.execLineDrop k s
  | .lineRelease k => Sys2Proof.Machine.execLineRelease k s
  | .lineRenew k => Sys2Proof.Machine.execLineRenew k s
  | .status k => Sys2Proof.Machine.execStatus k s
  | .heldResultEntry k chan hs => Sys2Proof.Machine.execHeldResultEntry k chan hs s

end Sys2Proof.Machine
end

