-- ==== Sys2Proof/Safety.lean ====
section
/-! DEFINITION. What holds of the part at all times: the properties of its state that the manual gives
as standing, each a decidable property of one state. A run is safe when they hold after each of its
steps, and when no step ends in a fault or a refusal. -/

namespace Sys2Proof.Machine

/-- A step ends in a next state: neither a fault nor a refusal. -/
def Completes (o : Host.Outcome State Fault Refusal) : Prop := ∃ t, o = .next t

/-! ## The Timing Unit and the settings -/

/-- Role and state agree: FREE_RUN exactly in role MASTER (R91). -/
abbrev State.RoleMatches (s : State) : Prop :=
  s.timing.role = .master ↔ s.timing.state = .freeRun

/-- The settings lie in their ranges (R91, R99, R146, R170). -/
abbrev State.SettingsInRange (s : State) : Prop :=
  s.timing.holdoverLimit ≠ 0 ∧ 1 ≤ s.settings.confirmCount.toNat ∧ s.settings.confirmCount.toNat ≤ 3
    ∧ 8 ≤ s.settings.ackTimeout.toNat ∧ 8 ≤ s.settings.assemblyTimeout.toNat
    ∧ s.referrals.timeout ≠ 0

/-- The counts of the Timing Unit lie in their ranges (R91, R95, R98): the consistency count stands at
0 in LOCKED and HOLDOVER, where no run of pulses is counted, and the holdover count is 0 in LOCKED. -/
abbrev State.TimingCounts (s : State) : Prop :=
  s.timing.consistency ≤ 2 ∧ s.timing.holdoverCount ≤ 255
    ∧ (s.timing.state = .locked → s.timing.holdoverCount = 0 ∧ s.timing.consistency = 0)
    ∧ (s.timing.state = .holdover → 1 ≤ s.timing.holdoverCount ∧ s.timing.consistency = 0)

/-- While frames are absent the Circuit Manager holds no work of a frame start: no application step, no
lease tick and no timeout is outstanding (R61, R123, R171); and no channel has an arrival of a frame
before the next (R86, R147). -/
abbrev State.AbsenceIsIdle (s : State) : Prop :=
  s.timing.state = .acquiring →
    s.manager.applicationDue = false ∧ s.manager.tickDue = false ∧ s.manager.timeouts = []
      ∧ ∀ k : LinkNo, (s.link k).arrived = false

/-! ## Circuits and positions -/

/-- The change queue holds at most 24 entries (R57). -/
abbrev State.QueueBounded (s : State) : Prop := s.manager.queue.length ≤ Config.queueRoom

/-- ATTENTION_COUNT equals the number of records whose attention is set (R16). -/
abbrev State.AttentionCounted (s : State) : Prop :=
  s.manager.attentionCount = s.manager.table.toList.countP Record.attention

/-- Slots 38 and 39 are FIXED on both planes, and no bearer position is (R17, R18). -/
abbrev State.ControlSlotsFixed (s : State) : Prop :=
  ∀ n : Fin 640, s.manager.map[n] = .fixed ↔ Config.bearerSlots ≤ n.val % Config.slotsPerFrame

/-- The kind of change that a state holds (R6, R8). -/
def CircuitState.holds (st : CircuitState) (k : Option ChangeKind) : Bool :=
  match st, k with
  | .opening, some .activate => true
  | .altering, some .add | .altering, some .drop | .altering, some .move => true
  | .closing, some .deactivate => true
  | .free, none | .referred, none | .active, none | .retired, none => true
  | _, _ => false

/-- The entries of the change queue that name a record. -/
def State.entriesOf (s : State) (i : RecNo) : List QueueEntry :=
  s.manager.queue.filter fun e => e.circuit = i

/-- A record and the change queue agree (R6, R57): the staged change is of the record's state, and one
entry names the record, with its kind and its cutover, exactly when a change is staged. -/
abbrev State.StagedMatches (s : State) (i : RecNo) : Prop :=
  (s.record i).state.holds ((s.record i).staged.map fun st => st.change.kind) = true
    ∧ (s.entriesOf i).map (fun e => (e.kind, e.cutover))
        = ((s.record i).staged.map fun st => (st.change.kind, st.cutover)).toList

/-- Every record agrees with the change queue (R57). -/
abbrev State.QueueMatches (s : State) : Prop := ∀ i : RecNo, s.StagedMatches i

/-- In AWAITING exactly one entry is marked awaited, and in READY none is (R69, R186). -/
abbrev State.AwaitMatches (s : State) : Prop :=
  s.manager.queue.countP QueueEntry.awaited = if s.mailbox.awaiting then 1 else 0

/-- A WAITING referral of a link names a record in REFERRED that the link owns, and a REFERRED record
is named by its owner's referral; a link's request in process is REFERRED exactly while its referral
waits (R8, R40, R154, R168). -/
abbrev State.ReferralMatches (s : State) : Prop :=
  (∀ k : LinkNo, ∀ r ∈ s.referral k, (s.record r.circuit).state = .referred
      ∧ (s.record r.circuit).owner = some (.link k)
      ∧ (s.record r.circuit).generation = r.generation)
    ∧ (∀ i : RecNo, (s.record i).state = .referred →
      ∃ k : LinkNo, (s.referral k).map Referral.circuit = some i)
    ∧ ∀ k : LinkNo, ((s.link k).inProcess.map InProcess.phase = some .referred)
      ↔ (s.referral k).isSome = true

/-- The remaining count of a record's lease, none where it has no lease. -/
def Record.remaining (r : Record) : Option Byte := r.lease.map Lease.remaining

/-- A lease stands at 0 in RETIRED, in CLOSING with a staged change of cause LEASE, or in ACTIVE while
the change queue is full, and nowhere else (R5, R75). -/
abbrev State.LeasesMatch (s : State) : Prop :=
  ∀ i : RecNo, (s.record i).remaining = some 0 →
    (s.record i).state = .retired
      ∨ ((s.record i).state = .closing
          ∧ (s.record i).staged.map Staged.cause = some .lease)
      ∨ ((s.record i).state = .active ∧ s.manager.queue.length = Config.queueRoom)

/-- The phase in which a record claims a position, none where it does not (R8, R20, R21). -/
def Record.phaseAt (r : Record) (p : Plane) (link slot : Nat) : Option Phase :=
  let named : Bool := inCircuit r.source r.dests r.width p link slot
  match r.state with
  | .free | .retired => none
  | .referred | .opening => if named then some .joining else none
  | .active => if named then some .live else none
  | .closing => if named then some .leaving else none
  | .altering =>
    match r.staged.map Staged.change with
    | some (.add g) =>
      if egressGroup g r.width p link slot then some .joining
      else if named then some .live else none
    | some (.drop g) =>
      if egressGroup g r.width p link slot then some .leaving
      else if named then some .live else none
    | some (.move src) =>
      if sourceOutside (some src) r.source r.width p link slot then some .joining
      else if sourceOutside r.source (some src) r.width p link slot then some .leaving
      else if named then some .live else none
    | _ => none

/-- The phase in which an entry of the map is claimed by a record, none where it is not. -/
def PosEntry.phaseOf (i : RecNo) : PosEntry → Option Phase
  | .claimed j ph => if j = i then some ph else none
  | _ => none

/-- Every record claims exactly the positions that its state gives it, in their phases (R20, R21). -/
abbrev State.ClaimsMatch (s : State) : Prop :=
  ∀ (i : RecNo) (p : Plane) (link : Fin 8) (slot : Fin 40),
    (s.entry p link slot).phaseOf i = (s.record i).phaseAt p link slot

/-- What the egress program holds for a position, from its map entry (R76). -/
def State.programOf (s : State) (link slot : Nat) : ProgramEntry :=
  match s.entry .egress link slot with
  | .claimed i .live | .claimed i .leaving =>
    match (s.record i).dests.find? fun g => inGroup g (s.record i).width link slot with
    | some g => sourceEntry (s.record i).source (slot - g.slot)
    | none => .noEntry
  | _ => .noEntry

/-- The egress program holds an entry exactly for the positions claimed LIVE or LEAVING, and it names
the corresponding slot of the claimant's source (R3, R76). -/
abbrev State.ProgramMatches (s : State) : Prop :=
  ∀ (link : Fin 8) (slot : Fin 38), s.programEntry link slot = s.programOf link slot

/-- No two destinations of a record share a position, nor does the group of a staged ADD share one with
them (R4, R32); and the group of a staged DROP is one of them (R31, R42). -/
def Record.groupsApart (r : Record) : Bool :=
  !anyOverlap r.width r.dests
    && match r.staged.map Staged.change with
      | some (.add g) => r.dests.all fun h => !g.overlaps h r.width
      | some (.drop g) => decide (g ∈ r.dests)
      | _ => true

/-- The groups of every record lie apart, and each staged DROP is of one of them (R4, R31, R42). -/
abbrev State.GroupsApart (s : State) : Prop := ∀ i : RecNo, (s.record i).groupsApart = true

/-! ## The link channels -/

/-- ENABLE is 0 exactly in DISABLED (R130). -/
abbrev Link.EnableMatches (l : Link) : Prop := l.enable = false ↔ l.state = .disabled

/-- A link without a session holds no message, no request and nothing on offer (R133, R154, R161). -/
abbrev Link.SessionClear (l : Link) : Prop :=
  l.hasSession = false →
    l.inProcess = none ∧ l.outbound = [] ∧ l.onOffer = none ∧ l.assembly = []

/-- The queue, the buffer and the counts of a link lie in their ranges (R129, R150, R161); each count that
ends a state stands short of its end in that state (R131, R132, R138), and a refusal seen is recognised
at once (R137). -/
abbrev Link.CountsInRange (l : Link) : Prop :=
  l.outbound.length ≤ 4 ∧ l.assembly.length ≤ 16 ∧ l.withdrawal ≤ 4
    ∧ l.presence ≤ 4 ∧ (l.state = .absent → l.presence ≤ 3)
    ∧ l.loss ≤ 4 ∧ (l.hasSession = true → l.loss ≤ 3)
    ∧ l.ackCount ≤ 255 ∧ (l.onOffer.isSome = true → l.ackCount ≤ 254)
    ∧ l.refusalSeen ≤ 1 ∧ l.run ≤ 3 ∧ l.assemblyCount ≤ 255 ∧ l.refusalDisplay ≤ 2

/-- An octet on offer is an octet of the head message of a link that is UP (R135, R139), and no message
that waits to be sent is empty. -/
abbrev Link.OfferMatches (l : Link) : Prop :=
  (∀ j ∈ l.onOffer, l.state = .up ∧ l.outbound ≠ [] ∧ j < l.head.length)
    ∧ (∀ m ∈ l.outbound, m ≠ [])
    ∧ l.inProcess.map InProcess.phase ≠ some (.held [])

/-- A link with a request in process holds no octet of another message (R142, R154). -/
abbrev Link.OneRequest (l : Link) : Prop := l.inProcess.isSome = true → l.assembly = []

/-- Every link channel is in order. -/
abbrev State.LinksInOrder (s : State) : Prop :=
  ∀ k : LinkNo, (s.link k).EnableMatches ∧ (s.link k).SessionClear ∧ (s.link k).OfferMatches
    ∧ (s.link k).OneRequest ∧ (s.link k).outbound.length ≤ Config.outboundRoom
    ∧ (s.link k).assembly.length ≤ Config.longestMessage

/-! ## The whole part -/

/-- The change queue, the circuit table, the mailbox and the referrals agree: the property that stands
at all times of the Circuit Manager (R6, R57, R69, R75, R168, R186). -/
abbrev State.ManagerInOrder (s : State) : Prop :=
  s.QueueBounded ∧ s.QueueMatches ∧ s.AwaitMatches ∧ s.ReferralMatches ∧ s.LeasesMatch
    ∧ s.LinksInOrder

/-- The position map and the egress program follow the circuit table (R4, R17, R20, R76). -/
abbrev State.SwitchingInOrder (s : State) : Prop :=
  s.ManagerInOrder ∧ s.ControlSlotsFixed ∧ s.GroupsApart ∧ s.ClaimsMatch ∧ s.ProgramMatches

/-! ## Terms of the statements: what a request finds -/

/-- The mailbox is READY (R180). -/
abbrev State.Ready (s : State) : Prop := s.mailbox.awaiting = false

/-- A reference is known, and names this record (R13). -/
abbrev State.Names (s : State) (index generation : Byte) (i : RecNo) : Prop :=
  index.toNat = i.val ∧ (s.record i).generation = generation ∧ (s.record i).state ≠ .free
    ∧ (s.record i).state ≠ .retired

/-- A cutover passes the distance check (R34). -/
abbrev State.Allows (s : State) (c : Cutover) : Prop :=
  match c with
  | .atSuperframe n => 1 ≤ (n - s.timing.number).toNat ∧ (n - s.timing.number).toNat ≤ 32767
  | _ => True

/-- The change queue has room for one more entry (R36, R57). -/
abbrev State.HasRoom (s : State) : Prop := s.manager.queue.length < 24

/-- Every position that a test picks is OPEN (R35). -/
abbrev State.AllOpen (s : State) (picks : Plane → Nat → Nat → Bool) : Prop :=
  ∀ (p : Plane) (l : Fin 8) (q : Fin 40), picks p l q = true → s.entry p l q = .openPos

/-- Allocation takes this record: the lowest in FREE, or the lowest in RETIRED where none is FREE (R9).
-/
abbrev State.Allocates (s : State) (i : RecNo) : Prop :=
  ((s.record i).state = .free ∧ ∀ j < i, (s.record j).state ≠ .free)
    ∨ ((∀ j, (s.record j).state ≠ .free) ∧ (s.record i).state = .retired
        ∧ ∀ j < i, (s.record j).state ≠ .retired)

/-- No lease stands at 0 in a record that could wait for deferred staging (R75, R117). -/
abbrev State.NobodyWaits (s : State) : Prop :=
  ∀ i : RecNo, (s.record i).remaining = some 0 →
    (s.record i).state = .retired ∨ (s.record i).state = .closing

/-! ## Terms of the statements: the checks of a request, in their order (R27)

A check is a test that it fails, with the outcome it then gives. -/

/-- The outcome of the first check that fails, OK when none does (R27). -/
def firstOutcome (checks : List (Bool × OutcomeCode)) : OutcomeCode :=
  ((checks.find? fun c => c.1).map fun c => c.2).getD .ok

/-- The ownership check (R29): a line unit must own the circuit that it names. -/
def Record.ownership (r : Record) (who : Requester) : Bool × OutcomeCode :=
  (match who with
    | .host => false
    | .line k => decide (r.owner ≠ some (.link k)), .notOwner)

/-- A staged DEACTIVATE of a CLOSING record is the end of its lease (R30). -/
def Record.closingByLease (r : Record) : Bool :=
  decide (r.state = .closing ∧ r.staged.map Staged.cause = some .lease)

/-- The state check of ADD, DROP and MOVE, but for LIMIT (R30): the record must be ACTIVE. -/
def Record.mustBeActive (r : Record) : Bool × OutcomeCode :=
  (decide (r.state = .referred ∨ r.state = .opening ∨ r.state = .altering ∨ r.state = .closing),
    .pending)

/-- The position-range check of a slot group (R31). -/
def Group.outside (g : Group) (width : Nat) : Bool := decide (8 ≤ g.link ∨ 38 < g.slot + width)

/-- The position-range check of a source (R31). -/
def sourceOutsideRange (src : Option Source) (width : Nat) : Bool :=
  match src with
  | some (.position l q) => Group.outside ⟨l, q⟩ width
  | _ => false

/-- The reach check (R33): of a line unit, for the links that its request names. -/
def State.beyondReach (s : State) (who : Requester) (links : List Nat) : Bool × OutcomeCode :=
  (match who with
    | .host => false
    | .line k => links.any fun l => !(s.manager.reach[k]).getLsbD l, .notPermitted)

/-- The cutover-distance check (R34). -/
def State.tooFar (s : State) (c : Option Cutover) : Bool × OutcomeCode :=
  (match c with
    | some (.atSuperframe n) =>
      decide ((n - s.timing.number).toNat = 0 ∨ 32767 < (n - s.timing.number).toNat)
    | _ => false, .badCutover)

/-- The barred-and-busy check over the positions that a test picks (R35): whether one of them is BARRED,
then whether one is CLAIMED. -/
def State.taken (s : State) (picks : Plane → Nat → Nat → Bool) : List (Bool × OutcomeCode) :=
  let anyOf := fun (test : PosEntry → Bool) => [Plane.ingress, .egress].any fun p =>
    (List.finRange 8).any fun l => (List.finRange 40).any fun q =>
      picks p l q && test (s.entry p l q)
  [(anyOf fun e => decide (e = .barred), .positionBarred), (anyOf PosEntry.isClaimed, .positionBusy)]

/-- The queue-room check (R36). -/
def State.noRoom (s : State) : Bool × OutcomeCode := (decide (¬s.HasRoom), .queueFull)

/-- The checks of an OPEN. `referred` says that the queue-room check is not made (R27, R40). -/
def State.openChecks (s : State) (who : Requester) (referred : Bool) (f : OpenFields) :
    List (Bool × OutcomeCode) :=
  [(decide (f.width = 0 ∨ 4 < f.width ∨ f.count = 0 ∨ 4 < f.count ∨ f.source = none
      ∨ f.cutover = none ∨ (who ≠ .host ∧ f.lease = 0)), .badFormat),
    (sourceOutsideRange f.source f.width || f.dests.any fun g => g.outside f.width, .badPosition),
    (anyOverlap f.width f.dests, .overlap),
    s.beyondReach who ((match f.source with | some (.position l _) => [l] | _ => [])
      ++ f.dests.map Group.link),
    s.tooFar f.cutover]
  ++ s.taken (inCircuit f.source f.dests f.width)
  ++ [(decide (∀ i : RecNo, (s.record i).state ≠ .free ∧ (s.record i).state ≠ .retired), .noRecord)]
  ++ if referred then [] else [s.noRoom]

/-- The checks of an ADD behind the reference (R27). -/
def State.addChecks (s : State) (who : Requester) (g : Group) (c : Option Cutover) (r : Record) :
    List (Bool × OutcomeCode) :=
  [r.ownership who, r.mustBeActive, (decide (r.state = .active ∧ 4 ≤ r.dests.length), .limit),
    (g.outside r.width, .badPosition),
    (r.dests.any fun h => g.overlaps h r.width, .overlap),
    s.beyondReach who [g.link], s.tooFar c]
  ++ s.taken (egressGroup g r.width) ++ [s.noRoom]

/-- The checks of a DROP behind the reference (R27). -/
def State.dropChecks (s : State) (who : Requester) (g : Group) (c : Option Cutover) (r : Record) :
    List (Bool × OutcomeCode) :=
  [r.ownership who, r.mustBeActive, (decide (r.state = .active ∧ r.dests.length ≤ 1), .limit),
    (g.outside r.width || decide (g ∉ r.dests), .badPosition),
    s.beyondReach who [g.link], s.tooFar c, s.noRoom]

/-- The checks of a MOVE behind the reference (R27). -/
def State.moveChecks (s : State) (src : Option Source) (c : Option Cutover) (r : Record) :
    List (Bool × OutcomeCode) :=
  [r.mustBeActive, (sourceOutsideRange src r.width, .badPosition), s.tooFar c]
  ++ s.taken (sourceOutside src r.source r.width) ++ [s.noRoom]

/-- The checks of a RELEASE behind the reference (R27). -/
def State.releaseChecks (s : State) (who : Requester) (c : Option Cutover) (r : Record) :
    List (Bool × OutcomeCode) :=
  [r.ownership who, (r.closingByLease, .retiring),
    (decide (r.state = .referred ∨ r.state = .altering ∨ r.state = .closing), .pending),
    s.tooFar c, (decide (r.state = .active ∧ ¬s.HasRoom), .queueFull)]

/-- The checks of a RENEW of a value behind the reference (R27, R29). -/
def Record.renewChecks (who : Requester) (v : Byte) (r : Record) : List (Bool × OutcomeCode) :=
  [r.ownership who, (decide (who = .host ∧ v = 0 ∧ r.owner ≠ some .host), .notOwner),
    (r.closingByLease, .retiring),
    (decide (r.state = .referred ∨ r.state = .closing), .pending)]

/-- The checks of a CANCEL and of an ADOPT behind the reference (R27). -/
def Record.endingChecks (r : Record) : List (Bool × OutcomeCode) :=
  [(r.closingByLease, .retiring), (decide (r.state = .referred), .pending)]

/-! ## Terms of the statements: what a step leaves -/

/-- One record becomes this, and every other is kept. -/
abbrev State.RecordBecomes (s t : State) (i : RecNo) (r : Record) : Prop :=
  ∀ j : RecNo, t.record j = if i = j then r else s.record j

/-- Every entry of the position map becomes what a function of its position makes of it. -/
abbrev State.MapBecomes (s t : State) (f : Plane → Nat → Nat → PosEntry → PosEntry) : Prop :=
  ∀ (p : Plane) (l : Fin 8) (q : Fin 40), t.entry p l q = f p l q (s.entry p l q)

/-- Every entry of the egress program becomes what a function of its position makes of it. -/
abbrev State.ProgramBecomes (s t : State) (f : Nat → Nat → ProgramEntry → ProgramEntry) : Prop :=
  ∀ (l : Fin 8) (q : Fin 38), t.programEntry l q = f l q (s.programEntry l q)

/-- Of the whole part, nothing has changed but these: circuit table, position map, change queue,
ATTENTION_COUNT, link channels, referral records, mailbox, event flags. -/
abbrev State.KeepsElsewhere (s t : State) : Prop :=
  t = { s with
    manager := { s.manager with
      table := t.manager.table
      map := t.manager.map
      queue := t.manager.queue
      attentionCount := t.manager.attentionCount }
    links := t.links
    referrals := { s.referrals with records := t.referrals.records }
    mailbox := t.mailbox
    events := { s.events with flags := t.events.flags } }

/-- The mailbox has completed at once, with this outcome and this response area; MAILBOX is raised
beside the flags given (R182, R183). -/
abbrev State.AnswersAtOnce (s t : State) (code : BitVec 7) (await : Bool) (o : OutcomeCode)
    (response : Vector Byte 24) (flags : BitVec 13) : Prop :=
  t.mailbox = { s.mailbox with
      command := BitVec.ofBool await ++ code
      outcome := o
      response := response
      sequence := s.mailbox.sequence + 1
      refusedWrite := false
      awaiting := false }
    ∧ t.events.flags = flags ||| 0x1000#13

/-- A host command is refused (R24, R26, R27): the mailbox completes at once with this outcome and this
response area, and nothing else of the part changes. -/
abbrev State.HostRefused (s : State) (c : Instr) (code : BitVec 7) (await : Bool) (o : OutcomeCode)
    (response : Vector Byte 24) : Prop :=
  ∃ t, exec c s = .next t
    ∧ t = { s with mailbox := t.mailbox, events := { s.events with flags := t.events.flags } }
    ∧ s.AnswersAtOnce t code await o response s.events.flags

/-- The answer to a refused request that named a circuit by reference (R26): with the record's state and
its remaining count where the reference is known and the format was right. -/
def State.refusal (s : State) (o : OutcomeCode) (index generation : Byte) (known : Option RecNo) :
    Reply where
  outcome := o
  reference := some (index, generation)
  state := known.map fun i => (s.record i).state
  lease := known.bind fun i => (s.record i).remaining

/-- A host command that names a circuit is refused at the first check that fails: its format, its
reference, then those given. -/
abbrev State.HostChecked (s : State) (c : Instr) (code : BitVec 7) (await format : Bool)
    (checks : Record → List (Bool × OutcomeCode)) : Prop :=
  ((format = true ∨ ∀ i, ¬s.Names (s.request 0) (s.request 1) i) →
      s.HostRefused c code await (if format then .badFormat else .unknownCircuit)
        (s.refusal (if format then .badFormat else .unknownCircuit) (s.request 0) (s.request 1)
          none).response)
    ∧ ∀ i, format = false → s.Names (s.request 0) (s.request 1) i →
      firstOutcome (checks (s.record i)) ≠ .ok →
      s.HostRefused c code await (firstOutcome (checks (s.record i)))
        (s.refusal (firstOutcome (checks (s.record i))) (s.request 0) (s.request 1)
          (some i)).response

/-- A line request is refused (R24, R26, R27): its RESULT is placed on its link, and nothing else of the
part changes. -/
abbrev State.LineRefused (s : State) (c : Instr) (k : LinkNo) (reply : Reply) : Prop :=
  exec c s = .next { s with links := (s.answerLine k reply).links }

/-- A line request that names a circuit is refused at the first check that fails: its format, its
reference, then those given. -/
abbrev State.LineChecked (s : State) (c : Instr) (k : LinkNo) (index generation : Byte)
    (format : Bool) (checks : Record → List (Bool × OutcomeCode)) : Prop :=
  ((format = true ∨ ∀ i, ¬s.Names index generation i) →
      s.LineRefused c k (s.refusal (if format then .badFormat else .unknownCircuit) index generation
        none))
    ∧ ∀ i, format = false → s.Names index generation i →
      firstOutcome (checks (s.record i)) ≠ .ok →
      s.LineRefused c k
        (s.refusal (firstOutcome (checks (s.record i))) index generation (some i))

/-- A command that staged a change is answered: with AWAIT the mailbox is AWAITING with the immediate
answer in its response area and no event, without it the mailbox completes with OK (R182). -/
abbrev State.AnswersStaged (s t : State) (code : BitVec 7) (await : Bool)
    (response : Vector Byte 24) : Prop :=
  if await then
    t.mailbox = { s.mailbox with
        command := BitVec.ofBool true ++ code
        response := response
        awaiting := true }
      ∧ t.events.flags = s.events.flags
  else s.AnswersAtOnce t code false .ok response s.events.flags

/-- The count of records with attention, after one record's mark has been cleared (R15). -/
def State.countCleared (s : State) (i : RecNo) : Nat :=
  s.manager.attentionCount - if (s.record i).attention then 1 else 0

/-- The count of records with attention, after one record's mark has been set (R14). -/
def State.countSet (s : State) (i : RecNo) : Nat :=
  s.manager.attentionCount + if (s.record i).attention then 0 else 1

/-- The flags after one record's mark has been set: ATTENTION is raised where it was clear (R14). -/
def State.flagsSet (s : State) (i : RecNo) : BitVec 13 :=
  if (s.record i).attention then s.events.flags else s.events.flags ||| 0x800#13

/-- Every claim of a record released to OPEN, every other entry kept (R11, R12). -/
def released (i : RecNo) (e : PosEntry) : PosEntry :=
  match e with
  | .claimed j ph => if j = i then .openPos else .claimed j ph
  | e => e

/-- The next frame start, where frames have been running, is a superframe start: the counter wraps, or
the marker is seen with the window OPEN (R102, R103). -/
abbrev Timing.superframeNext (sfm : Bool) (t : Timing) : Prop :=
  t.counter = 15 ∨ (t.markerEnabled = true ∧ sfm = true ∧ t.windowOpen = true)

/-- The counts of the Timing Unit after a frame start 320 bit periods after the last (R101 to R104),
role, state and holdover count apart. -/
abbrev Timing.Advances (sfm : Bool) (t u : Timing) : Prop :=
  u = { t with
      role := u.role
      state := u.state
      holdoverCount := u.holdoverCount
      tally := t.tally + 1
      counter := u.counter
      number := u.number
      windowOpen := u.windowOpen
      clock := max t.clock (t.frameAt + 320)
      frameAt := t.frameAt + 320 }
    ∧ (t.counter = 15 → u.counter = 0 ∧ u.number = t.number + 1 ∧ u.windowOpen = t.windowOpen)
    ∧ (t.counter ≠ 15 → t.markerEnabled = true → sfm = true → t.windowOpen = true →
        u.counter = 0 ∧ u.number = t.number + 1 ∧ u.windowOpen = false)
    ∧ (t.counter ≠ 15 → ¬(t.markerEnabled = true ∧ sfm = true ∧ t.windowOpen = true) →
        u.counter = t.counter + 1 ∧ u.number = t.number
          ∧ u.windowOpen = (t.windowOpen || t.counter == 14))

/-- The octet that arrived on a link in a slot of the frame that a command ends, or the link's fill
octet where none was complete (R79, R80). -/
def State.arrivedOctet (s : State) (rx : LineOctets) (l : Fin 8) (q : Fin 38) : Byte :=
  ((s.switch.capture[l] ++ (rx[l.val]?).getD [])[q.val]?).getD s.switch.fill[l]

/-- What a frame start leaves alone, where the Circuit Manager had nothing to catch up with: it writes
the counts, the sample store, the pairs presented, the frame handed on, the lease divider and the
referrals' counts, and nothing else (R101). -/
abbrev State.HandsOn (s t : State) : Prop :=
  s.manager.applicationDue = false → s.manager.tickDue = false →
    t = { s with
      timing := t.timing
      switch := t.switch
      manager := { s.manager with
        frame := t.manager.frame
        applicationDue := true
        divider := t.manager.divider
        tickDue := t.manager.tickDue
        timeouts := t.manager.timeouts }
      links := s.links.map Link.beginFrame
      referrals := { s.referrals with records := t.referrals.records }
      events := { s.events with flags := t.events.flags }
      pins := t.pins }
    ∧ t.events.flags ||| 1 = s.events.flags ||| 1

/-- What a frame start that ends a frame hands on to the Switch Path and the Circuit Manager (R80, R84,
R101): held octets from the frame that ended, an empty capture, the fill octets in force, the time of
the frame begun and an application step to take. -/
abbrev State.BeginsFrame (s t : State) (rx : LineOctets) (superframe : Prop) [Decidable superframe] :
    Prop :=
  (∀ (l : Fin 8) (q : Fin 38), t.heldOctet l q = s.arrivedOctet rx l q)
    ∧ t.switch.fillInForce = s.switch.fill ∧ t.switch.fill = s.switch.fill
    ∧ t.switch.capture = Vector.replicate 8 []
    ∧ t.manager.frame =
        ⟨t.timing.tally, t.timing.counter, t.timing.number, decide superframe⟩
    ∧ t.manager.applicationDue = true ∧ s.HandsOn t

/-- The sample store has been emptied (R88): every held octet is its link's fill octet as last written,
and nothing is captured. -/
abbrev State.StoreEmptied (s t : State) : Prop :=
  (∀ (l : Fin 8) (q : Fin 38), t.heldOctet l q = s.switch.fill[l])
    ∧ t.switch.capture = Vector.replicate 8 [] ∧ t.switch.fill = s.switch.fill
    ∧ t.switch.fillInForce = s.switch.fillInForce

/-- What the state becomes once the Circuit Manager has taken what the frame starts before have handed
on: the application step, the lease tick, then the timeouts in the order of their handing. Each is taken
by its own row. -/
abbrev State.CaughtUp (s n : State) : Prop :=
  ∃ a b, exec .applyDueChanges s = .next a ∧ exec .leaseTick a = .next b
    ∧ n = b.manager.timeouts.foldl (fun u x =>
        match exec (.referralTimeout x.link) u with
        | .next v => v
        | _ => u) b

/-- Nothing that a frame start hands on is outstanding. -/
abbrev State.NothingOutstanding (s : State) : Prop :=
  s.manager.applicationDue = false ∧ s.manager.tickDue = false ∧ s.manager.timeouts = []

/-- The next bit period begins: the count is one more, and FRM has been sampled in role SLAVE (R94,
R100). -/
abbrev State.nextBit (s : State) : State :=
  { s with timing := { s.timing with
      clock := s.timing.clock + 1
      frmBefore := if s.timing.role = .slave then s.pins.frm else s.timing.frmBefore } }

/-- The octet in progress on a LIN line with the bit of this bit period (R78). -/
def State.shifted (s : State) (k : LinkNo) : Byte :=
  (s.switch.shift[k] <<< 1) ||| (if s.pins.lin.getLsbD k then 1 else 0)

/-- Bit period b of a frame passes (R78, R79, R85): every LIN line is sampled; the octets of a bearer
slot enter the capture with their last bit, those of slot 38 are kept, and with the last bit of slot 39
each channel handles its arrival. Nothing else changes. -/
abbrev State.LinesTaken (s w : State) (b : Nat) : Prop :=
  ∃ u : State, u = { s with switch := { s.switch with
        shift := u.switch.shift, capture := u.switch.capture, channelIn := u.switch.channelIn } }
    ∧ (∀ k : LinkNo, u.switch.shift[k] = s.shifted k)
    ∧ (∀ k : LinkNo, u.switch.capture[k] =
        if b % 8 = 7 ∧ b / 8 < 38 then s.switch.capture[k] ++ [s.shifted k] else s.switch.capture[k])
    ∧ (∀ k : LinkNo, u.switch.channelIn[k] =
        if b = 311 then s.shifted k else s.switch.channelIn[k])
    ∧ w = if b = 319 then
          (List.finRange 8).foldl (fun u k =>
            match exec (.controlSlotArrival k s.switch.channelIn[k] (s.shifted k)) u with
            | .next v => v
            | _ => u) u
        else u

/-- The record is named by the referral of an enabled link, which a control-plane reset ends (R149, R175).
-/
abbrev State.EndsAtReset (s : State) (i : RecNo) : Prop :=
  ∃ k : LinkNo, (s.link k).enable = true ∧ (s.referral k).map Referral.circuit = some i

/-- Frames are in step with FRM: LOCKED or HOLDOVER. -/
abbrev Timing.tracking (t : Timing) : Prop := t.state = .locked ∨ t.state = .holdover

/-- A command that begins a frame at a position (R92, R93, R96, R97, R98): a frame start by the count of
FREE_RUN, by a pulse or by the flywheel; the pulse itself, the third of acquisition among them; a MASTER
write in role SLAVE. -/
abbrev State.FrameBegins (s : State) (c : Instr) (sfm : Bool) (rx : LineOctets) (p : Nat) : Prop :=
  (c = .frameStart false sfm rx ∧ s.timing.state = .freeRun ∧ p = s.timing.frameAt + 320)
    ∨ (c = .frameStart true sfm rx ∧ (s.timing.state = .freeRun ∨ s.timing.tracking)
        ∧ p = s.timing.frameAt + 320)
    ∨ (c = .frmPulse p sfm rx ∧ s.timing.role = .slave ∧ s.timing.tracking ∧ p = s.timing.frameAt + 320)
    ∨ ((c = .flywheelFrameStart sfm rx ∨ c = .frameStart false sfm rx)
        ∧ (s.timing.state = .locked ∨ (s.timing.state = .holdover
          ∧ s.timing.holdoverCount + 1 ≤ s.timing.holdoverLimit.toNat))
        ∧ p = s.timing.frameAt + 320)
    ∨ (c = .frmPulse p sfm rx ∧ s.timing.role = .slave ∧ s.timing.state = .acquiring
        ∧ s.timing.pulseAt.map (· + 320) = some p ∧ 2 ≤ s.timing.consistency)
    ∨ (c = .writeMaster rx ∧ s.timing.state ≠ .freeRun ∧ p = s.timing.clock)

/-- The pair of a channel as it stands, by the table of R128 and the layout of 13.1. -/
abbrev State.PairAsItStands (s : State) (k : LinkNo) (pair : Byte × Byte) : Prop :=
  let l := s.link k
  match l.state with
  | .disabled => pair = (0xFF, 0xFF)
  | .absent => pair = (0xFF, if 0 < l.withdrawal then 0xFF else 0xA2)
  | .up | .stalled =>
    pair.2.extractLsb' 5 3 = 5
      ∧ pair.2.getLsbD 4 = decide (l.state = .up ∧ l.onOffer.isSome = true)
      ∧ pair.2.getLsbD 3 = l.sendSeq ∧ pair.2.getLsbD 1 = l.receiveAck
      ∧ pair.2.getLsbD 0 = decide (0 < l.refusalDisplay)
      ∧ (l.state = .stalled ∨ l.onOffer = none → pair.1 = 0xFF ∧ pair.2.getLsbD 2 = false)
      ∧ (l.state = .up → ∀ j, l.onOffer = some j → ∀ v, l.head[j]? = some v →
        pair.1 = v ∧ pair.2.getLsbD 2 = decide (j + 1 = l.head.length))

/-- An arrival is handled in UP or STALLED and does not end the session (R132). -/
abbrev State.ArrivesInSession (s : State) (k : LinkNo) (hs : Byte) : Prop :=
  s.timing.state ≠ .acquiring ∧ ((s.link k).state = .up ∨ (s.link k).state = .stalled)
    ∧ (hs.extractLsb' 5 3 = 5 ∨ (s.link k).loss < 3)

/-- An arrival with this handshake octet neither acknowledges the octet on offer nor completes a refusal
(R136, R137): its presence is invalid, or its ACK differs from the send SEQ and its REFUSE is 0, the first in
a row, or one that the latch shuts out. -/
abbrev Link.StaysOnOffer (hs : Byte) (l : Link) : Prop :=
  l.refusalSeen < 2
    ∧ (hs.extractLsb' 5 3 ≠ 5
      ∨ (hs.getLsbD 1 ≠ l.sendSeq
        ∧ (hs.getLsbD 0 = false ∨ l.refusalLatch = true ∨ l.refusalSeen = 0)))

/-- The LINK k flag (R192). -/
def linkFlag (k : LinkNo) : BitVec 13 := 2#13 <<< k.val

/-- One link becomes this, and every other is kept. -/
abbrev State.LinkBecomes (s t : State) (k : LinkNo) (l : Link) : Prop :=
  ∀ j : LinkNo, t.link j = if k = j then l else s.link j

/-- The referral of link k has ended with no message (R175): EMPTY, its record FREE with the generation
kept and its claims released; with none WAITING, nothing has changed. -/
abbrev State.ReferralEnded (s t : State) (k : LinkNo) : Prop :=
  (∀ j : LinkNo, t.referral j = if k = j then none else s.referral j)
    ∧ match s.referral k with
      | some r => s.RecordBecomes t r.circuit { generation := (s.record r.circuit).generation }
          ∧ s.MapBecomes t (fun _ _ _ e => released r.circuit e)
          ∧ t.manager.attentionCount = s.countCleared r.circuit
      | none => t.manager = s.manager

/-- A lease of a record counts (R111). -/
abbrev Record.leaseCounts (r : Record) : Prop :=
  (r.state = .opening ∨ r.state = .active ∨ r.state = .altering)
    ∧ ∃ l ∈ r.lease, l.remaining ≠ 0

/-- The next lease tick brings the lease of a record to 0 (R112): it counts, and stands at 1. -/
abbrev State.RunsOut (s : State) (i : RecNo) : Prop :=
  (s.record i).leaseCounts ∧ (s.record i).remaining = some 1

/-- A lease with its remaining count reduced by one (R112). -/
def Lease.reduced (l : Lease) : Lease := { l with remaining := l.remaining - 1 }

/-- The ACTIVE records that a lease tick takes for staging, in ascending order (R116): those whose lease
runs out at it, and those that waited before it. -/
def State.tickWaiters (s : State) : List RecNo :=
  (List.finRange 192).filter fun i =>
    decide ((s.record i).state = .active ∧ (s.RunsOut i ∨ (s.record i).remaining = some 0))

/-- The entry that lease expiry makes (R73, R116). -/
def State.expiryEntry (s : State) (i : RecNo) : QueueEntry :=
  ⟨i, .deactivate, .nextFrame, s.timing.tally, false⟩

/-- The change queue after the expiries of a lease tick in OPENING and ALTERING (R73): the entries of the
former have left, those of the latter are rewritten in place. -/
def State.tickQueue (s : State) : List QueueEntry :=
  s.manager.queue.filterMap fun e =>
    if s.RunsOut e.circuit then
      if (s.record e.circuit).state = .opening then none else some (s.expiryEntry e.circuit)
    else some e

/-- The ACTIVE records on which a lease tick stages a DEACTIVATE: as many as the queue has room for, the
lowest first (R116). -/
def State.tickServed (s : State) : List RecNo :=
  s.tickWaiters.take (24 - s.tickQueue.length)

/-- The RETIRED notices of a lease tick, in ascending order of index (R112, R114): to the owners of the
records that expire in OPENING. -/
def State.tickNotices (s : State) : State :=
  ((List.finRange 192).filter fun i =>
      decide (s.RunsOut i ∧ (s.record i).state = .opening)).foldl
    (fun u i => u.notifyOwner (s.record i).owner .retiredLease i (s.record i).generation) s

/-- The mailbox after the completion of an awaited change by withdrawal (R74, R183). -/
def State.mailboxWithdrawn (s : State) (i : RecNo) (st : CircuitState) : Mailbox :=
  { s.mailbox with
    outcome := .withdrawn
    sequence := s.mailbox.sequence + 1
    refusedWrite := false
    awaiting := false
    response := respond [(0, 3), (1, indexOctet i), (2, (s.record i).generation),
      (3, octet st.code)] }

/-- The link and the slot that a source names, both 0 for a constant. -/
def Source.named : Source → Nat × Nat
  | .position l q => (l, q)
  | .constant _ => (0, 0)

/-- The link and the slot that the parameter of a staged change names, both 0 where it names none. -/
def Change.named : Change → Nat × Nat
  | .add g | .drop g => (g.link, g.slot)
  | .move src => src.named
  | .activate | .deactivate => (0, 0)

/-- The eight bits of an octet on a serial line, most significant first (R177). -/
def octetBits (v : Byte) : List Bool := (List.range 8).map fun i => v.getLsbD (7 - i)

/-- The level of SDO after a run of edges at a port that has just come out of reset with CS_N high. -/
def State.sdoAfter (s : State) (edges : List Decode.SpiEdge) : Option Bool :=
  s.sdo (Decode.SpiPort.edges {} edges).1

end Sys2Proof.Machine
end

