-- ==== Sys2Proof/Certificates/Slice0/Obligations.lean ====
section
/-! DEFINITION. The statements for the provers. Each says of the machine what its docstring says; the
terms that they share stand at the end of Sys2Proof/Safety.lean. -/

section Statements

open Sys2Proof Sys2Proof.Machine

/-! ## The machine -/

/-- A step with a command waiting executes the front command on the state with the queue's rest. The
model's own frame of a step: no rule of the manual. The model's choice: assumption 16. -/
def Obligations.StepExecutesTheFrontCommand : Prop :=
  ∀ (s : State) (c : Instr) (rest : List Instr),
    step { s with pending := c :: rest } = exec c { s with pending := rest }

/-- No command, no step and no idle step ends in a fault or a refusal; and no command, whatever it does,
touches the commands that wait or the levels that the outside drives on LIN and FRM. The model's
choices: assumptions 1, 16 and 19. -/
def Obligations.EveryCommandCompletesAndKeepsTheQueue : Prop :=
  (∀ (c : Instr) (s : State), ∃ t, exec c s = .next t ∧ t.pending = s.pending
      ∧ t.pins.lin = s.pins.lin ∧ t.pins.frm = s.pins.frm)
    ∧ ∀ s : State, Completes (step s)

/-! ## Device reset -/

/-- Device reset (R191, R198; 13.6): from any state, the part stands at its reset state, all but the
levels of the input pins and the commands still to come; every register reads the device-reset value of
the register map; every LOUT line is high, and no interrupt is requested. The model's choices:
assumptions 13 and 19. -/
def Obligations.DeviceResetGivesTheRegisterMap : Prop :=
  ∀ s : State, ∃ t, exec .deviceReset s = .next t
    ∧ t = { State.reset with pins := s.pins, pending := s.pending }
    ∧ (∀ a : BitVec 7, t.readRegister a =
        if a = 0x3C then 0x10 else if a = 0x3E then 0x01 else if a = 0x44 then 2
        else if a = 0x45 then 0x40 else if a = 0x46 then 0x20 else if a = 0x47 then 0x32
        else if 0x50 ≤ a ∧ a < 0x58 then 1 else if 0x58 ≤ a ∧ a < 0x60 then 1
        else if 0x60 ≤ a ∧ a < 0x68 then 1#8 <<< (a - 0x60).toNat
        else if 0x68 ≤ a ∧ a < 0x70 then 0xFF else 0)
    ∧ (∀ k : LinkNo, t.lout k = true) ∧ t.events.irqLow = false

/-! ## Encodings -/

/-- A line request that a message can carry, sent with its tag and check, is read back as it was sent
(R150, R151, R152; 13.2). -/
def Obligations.LineRequestsRoundTrip : Prop :=
  ∀ (tag : Byte) (r : LineRequest), r.wellFormed = true →
    Decode.lineRequest (Decode.encodeLineRequest tag r) = some r
      ∧ (Decode.encodeLineRequest tag r).tail.head? = some tag
      ∧ Decode.checkSum (Decode.encodeLineRequest tag r) = 0
      ∧ 3 ≤ (Decode.encodeLineRequest tag r).length
      ∧ (Decode.encodeLineRequest tag r).length ≤ 16

/-- A host write of one octet does what the row of the table does that the address and the value select
(13.6, R179, R200). The model's choices: assumptions 3, 6, 15 and 21. -/
def Obligations.HostWritesAreTheirRows : Prop :=
  ∀ (s : State) (a : BitVec 7) (v : Byte),
    exec (Decode.hostWrite a v) s = exec (.registerWrite a v) s

/-- The commands of an SPI transaction (R177 to R179): the data octets of a write are written at the
starting address and the addresses behind it, 7Fh followed by 00h; a read makes its snapshot with the
address octet and sends one octet for each data octet; the bits of an octet that is not complete make
nothing; RST_N low in the middle ends the transaction and resets the part, and a transaction whose CS_N
was low when RST_N rose has no effect. SDO is 0 in the address octet and in a write, shows the
snapshot's octets most significant bit first in a read, and is high impedance with CS_N high or RST_N
low. The model's
choices: assumptions 3, 15 and 21. -/
def Obligations.TransactionsMakeTheirCommands : Prop :=
  ∀ (addr : Byte) (data : List Byte) (stray : List Bool) (bits : List Bool) (cmds : List Instr),
    stray.length < 8 → bits = octetBits addr ++ data.flatMap octetBits ++ stray →
    (cmds = if addr.getLsbD 7 then
        .eventVectorRead (.address (addr.extractLsb' 0 7)) ::
          List.replicate data.length (.eventVectorRead .octet)
      else data.zipIdx.map fun d =>
        Decode.hostWrite (addr.extractLsb' 0 7 + BitVec.ofNat 7 d.2) d.1) →
    Decode.transaction stray = [] ∧ Decode.transaction bits = cmds
      ∧ (∀ late : List Bool, (Decode.SpiPort.edges {} (.csFall :: Decode.clocked bits
          ++ [.rstFall] ++ Decode.clocked late ++ [.rstRise] ++ Decode.clocked late
          ++ [.csRise])).2 = cmds ++ [.deviceReset])
      ∧ ∀ s : State,
        s.sdoAfter (.csFall :: Decode.clocked stray) = some false
        ∧ s.sdoAfter (.csFall :: Decode.clocked bits) =
            (match s.port.snapshot with
              | some w => if addr.getLsbD 7 then
                  some ((w[(addr.extractLsb' 0 7 + BitVec.ofNat 7 data.length).toNat]).getLsbD
                    (7 - stray.length))
                else some false
              | none => some false)
        ∧ s.sdoAfter (.csFall :: Decode.clocked bits ++ [.csRise]) = none
        ∧ s.sdoAfter (.csFall :: Decode.clocked bits ++ [.rstFall]) = none

/-! ## The mailbox -/

/-- A COMMAND write while the mailbox is AWAITING is refused: the refused-write indicator is set, and
nothing else changes, whatever the code and the flag (R186). A code that names no command, taken in
READY, completes at once with BAD_FORMAT and a response area of zeros, and changes nothing else (R184,
R185). The model's choice: assumption 3. -/
def Obligations.RefusedAndUndefinedCommandWrites : Prop :=
  ∀ (s : State) (code : BitVec 7) (await : Bool),
    (∀ c : Instr, s.mailbox.awaiting = true →
      c = .commandRefused code await ∨ c = .undefinedCommand code await
        ∨ c = Decode.commandRow code await ∨ c = .approve await ∨ c = .deny await →
      exec c s = .next { s with mailbox := { s.mailbox with refusedWrite := true } })
    ∧ (s.Ready → code = 0 ∨ 0x11 ≤ code.toNat →
      ∃ t, exec (.undefinedCommand code await) s = .next t ∧ s.KeepsElsewhere t
        ∧ t.manager = s.manager ∧ t.links = s.links ∧ t.referrals = s.referrals
        ∧ s.AnswersAtOnce t code await .badFormat (Vector.replicate 24 0) s.events.flags)

/-- A host command that is refused changes nothing but the mailbox (R24, R26, R183): it completes at
once with an outcome other than OK, whatever its AWAIT flag. The outcome is that of the first check
that fails, in the order of R27: format (R28), the reference named, ownership and state (R29, R30),
position range (R31), overlap (R32), cutover distance (R34), barred and busy (R35), record and room
(R36); and the answer carries the record's state and remaining count when the reference is known and
the format was right (R26). The commands that name no circuit by reference have their own checks (R29,
R51, R52, R172, R173). The model's choices: assumptions 4, 11 and 18. -/
def Obligations.RefusedRequestsChangeNothing : Prop :=
  ∀ (s : State) (code : BitVec 7) (await : Bool), s.Ready →
    (∀ (t : State) (c : Instr),
      c = Decode.commandRow code await
        ∨ (code = 0x0F ∧ (c = .approve await ∨ c = .deny await)) →
      exec c s = .next t → t.mailbox.awaiting = false → t.mailbox.outcome ≠ .ok →
      t = { s with
          mailbox := t.mailbox
          events := { s.events with flags := t.events.flags } }
        ∧ s.AnswersAtOnce t code await t.mailbox.outcome t.mailbox.response s.events.flags)
    ∧ (firstOutcome (s.openChecks .host false s.requestOpen) ≠ .ok →
      s.HostRefused (.openCircuit await) 0x01 await
        (firstOutcome (s.openChecks .host false s.requestOpen)) (respond []))
    ∧ s.HostChecked (.add await) 0x02 await (decide (s.requestCutover = none))
        (s.addChecks .host (groupOf (s.request 2) (s.request 3)) s.requestCutover)
    ∧ s.HostChecked (.drop await) 0x03 await (decide (s.requestCutover = none))
        (s.dropChecks .host (groupOf (s.request 2) (s.request 3)) s.requestCutover)
    ∧ s.HostChecked (.move await) 0x04 await
        (decide (s.requestCutover = none ∨ 1 < (s.request 2).toNat))
        (s.moveChecks (sourceOf (s.request 2) (s.request 3) (s.request 4)) s.requestCutover)
    ∧ s.HostChecked (.release await) 0x05 await (decide (s.requestCutover = none))
        (s.releaseChecks .host s.requestCutover)
    ∧ s.HostChecked (.renew await) 0x06 await false (Record.renewChecks .host (s.request 2))
    ∧ s.HostChecked (.cancel await) 0x07 await false Record.endingChecks
    ∧ s.HostChecked (.adopt await) 0x08 await false Record.endingChecks
    ∧ (192 ≤ (s.request 0).toNat →
      s.HostRefused (.query await) 0x09 await .unknownCircuit (respond []))
    ∧ (1 < (s.request 0).toNat →
      s.HostRefused (.locate await) 0x0A await .badFormat (respond []))
    ∧ ((s.request 0).toNat ≤ 1 → 8 ≤ (s.request 1).toNat ∨ 40 ≤ (s.request 2).toNat →
      s.HostRefused (.locate await) 0x0A await .badPosition (respond []))
    ∧ (5 < (s.request 1).toNat
        ∨ (s.request 1 = 2 ∧ 8 ≤ (s.request 2).toNat ∧ (s.request 2).toNat < 128) →
      s.HostRefused (.nextRecord await) 0x0B await .badFormat (respond []))
    ∧ (8 ≤ (s.request 0).toNat →
      s.HostRefused (.readReferral await) 0x0E await .badFormat (respond []))
    ∧ ∀ c : Instr, c = .approve await ∨ c = .deny await →
      (8 ≤ (s.request 0).toNat ∨ s.request 1 = 0 ∨ 2 < (s.request 1).toNat →
        s.HostRefused c 0x0F await .badFormat (respond [(8, s.request 0)]))
      ∧ ∀ k : LinkNo, (s.request 0).toNat = k.val →
        (s.request 1 = 1 ∨ s.request 1 = 2 → s.referral k = none →
          s.HostRefused c 0x0F await .noReferral (respond [(8, s.request 0)]))
        ∧ ∀ r : Referral, s.request 1 = 1 → s.referral k = some r → ¬s.HasRoom →
          s.HostRefused c 0x0F await .queueFull (respond [(0, 3), (1, indexOctet r.circuit),
            (2, r.generation), (3, octet (s.record r.circuit).state.code), (8, s.request 0)])

/-- ABANDON (R187): in AWAITING the awaited mark is cleared, every entry stays staged with its place and
its due condition, and the mailbox completes with ABANDONED, its response area left as it stands; in
READY nothing changes; and CONTROL reads 00h. -/
def Obligations.AbandonEndsTheWaitAlone : Prop :=
  ∀ s : State,
    (s.Ready → exec .abandon s = .next s)
    ∧ (s.mailbox.awaiting = true → exec .abandon s = .next { s with
        manager := { s.manager with
          queue := s.manager.queue.map fun e => { e with awaited := false } }
        mailbox := { s.mailbox with
          outcome := .abandoned
          sequence := s.mailbox.sequence + 1
          refusedWrite := false
          awaiting := false }
        events := { s.events with flags := s.events.flags ||| 0x1000#13 } })
    ∧ s.readRegister 0x34 = 0

/-- The control-plane reset (R149, R163, R175, R188, R198): the mailbox is at its reset values with no
completion, every flag is 0, every awaited mark is cleared and every entry stays staged, the session
and the referral of every enabled link are ended, with withdrawal begun and a pair of FFh in both
octets from the next frame on, and a disabled link keeps all but its notice-lost indicator. The record
of an ended referral goes to FREE with its generation kept, its claims to OPEN (R22), and
ATTENTION_COUNT follows (R16); every other position keeps its entry. Timing, the sample store, the
settings, the enables, the egress program, the reach sets, the divider, and every record that no ended
referral named, are kept. The model's choices: assumptions 8 and 14. -/
def Obligations.ControlResetKeepsSwitching : Prop :=
  ∀ s : State, ∃ t, exec .cpReset s = .next t
    ∧ t.mailbox = Mailbox.reset ∧ t.events = { s.events with flags := 0 }
    ∧ t.timing = s.timing ∧ t.switch = s.switch ∧ t.settings = s.settings ∧ t.port = s.port
    ∧ t.pins = s.pins ∧ t.pending = s.pending
    ∧ t.referrals.policy = s.referrals.policy ∧ t.referrals.timeout = s.referrals.timeout
    ∧ t.manager = { s.manager with
        table := t.manager.table
        map := t.manager.map
        attentionCount := t.manager.attentionCount
        queue := s.manager.queue.map fun e => { e with awaited := false } }
    ∧ (∀ k : LinkNo, (s.link k).enable = false →
        t.link k = { s.link k with noticeLost := false } ∧ t.referral k = s.referral k)
    ∧ (∀ k : LinkNo, (s.link k).enable = true →
        t.link k = { noticeCount := (s.link k).noticeCount
                     presented := if (s.link k).arrived then ⟨0xFF, 0xFF, .other⟩
                       else { (s.link k).presented with kind := .other }
                     arrived := (s.link k).arrived }
          ∧ t.referral k = none
          ∧ (t.link k).beginFrame.presented.channel = 0xFF
          ∧ (t.link k).beginFrame.presented.handshake = 0xFF)
    ∧ (∀ i : RecNo, t.record i =
        if s.EndsAtReset i then { generation := (s.record i).generation } else s.record i)
    ∧ s.MapBecomes t (fun _ _ _ e => match e with
        | .claimed i ph => if s.EndsAtReset i then .openPos else .claimed i ph
        | e => e)
    ∧ t.manager.attentionCount = s.manager.attentionCount - (List.finRange 192).countP fun i =>
        decide (s.EndsAtReset i ∧ (s.record i).attention = true)

/-- A host OPEN that passes every check (R38; R9, R10): the record that allocation takes is initialised
in OPENING, its positions are claimed JOINING, and an ACTIVATE of cause HOST is staged at the end of the
queue, tagged with the frame in progress. Nothing else changes. The model's choices: assumptions 4 and
20. -/
def Obligations.HostOpenStagesAnActivate : Prop :=
  ∀ (s : State) (await : Bool) (i : RecNo) (src : Source) (c : Cutover),
    s.Ready → s.Allocates i → s.entriesOf i = [] →
    s.requestOpen.source = some src → s.requestOpen.cutover = some c →
    1 ≤ s.requestOpen.width → s.requestOpen.width ≤ 4 →
    1 ≤ s.requestOpen.count → s.requestOpen.count ≤ 4 →
    sourceInRange (some src) s.requestOpen.width = true →
    (∀ g ∈ s.requestOpen.dests, g.link < 8 ∧ g.slot + s.requestOpen.width ≤ 38) →
    anyOverlap s.requestOpen.width s.requestOpen.dests = false → s.Allows c →
    s.AllOpen (inCircuit (some src) s.requestOpen.dests s.requestOpen.width) → s.HasRoom →
    ∃ t, exec (.openCircuit await) s = .next t ∧ s.KeepsElsewhere t
      ∧ t.links = s.links ∧ t.referrals = s.referrals
      ∧ s.RecordBecomes t i {
          generation := (s.record i).generation + 1
          state := .opening
          owner := some .host
          source := some src
          width := s.requestOpen.width
          dests := s.requestOpen.dests
          lease := if s.requestOpen.lease = 0 then none
            else some ⟨s.requestOpen.lease, s.requestOpen.lease⟩
          tag := s.requestOpen.tag
          staged := some ⟨.activate, c, .host⟩ }
      ∧ s.MapBecomes t (fun p l q e =>
          if inCircuit (some src) s.requestOpen.dests s.requestOpen.width p l q then
            .claimed i .joining
          else e)
      ∧ t.manager.queue = s.manager.queue ++ [⟨i, .activate, c, s.timing.tally, await⟩]
      ∧ t.manager.attentionCount = s.countCleared i
      ∧ s.AnswersStaged t 0x01 await (Reply.response {
          outcome := .ok
          reference := some (indexOctet i, (s.record i).generation + 1)
          state := some .opening
          lease := if s.requestOpen.lease = 0 then none else some s.requestOpen.lease })

/-- A host ADD that passes every check (R41): the new group is claimed JOINING, an ADD of cause HOST is
staged, and the record goes to ALTERING with its destination list as it was. The model's choices:
assumptions 4 and 20. -/
def Obligations.HostAddStagesAnAdd : Prop :=
  ∀ (s : State) (await : Bool) (i : RecNo) (g : Group) (c : Cutover),
    s.Ready → s.Names (s.request 0) (s.request 1) i → s.entriesOf i = [] →
    g = groupOf (s.request 2) (s.request 3) → s.requestCutover = some c →
    (s.record i).state = .active → (s.record i).dests.length < 4 →
    g.link < 8 → g.slot + (s.record i).width ≤ 38 →
    (∀ h ∈ (s.record i).dests, g.overlaps h (s.record i).width = false) → s.Allows c →
    s.AllOpen (egressGroup g (s.record i).width) → s.HasRoom →
    ∃ t, exec (.add await) s = .next t ∧ s.KeepsElsewhere t
      ∧ t.links = s.links ∧ t.referrals = s.referrals
      ∧ t.manager.attentionCount = s.manager.attentionCount
      ∧ s.RecordBecomes t i
          { s.record i with state := .altering, staged := some ⟨.add g, c, .host⟩ }
      ∧ s.MapBecomes t (fun p l q e =>
          if egressGroup g (s.record i).width p l q then .claimed i .joining else e)
      ∧ t.manager.queue = s.manager.queue ++ [⟨i, .add, c, s.timing.tally, await⟩]
      ∧ s.AnswersStaged t 0x02 await (Reply.response {
          outcome := .ok
          reference := some (s.request 0, s.request 1)
          state := some .altering
          lease := (s.record i).remaining })

/-- A host DROP that passes every check (R42): the named destination's claims go from LIVE to LEAVING, a
DROP of cause HOST is staged, and the record goes to ALTERING with its destination list as it was. The
model's choices: assumptions 4 and 20. -/
def Obligations.HostDropStagesADrop : Prop :=
  ∀ (s : State) (await : Bool) (i : RecNo) (g : Group) (c : Cutover),
    s.Ready → s.Names (s.request 0) (s.request 1) i → s.entriesOf i = [] →
    g = groupOf (s.request 2) (s.request 3) → s.requestCutover = some c →
    (s.record i).state = .active → 2 ≤ (s.record i).dests.length → g ∈ (s.record i).dests →
    g.link < 8 → g.slot + (s.record i).width ≤ 38 → s.Allows c → s.HasRoom →
    ∃ t, exec (.drop await) s = .next t ∧ s.KeepsElsewhere t
      ∧ t.links = s.links ∧ t.referrals = s.referrals
      ∧ t.manager.attentionCount = s.manager.attentionCount
      ∧ s.RecordBecomes t i
          { s.record i with state := .altering, staged := some ⟨.drop g, c, .host⟩ }
      ∧ s.MapBecomes t (fun p l q e =>
          if egressGroup g (s.record i).width p l q ∧ e = .claimed i .live then
            .claimed i .leaving
          else e)
      ∧ t.manager.queue = s.manager.queue ++ [⟨i, .drop, c, s.timing.tally, await⟩]
      ∧ s.AnswersStaged t 0x03 await (Reply.response {
          outcome := .ok
          reference := some (s.request 0, s.request 1)
          state := some .altering
          lease := (s.record i).remaining })

/-- A MOVE that passes every check (R21, R43): positions only in the new source are claimed JOINING,
those only in the old one go from LIVE to LEAVING, positions in both are kept, a MOVE of cause HOST is
staged, and the record goes to ALTERING with its source as it was. The model's choices: assumptions 4
and 20. -/
def Obligations.MoveStagesAMove : Prop :=
  ∀ (s : State) (await : Bool) (i : RecNo) (src : Source) (c : Cutover),
    s.Ready → s.Names (s.request 0) (s.request 1) i → s.entriesOf i = [] →
    sourceOf (s.request 2) (s.request 3) (s.request 4) = some src → s.requestCutover = some c →
    (s.record i).state = .active → sourceInRange (some src) (s.record i).width = true →
    s.Allows c →
    s.AllOpen (sourceOutside (some src) (s.record i).source (s.record i).width) → s.HasRoom →
    ∃ t, exec (.move await) s = .next t ∧ s.KeepsElsewhere t
      ∧ t.links = s.links ∧ t.referrals = s.referrals
      ∧ t.manager.attentionCount = s.manager.attentionCount
      ∧ s.RecordBecomes t i
          { s.record i with state := .altering, staged := some ⟨.move src, c, .host⟩ }
      ∧ s.MapBecomes t (fun p l q e =>
          if sourceOutside (some src) (s.record i).source (s.record i).width p l q then
            .claimed i .joining
          else if sourceOutside (s.record i).source (some src) (s.record i).width p l q
              ∧ e = .claimed i .live then .claimed i .leaving
          else e)
      ∧ t.manager.queue = s.manager.queue ++ [⟨i, .move, c, s.timing.tally, await⟩]
      ∧ s.AnswersStaged t 0x04 await (Reply.response {
          outcome := .ok
          reference := some (s.request 0, s.request 1)
          state := some .altering
          lease := (s.record i).remaining })

/-- A host RELEASE of an ACTIVE record that passes every check (R44): every LIVE claim of the record
goes to LEAVING, a DEACTIVATE of cause HOST is staged, and the record goes to CLOSING with its lease as
it was. The model's choices: assumptions 4 and 20. -/
def Obligations.HostReleaseStagesADeactivate : Prop :=
  ∀ (s : State) (await : Bool) (i : RecNo) (c : Cutover),
    s.Ready → s.Names (s.request 0) (s.request 1) i → s.entriesOf i = [] →
    s.requestCutover = some c → (s.record i).state = .active → s.Allows c → s.HasRoom →
    ∃ t, exec (.release await) s = .next t ∧ s.KeepsElsewhere t
      ∧ t.links = s.links ∧ t.referrals = s.referrals
      ∧ t.manager.attentionCount = s.manager.attentionCount
      ∧ s.RecordBecomes t i
          { s.record i with state := .closing, staged := some ⟨.deactivate, c, .host⟩ }
      ∧ s.MapBecomes t (fun _ _ _ e => if e = .claimed i .live then .claimed i .leaving else e)
      ∧ t.manager.queue = s.manager.queue ++ [⟨i, .deactivate, c, s.timing.tally, await⟩]
      ∧ s.AnswersStaged t 0x05 await (Reply.response {
          outcome := .ok
          reference := some (s.request 0, s.request 1)
          state := some .closing
          lease := (s.record i).remaining })

/-- A host RELEASE or CANCEL of an OPENING record (R45, R46, R71): its entry leaves the queue, its
claims are released, the record goes to FREE with its generation kept, a line owner is told by RETIRED
(HOST_RELEASE), and the mailbox completes at once whatever its AWAIT flag; deferred staging then
follows for the entry removed (R75). The model's choice: assumption 4. -/
def Obligations.HostEndsAnOpeningRecord : Prop :=
  ∀ (s : State) (await : Bool) (i : RecNo) (c : Instr) (code : BitVec 7),
    s.Ready → s.Names (s.request 0) (s.request 1) i → (s.record i).state = .opening →
    (c = .cancel await ∧ code = 0x07)
      ∨ (c = .release await ∧ code = 0x05 ∧ ∃ cut, s.requestCutover = some cut ∧ s.Allows cut) →
    ∃ t, exec c s = .next (t.serveWaiting 1) ∧ (s.NobodyWaits → exec c s = .next t)
      ∧ s.KeepsElsewhere t ∧ t.referrals = s.referrals
      ∧ s.RecordBecomes t i { generation := (s.record i).generation }
      ∧ s.MapBecomes t (fun _ _ _ e => released i e)
      ∧ t.manager.queue = (s.manager.queue.filter fun e => e.circuit ≠ i)
      ∧ t.manager.attentionCount = s.countCleared i
      ∧ t.links = (s.notifyOwner (s.record i).owner .retiredHost i (s.record i).generation).links
      ∧ s.AnswersAtOnce t code await .ok
          (Reply.response {
            outcome := .ok
            reference := some (s.request 0, s.request 1)
            state := some .free })
          (s.notifyOwner (s.record i).owner .retiredHost i (s.record i).generation).events.flags

/-- A CANCEL of an alteration or of a release (R46, R70, R71): JOINING claims of the record go to OPEN
and LEAVING ones to LIVE, its entry leaves the queue, the record returns to ACTIVE with nothing staged,
and a line owner whose own change it was is told by CHANGED; deferred staging then follows for the
entry removed (R75). A CANCEL of an ACTIVE record, waiting or not, is answered OK with state ACTIVE and
changes nothing (R46). The model's choice: assumption 4. -/
def Obligations.CancelReturnsTheRecordToActive : Prop :=
  ∀ (s : State) (await : Bool) (i : RecNo),
    s.Ready → s.Names (s.request 0) (s.request 1) i →
    ((s.record i).state = .active →
      ∃ t, exec (.cancel await) s = .next t
        ∧ t = { s with
            mailbox := t.mailbox
            events := { s.events with flags := t.events.flags } }
        ∧ s.AnswersAtOnce t 0x07 await .ok
            (Reply.response {
              outcome := .ok
              reference := some (s.request 0, s.request 1)
              state := some .active
              lease := (s.record i).remaining })
            s.events.flags)
    ∧ ∀ (n : State) (st : Staged), (s.record i).staged = some st →
    (s.record i).state = .altering ∨ ((s.record i).state = .closing ∧ st.cause ≠ .lease) →
    n = (if st.cause = .owner then
      s.notifyOwner (s.record i).owner .changed i (s.record i).generation else s) →
    ∃ t, exec (.cancel await) s = .next (t.serveWaiting 1)
      ∧ (s.NobodyWaits → (s.record i).remaining ≠ some 0 → exec (.cancel await) s = .next t)
      ∧ s.KeepsElsewhere t ∧ t.referrals = s.referrals
      ∧ s.RecordBecomes t i { s.record i with state := .active, staged := none }
      ∧ s.MapBecomes t (fun _ _ _ e =>
          if e = .claimed i .joining then .openPos
          else if e = .claimed i .leaving then .claimed i .live else e)
      ∧ t.manager.queue = (s.manager.queue.filter fun e => e.circuit ≠ i)
      ∧ t.manager.attentionCount = s.manager.attentionCount
      ∧ t.links = n.links
      ∧ s.AnswersAtOnce t 0x07 await .ok
          (Reply.response {
            outcome := .ok
            reference := some (s.request 0, s.request 1)
            state := some ((t.serveWaiting 1).record i).state
            lease := (s.record i).remaining })
          n.events.flags

/-- A host RENEW that passes every check (R47): the lease is set to V, or removed when V is 0; nothing
else of any record, claim or entry changes. An ADOPT that passes every check (R48): the owner becomes
HOST, the lease is removed, a staged cause OWNER becomes HOST, and a former line owner is told by
RETIRED (ADOPTED); everything else of the record is kept. The model's choice: assumption 4. -/
def Obligations.HostRenewSetsAndAdoptRemovesTheLease : Prop :=
  (∀ (s : State) (await : Bool) (i : RecNo),
    s.Ready → s.Names (s.request 0) (s.request 1) i →
    (s.record i).state = .opening ∨ (s.record i).state = .active
      ∨ (s.record i).state = .altering →
    s.request 2 ≠ 0 ∨ (s.record i).owner = some .host →
    ∃ t, exec (.renew await) s = .next t ∧ s.KeepsElsewhere t
      ∧ t.links = s.links ∧ t.referrals = s.referrals ∧ t.manager.map = s.manager.map
      ∧ t.manager.queue = s.manager.queue
      ∧ t.manager.attentionCount = s.manager.attentionCount
      ∧ s.RecordBecomes t i { s.record i with
          lease := if s.request 2 = 0 then none else some ⟨s.request 2, s.request 2⟩ }
      ∧ s.AnswersAtOnce t 0x06 await .ok
          (Reply.response {
            outcome := .ok
            reference := some (s.request 0, s.request 1)
            state := some (s.record i).state
            lease := if s.request 2 = 0 then none else some (s.request 2) })
          s.events.flags)
  ∧ ∀ (s n : State) (await : Bool) (i : RecNo),
    s.Ready → s.Names (s.request 0) (s.request 1) i → (s.record i).state ≠ .referred →
    ¬((s.record i).state = .closing ∧ (s.record i).staged.map Staged.cause = some .lease) →
    n = s.notifyOwner (s.record i).owner .retiredAdopted i (s.record i).generation →
    ∃ t, exec (.adopt await) s = .next t ∧ s.KeepsElsewhere t ∧ t.referrals = s.referrals
      ∧ t.manager.map = s.manager.map ∧ t.manager.queue = s.manager.queue
      ∧ t.manager.attentionCount = s.manager.attentionCount
      ∧ s.RecordBecomes t i { s.record i with
          owner := some .host
          lease := none
          staged := (s.record i).staged.map fun st =>
            if st.cause = .owner then { st with cause := .host } else st }
      ∧ t.links = n.links
      ∧ s.AnswersAtOnce t 0x08 await .ok
          (Reply.response {
            outcome := .ok
            reference := some (s.request 0, s.request 1)
            state := some (s.record i).state })
          n.events.flags

/-- A QUERY of any record (R49; R11, R15): it is answered with the record as it stands when the QUERY is
taken; with acknowledge, attention is then cleared, and a RETIRED record goes to FREE. The model's
choice: assumption 12. -/
def Obligations.QueryReportsThenAcknowledges : Prop :=
  ∀ (s : State) (await : Bool) (i : RecNo), s.Ready → (s.request 0).toNat = i.val →
    ∃ t, exec (.query await) s = .next t ∧ s.KeepsElsewhere t
      ∧ t.links = s.links ∧ t.referrals = s.referrals ∧ t.manager.queue = s.manager.queue
      ∧ s.AnswersAtOnce t 0x09 await .ok (queryResponse i (s.record i)) s.events.flags
      ∧ if (s.request 1).getLsbD 0 then
          t.manager.attentionCount = s.countCleared i
          ∧ if (s.record i).state = .retired then
              s.RecordBecomes t i { generation := (s.record i).generation }
                ∧ s.MapBecomes t (fun _ _ _ e => released i e)
            else s.RecordBecomes t i { s.record i with attention := false }
                ∧ t.manager.map = s.manager.map
        else t.manager = s.manager

/-- LOCATE, NEXT and READ_REFERRAL, their operands in range, answer OK with what they read, and change
nothing but the mailbox (R51, R52, R172; 13.4). -/
def Obligations.ReadingCommandsReportAndChangeNothing : Prop :=
  ∀ (s : State) (await : Bool), s.Ready →
    (∀ (p : Plane), planeOf (s.request 0) = some p → (s.request 1).toNat < 8 →
      (s.request 2).toNat < 40 →
      ∃ t, exec (.locate await) s = .next t ∧ s.KeepsElsewhere t ∧ t.manager = s.manager
        ∧ t.links = s.links ∧ t.referrals = s.referrals
        ∧ s.AnswersAtOnce t 0x0A await .ok
            (match s.entry p (s.request 1).toNat (s.request 2).toNat with
              | .openPos => respond []
              | .barred => respond [(9, 1)]
              | .fixed => respond [(9, 2)]
              | .claimed i ph => respond [(0, 1), (1, indexOctet i), (2, (s.record i).generation),
                  (9, 3), (10, match ph with | .joining => 1 | .live => 2 | .leaving => 3)])
            s.events.flags)
    ∧ (∀ (f : Filter), filterOf (s.request 1) (s.request 2) = some f →
      ∃ t, exec (.nextRecord await) s = .next t ∧ s.KeepsElsewhere t ∧ t.manager = s.manager
        ∧ t.links = s.links ∧ t.referrals = s.referrals
        ∧ s.AnswersAtOnce t 0x0B await .ok t.mailbox.response s.events.flags
        ∧ ((∀ i : RecNo, (s.request 0).toNat ≤ i.val → f.matches (s.record i) = false) →
            t.mailbox.response = respond [])
        ∧ ∀ i : RecNo, (s.request 0).toNat ≤ i.val → f.matches (s.record i) = true →
            (∀ j < i, (s.request 0).toNat ≤ j.val → f.matches (s.record j) = false) →
            t.mailbox.response = respond [(0, 3), (1, indexOctet i),
              (2, (s.record i).generation), (3, octet (s.record i).state.code)])
    ∧ ∀ (k : LinkNo), (s.request 0).toNat = k.val →
      ∃ t, exec (.readReferral await) s = .next t ∧ s.KeepsElsewhere t ∧ t.manager = s.manager
        ∧ t.links = s.links ∧ t.referrals = s.referrals
        ∧ s.AnswersAtOnce t 0x0E await .ok (referralResponse (s.referral k)) s.events.flags

/-- What the host reads in the response area (R26, R49, R69, R74, R172, R185; 13.4). Octet i stands at
1Ch + i; an octet that an answer does not name is 00h. The answer to a circuit request: presence bits,
reference, state and remaining count. A QUERY: also the granted value, the live stamp, retire cause,
attention, owner, source, width, destinations, tag and staged change, each in its bits. A
READ_REFERRAL: the referral's fields, all 00h when it is EMPTY. A completion by application: reference,
state and time. The model's choices: assumption 12, and assumption 4 for octet 5 of the answer to a
circuit request. -/
def Obligations.ResponseOctetsStandInTheirPlaces : Prop :=
  (∀ (s : State) (i : Fin 24),
    s.readRegister (0x1C + BitVec.ofNat 7 i) = s.mailbox.response[i])
  ∧ (∀ (fields : List (Nat × Byte)) (i : Fin 24),
    (respond fields)[i] = ((fields.find? fun f => f.1 == i.val).map fun f => f.2).getD 0)
  ∧ (∀ (r : Reply) (st : Nat), r.state.map CircuitState.code = some st ∨ (r.state = none ∧ st = 0) →
    (r.response[0]).getLsbD 0 = r.reference.isSome ∧ (r.response[0]).getLsbD 1 = r.state.isSome
      ∧ (r.response[0]).getLsbD 2 = r.lease.isSome ∧ (r.response[0]).toNat < 8
      ∧ r.response[1] = (r.reference.map (·.1)).getD 0
      ∧ r.response[2] = (r.reference.map (·.2)).getD 0
      ∧ (r.response[3]).toNat = st ∧ r.response[4] = r.lease.getD 0
      ∧ ∀ i : Fin 24, 5 ≤ i.val → r.response[i] = 0)
  ∧ (∀ (i : RecNo) (r : Record) (w : Vector Byte 24), w = queryResponse i r →
    r.width ≤ 4 → r.dests.length ≤ 4 → (∀ g ∈ r.dests, g.link < 8 ∧ g.slot < 38) →
    (∀ src ∈ r.source, src.named.1 < 8 ∧ src.named.2 < 38) →
    (∀ c ∈ r.staged, c.change.named.1 < 8 ∧ c.change.named.2 < 38) →
    (w[0]).getLsbD 0 = true ∧ (w[0]).getLsbD 1 = true ∧ (w[0]).getLsbD 2 = r.lease.isSome
      ∧ (w[0]).getLsbD 3 = r.stamp.isSome
      ∧ ((w[0]).extractLsb' 4 2).toNat = (match r.retireCause with
          | none => 0 | some .lineRelease => 1 | some .leaseExpired => 2)
      ∧ (w[0]).getLsbD 6 = r.attention ∧ (w[0]).getLsbD 7 = false
      ∧ (w[1]).toNat = i.val ∧ w[2] = r.generation
      ∧ ((w[3]).extractLsb' 0 3).toNat = (match r.state with
          | .free => 0 | .referred => 1 | .opening => 2 | .active => 3 | .altering => 4
          | .closing => 5 | .retired => 6)
      ∧ (w[3]).getLsbD 3 = false
      ∧ (w[3]).extractLsb' 4 4 = (r.stamp.map Stamp.counter).getD 0
      ∧ w[4] = r.remaining.getD 0 ∧ w[5] = (r.lease.map Lease.granted).getD 0
      ∧ w[6] ++ w[7] = (r.stamp.map Stamp.number).getD 0
      ∧ ((w[8]).extractLsb' 0 3).toNat = (match r.owner with | some (.link k) => k.val | _ => 0)
      ∧ (w[8]).getLsbD 3 = decide (r.owner = some .host)
      ∧ (w[8]).getLsbD 4 = (match r.source with
          | some (.constant _) => true | _ => false)
      ∧ ((w[8]).extractLsb' 5 3).toNat = r.width
      ∧ ((w[9]).toNat, (w[10]).toNat) = (match r.source with
          | none => (0, 0) | some (.position l q) => (l, q) | some (.constant v) => (v.toNat, 0))
      ∧ ((w[11]).extractLsb' 0 3).toNat = r.dests.length
      ∧ ((w[11]).extractLsb' 3 3).toNat = (match r.staged.map Staged.change with
          | none => 0 | some .activate => 1 | some (.add _) => 2 | some (.drop _) => 3
          | some (.move _) => 4 | some .deactivate => 5)
      ∧ ((w[11]).extractLsb' 6 2).toNat = (match r.staged.map Staged.cause with
          | none => 0 | some .host => 1 | some .owner => 2 | some .lease => 3)
      ∧ (∀ j : Fin 4, ((w[12 + j.val / 2]).extractLsb' (4 * (j.val % 2)) 4).toNat =
            ((r.dests[j.val]?).map Group.link).getD 0
          ∧ (w[14 + j.val]).toNat = ((r.dests[j.val]?).map Group.slot).getD 0)
      ∧ w[18] ++ w[19] = r.tag
      ∧ ((w[20]).extractLsb' 0 2).toNat = (match r.staged.map Staged.cutover with
          | some .nextSuperframe => 1 | some (.atSuperframe _) => 2 | _ => 0)
      ∧ (w[22] ++ w[23] : Half) = (match r.staged.map Staged.cutover with
          | some (.atSuperframe n) => n | _ => 0)
      ∧ ((w[20]).getLsbD 2, ((w[20]).extractLsb' 3 5).toNat, (w[21]).toNat) =
          match r.staged.map Staged.change with
          | some (.add g) | some (.drop g) => (false, g.link, g.slot)
          | some (.move (.position l q)) => (false, l, q)
          | some (.move (.constant v)) => (true, 0, v.toNat)
          | _ => (false, 0, 0))
  ∧ (∀ i : Fin 24, (referralResponse none)[i] = 0)
  ∧ (∀ (r : Referral) (w : Vector Byte 24), w = referralResponse (some r) →
    r.width ≤ 4 → r.sourceLink < 8 → r.sourceSlot < 38 → r.dests.length ≤ 4 →
    (∀ g ∈ r.dests, g.link < 8 ∧ g.slot < 38) →
    w[0] = 1 ∧ (w[1]).toNat = r.circuit.val ∧ w[2] = r.generation
      ∧ (∀ i : Fin 24, 3 ≤ i.val → i.val ≤ 8 → w[i] = 0)
      ∧ w[9] = r.tag ∧ w[10] = r.remaining ∧ w[11] = r.lease
      ∧ (w[12]).toNat = r.sourceLink ∧ (w[13]).toNat = r.sourceSlot
      ∧ ((w[14]).extractLsb' 0 4).toNat = r.width
      ∧ (w[14]).getLsbD 4 = decide (r.cutover = .nextSuperframe) ∧ (w[14]).extractLsb' 5 3 = 0
      ∧ (w[15]).toNat = r.dests.length
      ∧ ∀ j : Fin 4, (w[16 + 2 * j.val]).toNat = ((r.dests[j.val]?).map Group.link).getD 0
          ∧ (w[17 + 2 * j.val]).toNat = ((r.dests[j.val]?).map Group.slot).getD 0)
  ∧ ∀ (i : RecNo) (generation : Byte) (st : CircuitState) (time : Stamp) (w : Vector Byte 24),
    w = appliedResponse (indexOctet i) generation st time →
    w[0] = 11 ∧ (w[1]).toNat = i.val ∧ w[2] = generation
      ∧ ((w[3]).extractLsb' 0 3).toNat = st.code ∧ (w[3]).getLsbD 3 = false
      ∧ (w[3]).extractLsb' 4 4 = time.counter ∧ w[6] ++ w[7] = time.number
      ∧ w[4] = 0 ∧ w[5] = 0 ∧ ∀ j : Fin 24, 8 ≤ j.val → w[j] = 0

/-- BAR and UNBAR (R53): an unnamed plane is refused with BAD_FORMAT, a position outside the bearer
slots with BAD_POSITION and a CLAIMED one with POSITION_BUSY, and nothing changes; an OPEN or BARRED
entry becomes what the command makes it, and no other entry changes. Nothing is staged, so the mailbox
completes at once whatever its AWAIT flag. The model's choice: assumption 11. -/
def Obligations.BarAndUnbarWriteOneEntry : Prop :=
  ∀ (s : State) (await : Bool) (c : Instr) (code : BitVec 7) (new : PosEntry) (link slot : Nat),
    s.Ready → link = (s.request 1).toNat → slot = (s.request 2).toNat →
    (c = .bar await ∧ code = 0x0C ∧ new = .barred)
      ∨ (c = .unbar await ∧ code = 0x0D ∧ new = .openPos) →
    ∃ t o, exec c s = .next t ∧ s.KeepsElsewhere t ∧ t.links = s.links
      ∧ t.referrals = s.referrals ∧ t.manager = { s.manager with map := t.manager.map }
      ∧ s.AnswersAtOnce t code await o (respond []) s.events.flags
      ∧ (1 < (s.request 0).toNat → o = .badFormat ∧ t.manager.map = s.manager.map)
      ∧ ∀ p : Plane, (s.request 0).toNat = (match p with | .ingress => 0 | .egress => 1) →
        if ¬(link < 8 ∧ slot < 38) then o = .badPosition ∧ t.manager.map = s.manager.map
        else if (s.entry p link slot).isClaimed then
          o = .positionBusy ∧ t.manager.map = s.manager.map
        else o = .ok ∧ s.MapBecomes t (fun p' l q e =>
          if p' = p ∧ l = link ∧ q = slot then new else e)

/-- APPROVE of a WAITING referral, where the queue has room (R173): its ACTIVATE is staged with the
line's cutover and cause OWNER, the record goes to OPENING, RESULT OK is placed on the link, and the
referral record is EMPTY. Its claims are kept. DENY of one (R174): its claims are released, the record
goes to FREE with its generation kept, RESULT DENIED is placed on the link, and the referral record is
EMPTY. The model's choice: assumption 18. -/
def Obligations.VerdictsEndAReferral : Prop :=
  (∀ (s : State) (await : Bool) (k : LinkNo) (r : Referral),
    s.Ready → (s.request 0).toNat = k.val → s.request 1 = 1 → s.referral k = some r →
    s.entriesOf r.circuit = [] → s.HasRoom →
    ∃ t, exec (.approve await) s = .next t ∧ s.KeepsElsewhere t
      ∧ (∀ j : LinkNo, t.referral j = if k = j then none else s.referral j)
      ∧ s.RecordBecomes t r.circuit { s.record r.circuit with
          state := .opening, staged := some ⟨.activate, r.cutover, .owner⟩ }
      ∧ t.manager.map = s.manager.map
      ∧ t.manager.queue =
          s.manager.queue ++ [⟨r.circuit, .activate, r.cutover, s.timing.tally, await⟩]
      ∧ t.manager.attentionCount = s.manager.attentionCount
      ∧ t.links = (s.answerLine k {
          outcome := .ok
          reference := some (indexOctet r.circuit, (s.record r.circuit).generation)
          state := some .opening
          lease := (s.record r.circuit).remaining }).links
      ∧ s.AnswersStaged t 0x0F await (respond [(0, 3), (1, indexOctet r.circuit),
          (2, r.generation), (3, 2), (8, s.request 0)]))
  ∧ ∀ (s : State) (await : Bool) (k : LinkNo) (r : Referral),
    s.Ready → (s.request 0).toNat = k.val → s.request 1 = 2 → s.referral k = some r →
    ∃ t, exec (.deny await) s = .next t ∧ s.KeepsElsewhere t
      ∧ (∀ j : LinkNo, t.referral j = if k = j then none else s.referral j)
      ∧ s.RecordBecomes t r.circuit { generation := (s.record r.circuit).generation }
      ∧ s.MapBecomes t (fun _ _ _ e => released r.circuit e)
      ∧ t.manager.queue = s.manager.queue
      ∧ t.manager.attentionCount = s.countCleared r.circuit
      ∧ t.links = (s.answerLine k {
          outcome := .denied
          reference := some (indexOctet r.circuit, r.generation) }).links
      ∧ s.AnswersAtOnce t 0x0F await .ok (respond [(0, 3), (1, indexOctet r.circuit),
          (2, r.generation), (3, 0), (8, s.request 0)]) s.events.flags

/-- SET_SUPERFRAME (R107): with no AT_SUPERFRAME entry staged the superframe number becomes n and the
answer is OK; with one it is refused with EPOCH_LOCKED. The answer carries the number and the counter
after the step, and nothing else of the part changes. -/
def Obligations.SetSuperframeSetsTheNumberAlone : Prop :=
  ∀ (s : State) (await : Bool), s.Ready →
    ∃ t o, exec (.setSuperframe await) s = .next t
      ∧ t = { s with
          timing := { s.timing with number := t.timing.number }
          mailbox := t.mailbox
          events := { s.events with flags := t.events.flags } }
      ∧ s.AnswersAtOnce t 0x10 await o (respond [(0, 8),
          (3, octet (16 * s.timing.counter.toNat)), (6, highOctet t.timing.number),
          (7, lowOctet t.timing.number)]) s.events.flags
      ∧ ((∃ e ∈ s.manager.queue, ∃ n, e.cutover = .atSuperframe n) →
          o = .epochLocked ∧ t.timing.number = s.timing.number)
      ∧ ((∀ e ∈ s.manager.queue, ∀ n, e.cutover ≠ .atSuperframe n) →
          o = .ok ∧ t.timing.number = s.request 0 ++ s.request 1)

/-! ## The Timing Unit -/

/-- A write of ROLE acts by the timing state (R92, R96): MASTER in FREE_RUN and SLAVE in ACQUIRING
change nothing; MASTER in any other state enters FREE_RUN with a superframe start at once, which ends a
frame in progress short (R80, R90) and keeps the held octets where none was (R89); SLAVE in any other
state enters ACQUIRING with consistency count 0 and empties the sample store (R88), once the Circuit
Manager has taken what the frame starts before have handed on, so that no entry is applied and no lease
expires while frames are absent (R61, R123); no channel then has an arrival before the frame that
resumes (R86). Every change of state raises TIMING (R109). The model's choices: assumptions 5, 6, 7, 8
and 9. -/
def Obligations.RoleWritesActByTheState : Prop :=
  ∀ (s : State) (rx : LineOctets),
    (s.timing.state = .freeRun → exec (.writeMaster rx) s = .next s)
    ∧ (s.timing.state = .acquiring → exec .writeSlave s = .next s)
    ∧ (s.timing.state ≠ .freeRun → ∃ t, exec (.writeMaster rx) s = .next t
        ∧ t.timing = { s.timing with
            role := .master
            state := .freeRun
            tally := s.timing.tally + 1
            counter := 0
            number := s.timing.number + 1
            frameAt := s.timing.clock }
        ∧ t.events.flags.getLsbD 0 = true
        ∧ t.manager.frame = ⟨s.timing.tally + 1, 0, s.timing.number + 1, true⟩
        ∧ t.manager.applicationDue = true ∧ t.manager.divider = s.manager.divider + 1
        ∧ t.pins = s.pins ∧ s.HandsOn t
        ∧ (∀ (l : Fin 8) (q : Fin 38), t.heldOctet l q =
            if s.timing.state = .acquiring then s.heldOctet l q else s.arrivedOctet rx l q)
        ∧ t.frmDriven = some true)
    ∧ (s.timing.state ≠ .acquiring → ∃ n, s.CaughtUp n ∧ n.NothingOutstanding
        ∧ n.timing = s.timing ∧ n.switch = s.switch ∧ (s.NothingOutstanding → n = s)
        ∧ ∃ t, exec .writeSlave s = .next t
        ∧ t = { n with
            timing := { s.timing with
              role := if s.timing.state = .freeRun then .slave else s.timing.role
              state := .acquiring
              consistency := 0
              holdoverCount :=
                if s.timing.state = .holdover then 0 else s.timing.holdoverCount
              pulseAt := none
              frmBefore := if s.timing.state = .freeRun then true else s.timing.frmBefore }
            switch := t.switch
            links := t.links
            events := { n.events with flags := n.events.flags ||| 1 } }
        ∧ (∀ k : LinkNo, t.link k = { n.link k with arrived := false })
        ∧ s.StoreEmptied t ∧ (∀ k : LinkNo, t.lout k = true)
        ∧ (t.timing.role = .slave → t.frmDriven = none))

/-- A pulse in ACQUIRING (R95, R96): the consistency count becomes 1, or one more when the pulse comes
320 bit periods after the one before; short of 3 nothing else changes, and at 3 the unit enters LOCKED
with a superframe start, whose frame begins with the held octets as they stand (R89). The model's
choices: assumptions 5, 6, 7 and 8. -/
def Obligations.ThreePulsesInARowLock : Prop :=
  ∀ (s : State) (p : Nat) (sfm : Bool) (rx : LineOctets) (count : Nat),
    s.timing.role = .slave → s.timing.state = .acquiring →
    (count = if s.timing.pulseAt.map (· + 320) = some p ∧ 1 ≤ s.timing.consistency then
      s.timing.consistency + 1 else 1) →
    (count < 3 → exec (.frmPulse p sfm rx) s = .next { s with
        timing := { s.timing with
          consistency := count
          pulseAt := some p
          clock := max s.timing.clock p
          frmBefore := true }
        pins := { s.pins with sfm := sfm } })
    ∧ (3 ≤ count → ∃ t, exec (.frmPulse p sfm rx) s = .next t
        ∧ t.timing = { s.timing with
            state := .locked
            consistency := 0
            holdoverCount := 0
            pulseAt := none
            frmBefore := true
            frameAt := p
            clock := max s.timing.clock p
            tally := s.timing.tally + 1
            counter := 0
            number := s.timing.number + 1 }
        ∧ t.events.flags.getLsbD 0 = true
        ∧ t.manager.frame = ⟨s.timing.tally + 1, 0, s.timing.number + 1, true⟩
        ∧ t.manager.applicationDue = true ∧ t.manager.divider = s.manager.divider + 1
        ∧ t.pins = { s.pins with sfm := sfm } ∧ s.HandsOn t
        ∧ t.switch.held = s.switch.held)

/-- A pulse in LOCKED or HOLDOVER at any position but the expected one makes no frame start, moves no
frame boundary and changes no count (R97, R98); in role MASTER, where the pin is driven, no pulse is
seen (R93). The model's choice: assumption 7. -/
def Obligations.PulsesOutOfPlaceAreIgnored : Prop :=
  ∀ (s : State) (p : Nat) (sfm : Bool) (rx : LineOctets),
    (s.timing.role = .master →
      exec (.frmPulse p sfm rx) s = .next { s with pins := { s.pins with sfm := sfm } })
    ∧ (s.timing.role = .slave →
        s.timing.state = .locked ∨ s.timing.state = .holdover → p ≠ s.timing.frameAt + 320 →
        exec (.frmPulse p sfm rx) s = .next { s with
          timing := { s.timing with frmBefore := true }
          pins := { s.pins with sfm := sfm } })

/-- A frame start by the count of FREE_RUN, or by a pulse at the expected position in LOCKED or
HOLDOVER (R93, R97, R98, R101 to R104), given as a frame start or as the pulse itself: the tally, the
counter, the superframe number and the window advance; LOCKED is kept or entered, with TIMING raised
for the change; the frame start is handed on; and in its first bit period SFO is high where it is a
superframe start, and FRM is driven high in role MASTER and not driven in role SLAVE (R106). The
previous sample of FRM is left high by the pulse itself and as it was by a frame start: assumption 7.
The model's choices: assumptions 5, 6, 7 and 8. -/
def Obligations.FrameStartsAdvanceTheCounts : Prop :=
  ∀ (s : State) (pulse sfm : Bool) (rx : LineOctets) (c : Instr),
    (c = .frameStart pulse sfm rx
        ∧ (s.timing.state = .freeRun
          ∨ (pulse = true ∧ (s.timing.state = .locked ∨ s.timing.state = .holdover))))
      ∨ (c = .frmPulse (s.timing.frameAt + 320) sfm rx ∧ s.timing.role = .slave
        ∧ (s.timing.state = .locked ∨ s.timing.state = .holdover)) →
    ∃ t, exec c s = .next t
      ∧ s.timing.Advances sfm { t.timing with frmBefore := s.timing.frmBefore }
      ∧ t.timing.frmBefore = (if c = .frmPulse (s.timing.frameAt + 320) sfm rx then true
          else s.timing.frmBefore)
      ∧ t.timing.role = s.timing.role
      ∧ t.timing.state = (if s.timing.state = .freeRun then .freeRun else .locked)
      ∧ t.timing.holdoverCount =
          (if s.timing.state = .holdover then 0 else s.timing.holdoverCount)
      ∧ (s.timing.state = .holdover → t.events.flags.getLsbD 0 = true)
      ∧ t.pins = { s.pins with sfm := sfm }
      ∧ s.BeginsFrame t rx (s.timing.superframeNext sfm)
      ∧ (s.timing.clock ≤ s.timing.frameAt + 320 →
          t.sfo = decide (s.timing.superframeNext sfm)
          ∧ t.frmDriven = if s.timing.role = .master then some true else none)

/-- A bit period of CLKIN passes, with no command waiting and nothing for the Circuit Manager to take
(R78, R79, R85, R93 to R95, R97, R98). In a running frame each LOUT line carries its bit of the slot,
most significant first, and each LIN line is sampled into its octet; the octets of a bearer slot enter
the capture with their last bit, and with the last bit of slot 39 every channel handles its arrival.
FRM is high in role MASTER, and SFO after a superframe start, in the frame's first bit period alone
(R106). The bit period after the 320th begins as a frame start does, by the edge on FRM or without it;
any other edge is ignored. In ACQUIRING nothing is sampled on LIN, every LOUT line is high, and an edge
on FRM is a pulse at the bit period that begins. The model's choices: assumptions 1, 6 and 7. -/
def Obligations.BitPeriodsCarryTheLines : Prop :=
  ∀ (s : State) (b : Nat) (edge : Bool),
    s.pending = [] → s.NothingOutstanding → (∀ k : LinkNo, s.handed k = none) →
    edge = decide (s.timing.role = .slave ∧ s.pins.frm = true ∧ s.timing.frmBefore = false) →
    (s.timing.state = .acquiring →
      (step s = if edge then exec (.frmPulse (s.timing.clock + 1) s.pins.sfm []) s.nextBit
        else .next s.nextBit)
      ∧ (∀ k : LinkNo, s.lout k = true) ∧ s.sfo = false)
    ∧ (s.timing.state ≠ .acquiring → s.timing.frameAt + b = s.timing.clock → b < 320 →
      (∃ w, s.LinesTaken w b ∧ step s = if b = 319 then
          exec (.frameStart edge s.pins.sfm []) w.nextBit
        else .next w.nextBit)
      ∧ (∀ k : LinkNo, s.lout k = (s.egressOctet k (b / 8)).getLsbD (7 - b % 8))
      ∧ (s.sfo = true ↔ b = 0 ∧ s.manager.frame.superframe = true)
      ∧ s.frmDriven = if s.timing.role = .master then some (b == 0) else none)

/-- A superframe start, whatever produced it (R102, R110, R171): it advances the lease divider, hands
on a lease tick when the divider goes from 63 to 0, reduces the remaining count of every WAITING
referral that is above 0, and hands on a timeout for each that reaches 0. A frame start that is none
leaves all of them. `first` is the superframe start of R96. Timeouts of one superframe start are handed
on in ascending order of link. The model's choices: assumptions 1 and 5. -/
def Obligations.SuperframeStartsDriveLeasesAndReferrals : Prop :=
  ∀ (s : State) (first ended : Bool) (rx : LineOctets) (superframe : Bool),
    (superframe = true ↔ first = true ∨ s.timing.superframeNext s.pins.sfm) →
    ∃ t, s.frameStart first ended rx = t
      ∧ t.manager.divider = (if superframe then s.manager.divider + 1 else s.manager.divider)
      ∧ t.manager.tickDue = (superframe && s.manager.divider == 63)
      ∧ (∀ k : LinkNo, t.referral k = (s.referral k).map fun r =>
          if superframe ∧ r.remaining ≠ 0 then { r with remaining := r.remaining - 1 } else r)
      ∧ t.manager.timeouts = s.manager.timeouts ++ (List.finRange 8).filterMap fun k =>
          match s.referral k with
          | some r => if superframe ∧ r.remaining = 1 then some ⟨k, r.circuit, r.generation⟩
            else none
          | none => none

/-- The expected position passes with no pulse (R97, R98): a flywheel frame start, from LOCKED into
HOLDOVER with holdover count 1 and TIMING raised, and in HOLDOVER with the count one more where that is
not above the limit. In HOLDOVER with the count plus one above the limit: ACQUIRING with no frame
start, both counts 0, TIMING raised, the sample store emptied, every LOUT line high (R88), once the
Circuit Manager has taken what the frame starts before have handed on (R61, R123), no channel with an
arrival before the frame that resumes (R86); the tally, the counter and the number stand. The model's
choices: assumptions 3, 5, 6, 7 and 8. -/
def Obligations.PositionsPassedWithoutAPulse : Prop :=
  (∀ (s : State) (sfm : Bool) (rx : LineOctets) (c : Instr),
    c = .flywheelFrameStart sfm rx ∨ c = .frameStart false sfm rx →
    s.timing.state = .locked
      ∨ (s.timing.state = .holdover
          ∧ s.timing.holdoverCount + 1 ≤ s.timing.holdoverLimit.toNat) →
    ∃ t, exec c s = .next t
      ∧ s.timing.Advances sfm t.timing ∧ t.timing.role = s.timing.role
      ∧ t.timing.state = .holdover
      ∧ t.timing.holdoverCount =
          (if s.timing.state = .locked then 1 else s.timing.holdoverCount + 1)
      ∧ (s.timing.state = .locked → t.events.flags.getLsbD 0 = true)
      ∧ t.pins = { s.pins with sfm := sfm }
      ∧ s.BeginsFrame t rx (s.timing.superframeNext sfm))
  ∧ ∀ (s : State) (sfm : Bool) (rx : LineOctets) (c : Instr),
    c = .holdoverLimitExceeded sfm rx ∨ c = .flywheelFrameStart sfm rx
      ∨ c = .frameStart false sfm rx →
    s.timing.state = .holdover →
    s.timing.holdoverLimit.toNat < s.timing.holdoverCount + 1 →
    ∃ n, State.CaughtUp { s with pins := { s.pins with sfm := sfm } } n
      ∧ n.NothingOutstanding ∧ n.timing = s.timing ∧ n.switch = s.switch
      ∧ (s.NothingOutstanding → n = { s with pins := { s.pins with sfm := sfm } })
      ∧ ∃ t, exec c s = .next t
      ∧ t = { n with
          timing := { s.timing with
            state := .acquiring
            consistency := 0
            holdoverCount := 0
            pulseAt := none
            clock := max s.timing.clock (s.timing.frameAt + 320) }
          switch := t.switch
          links := t.links
          events := { n.events with flags := n.events.flags ||| 1 } }
      ∧ (∀ k : LinkNo, t.link k = { n.link k with arrived := false })
      ∧ s.StoreEmptied t ∧ ∀ k : LinkNo, t.lout k = true

/-! ## The registers -/

/-- A write to ENABLE of link k (R130, R133, R175): one that leaves it as it is changes nothing; ENABLE
1 takes a DISABLED link to ABSENT with withdrawal begun; ENABLE 0 takes any other link to DISABLED with
its session and its referral ended and every item at its device-reset value. Each change raises LINK k,
and from the next frame the pair is FFh in both octets; where it replaces a pair already presented for
that frame, it is no withdrawal pair (R131). A write of LINK_CTRL_k, which carries ENABLE and POLICY,
sets the policy and then acts as the write of its ENABLE does. The model's choices: assumptions 8, 14
and 21. -/
def Obligations.EnableWritesStopAndStartALink : Prop :=
  ∀ (s : State) (k : LinkNo),
    (∀ v : Byte, ∃ u, u = { s with referrals := { s.referrals with policy := u.referrals.policy } }
        ∧ (∀ j : LinkNo, u.refers j = if j = k then v.getLsbD 1 else s.refers j)
        ∧ exec (.registerWrite (0x50 + BitVec.ofNat 7 k) v) s =
            exec (if v.getLsbD 0 then .writeEnable1 k else .writeEnable0 k) u)
    ∧ ((s.link k).state = .disabled → exec (.writeEnable0 k) s = .next s)
    ∧ ((s.link k).state ≠ .disabled → exec (.writeEnable1 k) s = .next s)
    ∧ ((s.link k).state = .disabled → ∃ t, exec (.writeEnable1 k) s = .next t
        ∧ t = { s with
            links := t.links
            events := { s.events with flags := s.events.flags ||| linkFlag k } }
        ∧ s.LinkBecomes t k { s.link k with
            enable := true
            state := .absent
            withdrawal := 4
            presence := 0
            presented := if (s.link k).arrived then ⟨0xFF, 0xFF, .other⟩
              else { (s.link k).presented with kind := .other } }
        ∧ (t.link k).beginFrame.presented =
            ⟨0xFF, 0xFF, if (s.link k).arrived then .other else .withdrawal⟩)
    ∧ ((s.link k).state ≠ .disabled → ∃ t, exec (.writeEnable0 k) s = .next t
        ∧ s.KeepsElsewhere t ∧ t.mailbox = s.mailbox ∧ t.manager.queue = s.manager.queue
        ∧ t.events.flags = s.events.flags ||| linkFlag k
        ∧ s.ReferralEnded t k
        ∧ s.LinkBecomes t k {
            noticeCount := (s.link k).noticeCount
            noticeLost := (s.link k).noticeLost
            enable := false
            state := .disabled
            presented := if (s.link k).arrived then ⟨0xFF, 0xFF, .other⟩
              else { (s.link k).presented with kind := .other }
            arrived := (s.link k).arrived }
        ∧ (t.link k).beginFrame.presented = ⟨0xFF, 0xFF, .other⟩)

/-- The frame that begins at a position, by a frame start, a flywheel one among them, by a pulse, or by
a MASTER write, once the application step of its frame start has been taken (R62, R78, R80, R81, R84,
R86, R89): a bearer slot whose program entry then names an ingress position carries the octet that
arrived there in the frame before, or, where frames resume, the held octet as it stands; one with a
constant that constant, one with no entry the fill octet last written. Slots 38 and 39 carry the pair
that the channel presented at the arrival of the frame before; where no arrival was handled, the pair
as it stands by the state of the link (R86, R128). The line starts with the most significant bit of
slot 0. The model's choices: assumptions 3, 5, 6, 7 and 8. -/
def Obligations.FramesCarryTheOctetsOfTheFrameBefore : Prop :=
  ∀ (s : State) (c : Instr) (sfm : Bool) (rx : LineOctets) (p : Nat) (k : LinkNo) (pair : Byte × Byte),
    s.FrameBegins c sfm rx p →
    ∃ t, exec c s = .next t ∧ ∃ u, exec .applyDueChanges t = .next u
      ∧ (∀ (q : Fin 38) (l : Fin 8) (q' : Fin 38), u.programEntry k q = .ingress l q' →
          u.egressOctet k q =
            if s.timing.state = .acquiring then s.heldOctet l q' else s.arrivedOctet rx l q')
      ∧ (∀ (q : Fin 38) (v : Byte), u.programEntry k q = .constant v → u.egressOctet k q = v)
      ∧ (∀ q : Fin 38, u.programEntry k q = .noEntry → u.egressOctet k q = s.switch.fill[k])
      ∧ (pair = (u.egressOctet k 38, u.egressOctet k 39) →
          ((s.link k).arrived = true →
            pair = ((s.link k).presented.channel, (s.link k).presented.handshake))
          ∧ ((s.link k).arrived = false → s.PairAsItStands k pair))
      ∧ (s.timing.clock ≤ p → u.lout k = (u.egressOctet k 0).getLsbD 7)

/-- Writes of EVENT_FLAGS, EVENT_ENABLE and LOST_NOTICE (R163, R194, R195): a 1 clears a flag and a 0
leaves it, no flag is set by a write; an enable becomes the bit written at its position; a 1 clears a
link's notice-lost indicator, and the NOTICE_LOST flag is kept. Positions of the other octet, and
everything else, are kept. IRQ_N is low exactly while some flag is both set and enabled (R197). A write
to FILL_k (R84): the register reads the value, every octet of the frame in progress is sent as before,
and nothing else changes. -/
def Obligations.FlagEnableIndicatorAndFillWrites : Prop :=
  (∀ (s : State) (second : Bool) (v : Byte),
    (∃ t, exec (.eventFlagsWrite second v) s = .next t
      ∧ t = { s with events := { s.events with flags := t.events.flags } }
      ∧ ∀ i : Fin 13, t.events.flags[i] =
          if (8 ≤ i.val) = (second = true) then
            s.events.flags[i] && !v.getLsbD (i.val % 8)
          else s.events.flags[i])
    ∧ (∃ t, exec (.eventEnableWrite second v) s = .next t
      ∧ t = { s with events := { s.events with enables := t.events.enables } }
      ∧ ∀ i : Fin 13, t.events.enables[i] =
          if (8 ≤ i.val) = (second = true) then v.getLsbD (i.val % 8)
          else s.events.enables[i])
    ∧ ∃ t, exec (.lostNoticeWrite v) s = .next t
      ∧ t = { s with links := t.links }
      ∧ ∀ k : LinkNo, t.link k = { s.link k with
          noticeLost := (s.link k).noticeLost && !v.getLsbD k })
  ∧ (∀ s : State, s.events.irqLow = true ↔
      ∃ i : Fin 13, s.events.flags[i] = true ∧ s.events.enables[i] = true)
  ∧ ∀ (s : State) (k : LinkNo) (v : Byte), ∃ t, exec (.fillWrite k v) s = .next t
    ∧ t = { s with switch := { s.switch with fill := s.switch.fill.set k v } }
    ∧ (∀ (j : LinkNo) (slot : Nat), t.egressOctet j slot = s.egressOctet j slot)
    ∧ t.readRegister (0x68 + BitVec.ofNat 7 k) = v

/-- A read transaction (R177, R178, R196): the address octet makes the snapshot of the whole window and
has no other effect; each data octet is read from the snapshot at its address, the first at the
starting address and 7Fh followed by 00h, and only EVENT_VECTOR's octet, sent complete, has an effect:
it clears the flag whose code the snapshot gave, and no other. With no snapshot there is no octet. In a
transaction of the EVENT_VECTOR octet alone that flag is the lowest of those set and enabled. The
model's choice: assumption 15. -/
def Obligations.ReadsComeFromOneSnapshot : Prop :=
  ∀ s : State,
    (∀ start : BitVec 7, ∃ t, exec (.eventVectorRead (.address start)) s = .next t
      ∧ t = { s with port := { s.port with snapshot := t.port.snapshot, next := start } }
      ∧ ∀ a : BitVec 7, (t.port.snapshot.bind fun w => w[a.toNat]?) = some (s.readRegister a))
    ∧ (s.port.snapshot = none → exec (.eventVectorRead .octet) s = .next s)
    ∧ (∀ w : Vector Byte 128, s.port.snapshot = some w →
        ∃ t, exec (.eventVectorRead .octet) s = .next t
          ∧ t = { s with
              port := { s.port with
                sent := w[s.port.next.toNat]
                next := if s.port.next = 0x7F then 0 else s.port.next + 1 }
              events := { s.events with flags := t.events.flags } }
          ∧ ∀ i : Fin 13, t.events.flags[i] = (s.events.flags[i]
              && decide (s.port.next ≠ 0x39 ∨ w[s.port.next.toNat].toNat ≠ i.val + 1)))
    ∧ ∃ t, exec (.eventVectorRead .whole) s = .next t
      ∧ t = { s with
          port := t.port
          events := { s.events with flags := t.events.flags } }
      ∧ (∀ i : Fin 13, (s.events.flags &&& s.events.enables)[i] = true →
          (∀ j < i, (s.events.flags &&& s.events.enables)[j] = false) →
          t.port.sent.toNat = i.val + 1
            ∧ t.events.flags = s.events.flags &&& ~~~ (1#13 <<< i.val))
      ∧ (s.events.flags &&& s.events.enables = 0 →
          t.port.sent = 0 ∧ t.events = s.events)

/-- A write of a setting within its range sets it and changes nothing else, one outside the range is
ignored, a LINK_CTRL_k write with ENABLE as in force writes POLICY alone, and a write to a read-only or
an unmapped address is ignored (R37, R99, R105, R146, R167, R170, R179, R200; 13.6). The model's choice:
assumption 21. -/
def Obligations.SettingWritesKeepTheirRanges : Prop :=
  ∀ (s : State) (v : Byte),
    exec (.registerWrite 0x3C v) s = .next (if v = 0 then s else
      { s with timing := { s.timing with holdoverLimit := v } })
    ∧ exec (.registerWrite 0x3D v) s = .next
        { s with timing := { s.timing with markerEnabled := v.getLsbD 0 } }
    ∧ exec (.registerWrite 0x44 v) s = .next (if 1 ≤ v.toNat ∧ v.toNat ≤ 3 then
        { s with settings := { s.settings with confirmCount := v } } else s)
    ∧ exec (.registerWrite 0x45 v) s = .next (if 8 ≤ v.toNat then
        { s with settings := { s.settings with ackTimeout := v } } else s)
    ∧ exec (.registerWrite 0x46 v) s = .next (if 8 ≤ v.toNat then
        { s with settings := { s.settings with assemblyTimeout := v } } else s)
    ∧ exec (.registerWrite 0x47 v) s = .next (if v = 0 then s else
        { s with referrals := { s.referrals with timeout := v } })
    ∧ (∀ k : LinkNo, exec (.registerWrite (0x60 + BitVec.ofNat 7 k) v) s = .next
        { s with manager := { s.manager with reach := s.manager.reach.set k v } })
    ∧ (∀ k : LinkNo, v.getLsbD 0 = decide ((s.link k).state ≠ .disabled) →
        ∃ t, exec (.registerWrite (0x50 + BitVec.ofNat 7 k) v) s = .next t
          ∧ t = { s with referrals := { s.referrals with policy := t.referrals.policy } }
          ∧ ∀ j : LinkNo, t.refers j = if j = k then v.getLsbD 1 else s.refers j)
    ∧ (∀ n : Fin 24, exec (.registerWrite (BitVec.ofNat 7 n) v) s = .next
        { s with mailbox := { s.mailbox with request := s.mailbox.request.set n v } })
    ∧ ∀ a : BitVec 7,
        (0x19 ≤ a.toNat ∧ a.toNat ≤ 0x33) ∨ a = 0x39 ∨ a = 0x3A
          ∨ (0x3E ≤ a.toNat ∧ a.toNat ≤ 0x43) ∨ a = 0x48
          ∨ (0x4A ≤ a.toNat ∧ a.toNat ≤ 0x4F) ∨ (0x58 ≤ a.toNat ∧ a.toNat ≤ 0x5F)
          ∨ 0x70 ≤ a.toNat →
        exec (.registerWrite a v) s = .next s

/-! ## The Circuit Manager's own steps -/

/-- When an entry falls due (R59, R60): at the frame start that sets the tally to its staging tally
plus one, at a superframe start of another tally, or at the superframe start that sets the number to n.
An entry made after the last frame start handed on, and before its application step, is not due there.
The application step (R62, R69): every entry that falls due leaves the queue and the others keep their
order; the circuit table, the position map, the egress program, ATTENTION_COUNT, the links and the
flags are those that applying each due change in the order of the queue gives; each record named by a
due entry loses its staged change and takes the state that the kind and the cause give; no other record
changes; an awaited entry that is due completes the mailbox with OK and the time of the frame begun;
then deferred staging follows for the entries removed (R75). With no frame start handed on, nothing is
done. The model's choices: assumptions 5 and 20. -/
def Obligations.DueChangesAreAppliedAndLeaveTheQueue : Prop :=
  ∀ (s u : State) (due : List QueueEntry),
    due = s.manager.queue.filter (fun e => s.due e) →
    u = due.foldl (fun u e => u.applyChange e.circuit s.manager.frame) s →
    (∀ e : QueueEntry, s.due e = match e.cutover with
      | .nextFrame => decide (s.manager.frame.tally = e.tally + 1)
      | .nextSuperframe =>
        decide (s.manager.frame.superframe = true ∧ s.manager.frame.tally ≠ e.tally)
      | .atSuperframe n => decide (s.manager.frame.superframe = true
          ∧ s.manager.frame.number = n ∧ s.timing.number = n))
    ∧ (∀ e : QueueEntry, s.manager.frame.tally = s.timing.tally → e.tally = s.timing.tally →
        s.Allows e.cutover → s.due e = false)
    ∧ (s.manager.applicationDue = false → exec .applyDueChanges s = .next s)
    ∧ (s.manager.applicationDue = true → s.QueueMatches →
      ∃ t, exec .applyDueChanges s = .next (t.serveWaiting due.length)
        ∧ (s.NobodyWaits → exec .applyDueChanges s = .next t)
        ∧ t.timing = s.timing ∧ t.switch = s.switch ∧ t.settings = s.settings
        ∧ t.referrals = s.referrals ∧ t.port = s.port ∧ t.pins = s.pins
        ∧ t.pending = s.pending
        ∧ t.manager = { u.manager with
            applicationDue := false
            queue := s.manager.queue.filter fun e => !s.due e }
        ∧ t.links = u.links ∧ t.events.flags ||| 0x1000#13 = u.events.flags ||| 0x1000#13
        ∧ (∀ i : RecNo, (∀ e ∈ s.entriesOf i, s.due e = false) → t.record i = s.record i)
        ∧ (∀ e ∈ s.manager.queue, s.due e = true →
            (t.record e.circuit).staged = none
              ∧ (t.record e.circuit).state =
                if e.kind = .deactivate then
                  if (s.record e.circuit).staged.map Staged.cause = some .host then .free
                  else .retired
                else .active)
        ∧ ((∀ e ∈ s.manager.queue, s.due e = true → e.awaited = false) →
            t.mailbox = s.mailbox ∧ t.events = u.events)
        ∧ ∀ e ∈ s.manager.queue, s.due e = true → e.awaited = true →
            s.manager.queue.countP QueueEntry.awaited = 1 →
            t.mailbox = { s.mailbox with
                outcome := .ok
                sequence := s.mailbox.sequence + 1
                refusedWrite := false
                awaiting := false
                response := appliedResponse (indexOctet e.circuit)
                  (t.record e.circuit).generation (t.record e.circuit).state
                  ⟨s.manager.frame.number, s.manager.frame.counter⟩ }
              ∧ t.events.flags.getLsbD 12 = true)

/-- The application of an ACTIVATE and of an ADD (R63, R64, R68): JOINING claims go to LIVE, the program
entries of every new group name the corresponding slots of the source, the record goes to ACTIVE with
nothing staged, an ACTIVATE writes the live stamp, an ADD appends its group, and a line owner is told
by LIVE, or by CHANGED for an ADD of cause HOST. -/
def Obligations.ActivateAndAddPutGroupsInForce : Prop :=
  ∀ (s : State) (i : RecNo) (f : FrameInfo) (c : Cutover) (cause : Cause),
    ((s.record i).staged = some ⟨.activate, c, cause⟩ →
      anyOverlap (s.record i).width (s.record i).dests = false →
      ∃ t, s.applyChange i f = t
        ∧ s.RecordBecomes t i { s.record i with
            state := .active, staged := none, stamp := some ⟨f.number, f.counter⟩ }
        ∧ s.MapBecomes t (fun _ _ _ e =>
            if e = .claimed i .joining then .claimed i .live else e)
        ∧ (∀ (l : Fin 8) (q : Fin 38),
            (∀ g ∈ (s.record i).dests, inGroup g (s.record i).width l q = false) →
            t.programEntry l q = s.programEntry l q)
        ∧ (∀ g ∈ (s.record i).dests, ∀ (l : Fin 8) (q : Fin 38),
            inGroup g (s.record i).width l q = true →
            t.programEntry l q = sourceEntry (s.record i).source (q.val - g.slot))
        ∧ t.links = (s.notifyOwner (s.record i).owner .live i (s.record i).generation).links
        ∧ t.manager.queue = s.manager.queue ∧ t.mailbox = s.mailbox ∧ t.timing = s.timing)
    ∧ ∀ g : Group, (s.record i).staged = some ⟨.add g, c, cause⟩ →
      ∃ t, s.applyChange i f = t
        ∧ s.RecordBecomes t i { s.record i with
            state := .active, staged := none, dests := (s.record i).dests ++ [g] }
        ∧ s.MapBecomes t (fun p l q e =>
            if e = .claimed i .joining ∧ egressGroup g (s.record i).width p l q then
              .claimed i .live
            else e)
        ∧ s.ProgramBecomes t (fun l q e => if inGroup g (s.record i).width l q then
            sourceEntry (s.record i).source (q - g.slot) else e)
        ∧ t.links = (if cause = .host then
            (s.notifyOwner (s.record i).owner .changed i (s.record i).generation).links
            else s.links)
        ∧ t.manager.queue = s.manager.queue ∧ t.mailbox = s.mailbox ∧ t.timing = s.timing

/-- The application of a DROP, a MOVE and a DEACTIVATE (R65 to R68): the positions given up go to OPEN
and those taken up to LIVE, the program entries go to NONE or to the new source, and the record goes to
ACTIVE, a line owner told by CHANGED where the cause is HOST. A DEACTIVATE takes it to FREE with the
notice RETIRED (HOST_RELEASE) for cause HOST, to RETIRED with attention set for cause OWNER, and the
same with the notice RETIRED (LEASE_EXPIRED) for cause LEASE. -/
def Obligations.DropMoveAndDeactivateGiveUpPositions : Prop :=
  ∀ (s : State) (i : RecNo) (f : FrameInfo) (c : Cutover) (cause : Cause),
    (∀ g : Group, (s.record i).staged = some ⟨.drop g, c, cause⟩ →
      ∃ t, s.applyChange i f = t
        ∧ s.RecordBecomes t i { s.record i with
            state := .active
            staged := none
            dests := (s.record i).dests.filter fun h => h ≠ g }
        ∧ s.MapBecomes t (fun p l q e =>
            if e = .claimed i .leaving ∧ egressGroup g (s.record i).width p l q then .openPos
            else e)
        ∧ s.ProgramBecomes t (fun l q e =>
            if inGroup g (s.record i).width l q then .noEntry else e)
        ∧ t.links = (if cause = .host then
            (s.notifyOwner (s.record i).owner .changed i (s.record i).generation).links
            else s.links)
        ∧ t.manager.queue = s.manager.queue ∧ t.mailbox = s.mailbox ∧ t.timing = s.timing)
    ∧ (∀ src : Source, (s.record i).staged = some ⟨.move src, c, cause⟩ →
      anyOverlap (s.record i).width (s.record i).dests = false →
      ∃ t, s.applyChange i f = t
        ∧ s.RecordBecomes t i { s.record i with
            state := .active, staged := none, source := some src }
        ∧ s.MapBecomes t (fun p l q e =>
            if e = .claimed i .leaving
                ∧ sourceOutside (s.record i).source (some src) (s.record i).width p l q then
              .openPos
            else if e = .claimed i .joining
                ∧ sourceOutside (some src) (s.record i).source (s.record i).width p l q then
              .claimed i .live
            else e)
        ∧ (∀ (l : Fin 8) (q : Fin 38),
            (∀ g ∈ (s.record i).dests, inGroup g (s.record i).width l q = false) →
            t.programEntry l q = s.programEntry l q)
        ∧ (∀ g ∈ (s.record i).dests, ∀ (l : Fin 8) (q : Fin 38),
            inGroup g (s.record i).width l q = true →
            t.programEntry l q = sourceEntry (some src) (q.val - g.slot))
        ∧ t.links = (if cause = .host then
            (s.notifyOwner (s.record i).owner .changed i (s.record i).generation).links
            else s.links)
        ∧ t.manager.queue = s.manager.queue ∧ t.mailbox = s.mailbox ∧ t.timing = s.timing)
    ∧ ((s.record i).staged = some ⟨.deactivate, c, cause⟩ →
      ∃ t, s.applyChange i f = t
        ∧ s.RecordBecomes t i (if cause = .host then { generation := (s.record i).generation }
            else { s.record i with
              state := .retired
              staged := none
              attention := true
              retireCause := some (if cause = .owner then .lineRelease else .leaseExpired) })
        ∧ s.MapBecomes t (fun _ _ _ e => released i e)
        ∧ s.ProgramBecomes t (fun l q e =>
            if (s.record i).dests.any fun g => inGroup g (s.record i).width l q then .noEntry
            else e)
        ∧ t.manager.attentionCount =
            (if cause = .host then s.countCleared i else s.countSet i)
        ∧ t.links = (match cause with
            | .host => (s.notifyOwner (s.record i).owner .retiredHost i
                (s.record i).generation).links
            | .owner => s.links
            | .lease => (s.notifyOwner (s.record i).owner .retiredLease i
                (s.record i).generation).links)
        ∧ t.events.flags = (match cause with
            | .host => (s.notifyOwner (s.record i).owner .retiredHost i
                (s.record i).generation).events.flags
            | .owner => s.flagsSet i
            | .lease => s.flagsSet i ||| (s.notifyOwner (s.record i).owner .retiredLease i
                (s.record i).generation).events.flags)
        ∧ t.manager.queue = s.manager.queue ∧ t.mailbox = s.mailbox ∧ t.timing = s.timing)

/-- A message handed to a link. A notice (R160, R162, R163): with a session and fewer than 4 messages
it joins the queue with the notice count as its number; with a full queue it is dropped and the count
goes on, and with no session it is dropped; a drop sets the indicator and raises NOTICE_LOST. Its
octets are its kind, its number, the record's reference, the reason of a RETIRED, and the check (R150,
R159; 13.2). A RESULT of the request in process (R155, R158; 13.2): with room it joins the queue and
the request leaves; with a full queue the request is HELD with it; with no session it is discarded; its
octets are kind 81h, the request's tag, the outcome with the three presence bits, the reference, the
state and the remaining count, each 00h where it is absent, and the check. No other link and no other
block changes. -/
def Obligations.MessagesJoinTheOutboundQueue : Prop :=
  (∀ (s : State) (k : LinkNo) (n : Notice) (index generation : Byte),
    ∃ t, s.notify k n index generation = t
      ∧ t = { s with links := t.links, events := { s.events with flags := t.events.flags } }
      ∧ s.LinkBecomes t k
        (if ¬((s.link k).state = .up ∨ (s.link k).state = .stalled) then
          { s.link k with noticeLost := true }
        else if (s.link k).outbound.length < 4 then { s.link k with
          noticeCount := (s.link k).noticeCount + 1
          outbound := (s.link k).outbound ++
            [n.message (s.link k).noticeCount index generation] }
        else { s.link k with
          noticeCount := (s.link k).noticeCount + 1
          noticeLost := true })
      ∧ t.events.flags =
        if ((s.link k).state = .up ∨ (s.link k).state = .stalled)
            ∧ (s.link k).outbound.length < 4 then s.events.flags
        else s.events.flags ||| 0x400#13)
    ∧ (∀ (n : Notice) (number index generation check : Byte),
      n.message number index generation = (match n with
        | .live => [0x82, number, index, generation, check]
        | .changed => [0x84, number, index, generation, check]
        | .retiredLease => [0x83, number, index, generation, 1, check]
        | .retiredHost => [0x83, number, index, generation, 2, check]
        | .retiredAdopted => [0x83, number, index, generation, 3, check]) ↔
      (match n with
        | .live => 0x82 + number + index + generation + check
        | .changed => 0x84 + number + index + generation + check
        | .retiredLease => 0x83 + number + index + generation + 1 + check
        | .retiredHost => 0x83 + number + index + generation + 2 + check
        | .retiredAdopted => 0x83 + number + index + generation + 3 + check) = (0 : Byte))
    ∧ ∀ (s : State) (k : LinkNo) (q : InProcess) (reply : Reply) (m : List Byte)
        (outcome check : Byte),
      (s.link k).inProcess = some q → m = reply.result q.tag →
      outcome = (m[2]?).getD 0 → check = (m[7]?).getD 0 →
      (m = [0x81, q.tag, outcome, (reply.reference.map (·.1)).getD 0,
          (reply.reference.map (·.2)).getD 0,
          (match reply.state with
            | none | some .free => 0
            | some .referred => 1
            | some .opening => 2
            | some .active => 3
            | some .altering => 4
            | some .closing => 5
            | some .retired => 6),
          reply.lease.getD 0, check]
        ∧ m.sum = 0
        ∧ (outcome.extractLsb' 0 5).toNat = reply.outcome.code
        ∧ outcome.getLsbD 5 = reply.reference.isSome
        ∧ outcome.getLsbD 6 = reply.state.isSome
        ∧ outcome.getLsbD 7 = reply.lease.isSome)
      ∧ ∃ t, s.answerLine k reply = t ∧ t = { s with links := t.links }
          ∧ s.LinkBecomes t k
            (if ¬((s.link k).state = .up ∨ (s.link k).state = .stalled) then
              { s.link k with inProcess := none }
            else if (s.link k).outbound.length < 4 then
              { s.link k with outbound := (s.link k).outbound ++ [m], inProcess := none }
            else { s.link k with inProcess := some { q with phase := .held m } })

/-- A lease tick (R111, R112, R114 to R116): every counting lease is reduced by one. A record whose
lease reaches 0 gets attention; from OPENING it retires with LEASE_EXPIRED, its entry leaves the queue,
its claims are released and a line owner is told; from ALTERING its alteration is withdrawn and its
entry becomes, in its place, a DEACTIVATE of cause LEASE for the next frame, tagged with the frame in
progress. Then ACTIVE records whose lease stands at 0, the lowest first, are staged in the same way at
the end of the queue for as long as it has room, and the others wait. An awaited entry that is removed
or rewritten completes the mailbox with WITHDRAWN (R73, R74). No other record, claim or entry changes.
With no tick handed on, nothing is done. The model's choices: assumptions 3, 5 and 23. -/
def Obligations.LeaseTicksCountDownAndExpire : Prop :=
  ∀ (s : State) (c : Instr), c = .leaseTick ∨ c = .leaseExpiry →
    (s.manager.tickDue = false → exec c s = .next s)
    ∧ (s.manager.tickDue = true → s.QueueMatches →
      ∃ t, exec c s = .next t
        ∧ (∀ i : RecNo, s.RunsOut i →
            t.record i = (match (s.record i).state with
              | .opening => { s.record i with
                  state := .retired
                  staged := none
                  retireCause := some .leaseExpired
                  attention := true
                  lease := (s.record i).lease.map Lease.reduced }
              | .altering => { s.record i with
                  state := .closing
                  staged := some ⟨.deactivate, .nextFrame, .lease⟩
                  attention := true
                  lease := (s.record i).lease.map Lease.reduced }
              | _ => { s.record i with
                  state := if i ∈ s.tickServed then .closing else .active
                  staged := if i ∈ s.tickServed then some ⟨.deactivate, .nextFrame, .lease⟩
                    else none
                  attention := true
                  lease := (s.record i).lease.map Lease.reduced })
            ∧ ((s.record i).attention = false → t.events.flags.getLsbD 11 = true))
        ∧ (∀ i : RecNo, ¬s.RunsOut i → t.record i =
            if (s.record i).leaseCounts then
              { s.record i with lease := (s.record i).lease.map Lease.reduced }
            else if i ∈ s.tickServed then
              { s.record i with state := .closing, staged := some ⟨.deactivate, .nextFrame, .lease⟩ }
            else s.record i)
        ∧ s.MapBecomes t (fun _ _ _ e => match e with
            | .claimed i ph =>
              if s.RunsOut i ∧ (s.record i).state = .opening then .openPos
              else if s.RunsOut i ∧ (s.record i).state = .altering then
                if ph = .joining then .openPos else .claimed i .leaving
              else if i ∈ s.tickServed ∧ ph = .live then .claimed i .leaving
              else e
            | e => e)
        ∧ t.manager = { s.manager with
            table := t.manager.table
            map := t.manager.map
            queue := s.tickQueue ++ s.tickServed.map s.expiryEntry
            attentionCount := s.manager.attentionCount + (List.finRange 192).countP fun i =>
              decide (s.RunsOut i ∧ (s.record i).attention = false)
            tickDue := false }
        ∧ t = { s with
            manager := t.manager
            links := s.tickNotices.links
            mailbox := t.mailbox
            events := { s.events with flags := t.events.flags } }
        ∧ ((∀ e ∈ s.manager.queue, s.RunsOut e.circuit → e.awaited = false) →
            t.mailbox = s.mailbox)
        ∧ (∀ e ∈ s.manager.queue, s.RunsOut e.circuit → e.awaited = true →
            s.manager.queue.countP QueueEntry.awaited = 1 →
            t.mailbox = s.mailboxWithdrawn e.circuit (t.record e.circuit).state
              ∧ t.events.flags.getLsbD 12 = true)
        ∧ (s.runningOut = [] → t.mailbox = s.mailbox ∧ t.events = s.events))

/-- Deferred expiry staging is made once for each entry removed, one after another (R75): the lowest
ACTIVE record whose lease stands at 0 goes to CLOSING with a DEACTIVATE of cause LEASE at the end of
the queue, its LIVE claims LEAVING; with no such record, or with no room, nothing is done. -/
def Obligations.DeferredStagingServesTheLowestWaiter : Prop :=
  ∀ s : State,
    (s.serveWaiting 0 = s ∧ ∀ n, s.serveWaiting (n + 1) = (s.serveWaiting 1).serveWaiting n)
    ∧ ((∀ i : RecNo, (s.record i).state = .active → (s.record i).remaining ≠ some 0) →
      s.serveWaiting 1 = s)
    ∧ (24 ≤ s.manager.queue.length → s.serveWaiting 1 = s)
    ∧ ∀ i : RecNo, s.HasRoom → (s.record i).state = .active →
      (s.record i).remaining = some 0 →
      (∀ j < i, (s.record j).state = .active → (s.record j).remaining ≠ some 0) →
      ∃ t, s.serveWaiting 1 = t
        ∧ t = { s with manager := { s.manager with
            table := t.manager.table
            map := t.manager.map
            queue := s.manager.queue ++
              [⟨i, .deactivate, .nextFrame, s.timing.tally, false⟩] } }
        ∧ s.RecordBecomes t i { s.record i with
            state := .closing, staged := some ⟨.deactivate, .nextFrame, .lease⟩ }
        ∧ s.MapBecomes t (fun _ _ _ e =>
            if e = .claimed i .live then .claimed i .leaving else e)

/-- A referral timeout taken (R171, R174): the oldest one handed on for the link leaves the list; if the
link's referral still waits with the reference that it names, that referral is denied, and otherwise
nothing more is done. With no timeout handed on for the link, nothing is done. The model's choice:
assumption 5. -/
def Obligations.ReferralTimeoutsDenyTheirReferral : Prop :=
  ∀ (s : State) (k : LinkNo),
    ((∀ x ∈ s.manager.timeouts, x.link ≠ k) → exec (.referralTimeout k) s = .next s)
    ∧ ∀ (before after : List Timeout) (x : Timeout),
      s.manager.timeouts = before ++ x :: after → x.link = k → (∀ y ∈ before, y.link ≠ k) →
      ((∀ r ∈ s.referral k, ¬(r.circuit = x.circuit ∧ r.generation = x.generation)) →
        exec (.referralTimeout k) s = .next
          { s with manager := { s.manager with timeouts := before ++ after } })
      ∧ ∀ r : Referral, s.referral k = some r → r.circuit = x.circuit →
        r.generation = x.generation →
        ∃ t, exec (.referralTimeout k) s = .next t
          ∧ State.KeepsElsewhere
              { s with manager := { s.manager with timeouts := before ++ after } } t
          ∧ (∀ j : LinkNo, t.referral j = if k = j then none else s.referral j)
          ∧ s.RecordBecomes t r.circuit { generation := (s.record r.circuit).generation }
          ∧ s.MapBecomes t (fun _ _ _ e => released r.circuit e)
          ∧ t.manager.queue = s.manager.queue ∧ t.mailbox = s.mailbox
          ∧ t.events = s.events
          ∧ t.manager.attentionCount = s.countCleared r.circuit
          ∧ t.links = (s.answerLine k {
              outcome := .denied
              reference := some (indexOctet r.circuit, r.generation) }).links

/-! ## Arrivals -/

/-- An arrival at a link without a session (R127, R131, R134): DISABLED ignores it; in ABSENT it counts
down withdrawal when its frame carried the withdrawal pair, is not counted when its frame's pair was
presented before the entry, and counts valid presence otherwise; the fourth valid one in a row takes
the link to UP with a fresh session, of SEQ 0, expected SEQ 0 and ACK 1 (R126), and raises LINK k.
While frames are absent no arrival is handled. The model's choices: assumptions 6, 8 and 17. -/
def Obligations.ArrivalsBringALinkUp : Prop :=
  ∀ (s : State) (k : LinkNo) (chan hs : Byte),
    (s.timing.state = .acquiring → exec (.controlSlotArrival k chan hs) s = .next s)
    ∧ (s.timing.state ≠ .acquiring → (s.link k).state = .disabled →
      ∃ t, exec (.controlSlotArrival k chan hs) s = .next t ∧ t = { s with links := t.links }
        ∧ s.LinkBecomes t k { s.link k with presented := ⟨0xFF, 0xFF, .other⟩, arrived := true })
    ∧ (s.timing.state ≠ .acquiring → (s.link k).state = .absent →
      ∃ t, exec (.controlSlotArrival k chan hs) s = .next t
        ∧ t = { s with links := t.links, events := { s.events with flags := t.events.flags } }
        ∧ (∀ j : LinkNo, j ≠ k → t.link j = s.link j)
        ∧ ((s.link k).presented.kind = .withdrawal → t.events = s.events ∧ t.link k = { s.link k with
            withdrawal := (s.link k).withdrawal - 1
            presented := if 1 < (s.link k).withdrawal then ⟨0xFF, 0xFF, .withdrawal⟩
              else ⟨0xFF, 0xA2, .ready⟩
            arrived := true })
        ∧ ((s.link k).presented.kind = .other → t.events = s.events ∧ t.link k = { s.link k with
            presented := if 0 < (s.link k).withdrawal then ⟨0xFF, 0xFF, .withdrawal⟩
              else ⟨0xFF, 0xA2, .ready⟩
            arrived := true })
        ∧ ((s.link k).presented.kind = .ready →
          hs.extractLsb' 5 3 ≠ 5 ∨ (s.link k).presence < 3 →
          t.events = s.events ∧ t.link k = { s.link k with
            presence := if hs.extractLsb' 5 3 = 5 then (s.link k).presence + 1 else 0
            presented := if 0 < (s.link k).withdrawal then ⟨0xFF, 0xFF, .withdrawal⟩
              else ⟨0xFF, 0xA2, .ready⟩
            arrived := true })
        ∧ ((s.link k).presented.kind = .ready →
          hs.extractLsb' 5 3 = 5 → 3 ≤ (s.link k).presence →
          t.events.flags = s.events.flags ||| linkFlag k ∧ t.link k = { s.link k with
            state := .up
            presence := (s.link k).presence + 1
            sendSeq := false
            expectedSeq := false
            receiveAck := true
            onOffer := none
            assembly := []
            ackCount := 0
            assemblyCount := 0
            loss := 0
            refusalSeen := 0
            run := 0
            refusalDisplay := 0
            refusalLatch := false
            noticeCount := 0
            presented := ⟨0xFF, 0xA2, .other⟩
            arrived := true }))

/-- The fourth arrival in a row with invalid presence ends a session (R126, R132, R133): the link
enters ABSENT with withdrawal begun, its session and its referral ended, and LINK k is raised;
circuits, claims and staged changes are kept, but for the record of the referral. At an arrival that is
not that one, valid presence sets the loss count to 0 and invalid presence adds one to it, and the link
keeps its session, its referral and, short of the acknowledge timeout, its state. The model's choices:
assumptions 3, 6, 8 and 17. -/
def Obligations.PresenceLossEndsTheSession : Prop :=
  (∀ (s : State) (k : LinkNo) (chan hs : Byte) (c : Instr),
    c = .presenceLoss k chan hs ∨ c = .controlSlotArrival k chan hs →
    s.timing.state ≠ .acquiring →
    (s.link k).state = .up ∨ (s.link k).state = .stalled → (s.link k).loss = 3 →
    hs.extractLsb' 5 3 ≠ 5 →
    ∃ t, exec c s = .next t ∧ s.KeepsElsewhere t
      ∧ t.mailbox = s.mailbox ∧ t.manager.queue = s.manager.queue
      ∧ t.events.flags = s.events.flags ||| linkFlag k
      ∧ s.ReferralEnded t k
      ∧ s.LinkBecomes t k { s.link k with
          state := .absent
          withdrawal := 4
          presence := 0
          loss := 4
          assembly := []
          assemblyCount := 0
          inProcess := none
          outbound := []
          onOffer := none
          presented := ⟨0xFF, 0xFF, .withdrawal⟩
          arrived := true })
  ∧ ∀ (s : State) (k : LinkNo) (chan hs : Byte) (c : Instr),
    c = .presenceLoss k chan hs ∨ c = .controlSlotArrival k chan hs → s.ArrivesInSession k hs →
    ∃ t, exec c s = .next t
      ∧ t = { s with links := t.links, events := { s.events with flags := t.events.flags } }
      ∧ (∀ j : LinkNo, j ≠ k → t.link j = s.link j)
      ∧ (t.link k).loss = (if hs.extractLsb' 5 3 = 5 then 0 else (s.link k).loss + 1)
      ∧ ((t.link k).state = .up ∨ (t.link k).state = .stalled)
      ∧ ((s.link k).state = .stalled → (t.link k).state = .stalled ∧ t.events = s.events)
      ∧ ((s.link k).onOffer = none ∨ (s.link k).ackCount + 1 < s.settings.ackTimeout.toNat →
        (t.link k).state = (s.link k).state ∧ t.events = s.events)
      ∧ (t.link k).presented.handshake.extractLsb' 5 3 = 5

/-- The acknowledge count of an octet that stays on offer, with no acknowledgement and no refusal
recognised, reaches ACK_TIMEOUT (R137 to R139): the link enters STALLED with nothing on offer and LINK
k raised, its send SEQ kept; where the arrival offers no octet and no RESULT is held, its outbound
queue is empty. No other link and no other block changes. The model's choices: assumptions 3, 6 and 10.
-/
def Obligations.AcknowledgeTimeoutStallsTheLink : Prop :=
  ∀ (s : State) (k : LinkNo) (chan hs : Byte) (c : Instr) (j : Nat),
    c = .acknowledgeTimeout k chan hs ∨ c = .controlSlotArrival k chan hs →
    s.ArrivesInSession k hs → (s.link k).state = .up → (s.link k).onOffer = some j →
    (s.link k).StaysOnOffer hs →
    s.settings.ackTimeout.toNat ≤ (s.link k).ackCount + 1 →
    ∃ t, exec c s = .next t
      ∧ t = { s with links := t.links, events := { s.events with flags := t.events.flags } }
      ∧ (∀ j : LinkNo, j ≠ k → t.link j = s.link j)
      ∧ (t.link k).state = .stalled ∧ (t.link k).onOffer = none
      ∧ (t.link k).sendSeq = (s.link k).sendSeq
      ∧ t.events.flags = s.events.flags ||| linkFlag k
      ∧ (hs.getLsbD 4 = false →
          (∀ q ∈ (s.link k).inProcess, ∀ m, q.phase ≠ .held m) →
          (t.link k).outbound = [])

/-- An arrival that offers no eligible octet, a repeated or unexpected SEQ among them (R140, R144,
R145): the receive ACK and the expected SEQ are kept, and no octet is taken. With a message begun the
assembly count goes up by one, and where it reaches ASSEMBLY_TIMEOUT the message being received is
refused: buffer, count and run are cleared and the refusal display count is 2. Short of that, and with
an empty buffer, where the count does not advance, the buffer is kept, the run is kept as R140 gives,
and the refusal display count goes down by one. The model's choices: assumptions 3, 6 and 10. -/
def Obligations.AssemblyTimeoutRefusesTheMessage : Prop :=
  ∀ (s : State) (k : LinkNo) (chan hs : Byte) (c : Instr) (run : Nat),
    c = .assemblyTimeout k chan hs ∨ c = .controlSlotArrival k chan hs →
    s.ArrivesInSession k hs →
    hs.extractLsb' 5 3 ≠ 5 ∨ hs.getLsbD 4 = false ∨ hs.getLsbD 3 ≠ (s.link k).expectedSeq →
    (run = if hs.extractLsb' 5 3 ≠ 5 ∨ 0 < (s.link k).refusalDisplay then 0
      else if 0 < (s.link k).run ∧ (s.link k).before =
          ⟨chan, hs.getLsbD 4, hs.getLsbD 3, hs.getLsbD 2⟩ then min 3 ((s.link k).run + 1)
      else 1) →
    ∃ t, exec c s = .next t
      ∧ t = { s with links := t.links, events := { s.events with flags := t.events.flags } }
      ∧ (∀ j : LinkNo, j ≠ k → t.link j = s.link j)
      ∧ (t.link k).receiveAck = (s.link k).receiveAck
      ∧ (t.link k).expectedSeq = (s.link k).expectedSeq
      ∧ (t.link k).before = ⟨chan, hs.getLsbD 4, hs.getLsbD 3, hs.getLsbD 2⟩
      ∧ ((∀ q ∈ (s.link k).inProcess, ∀ m, q.phase ≠ .held m) →
          (t.link k).inProcess = (s.link k).inProcess)
      ∧ if (s.link k).assembly ≠ []
            ∧ s.settings.assemblyTimeout.toNat ≤ (s.link k).assemblyCount + 1 then
          (t.link k).assembly = [] ∧ (t.link k).assemblyCount = 0 ∧ (t.link k).run = 0
            ∧ (t.link k).refusalDisplay = 2
            ∧ (t.link k).presented.handshake.getLsbD 0 = true
        else
          (t.link k).assembly = (s.link k).assembly ∧ (t.link k).run = run
            ∧ (t.link k).assemblyCount = (if (s.link k).assembly = [] then (s.link k).assemblyCount
              else (s.link k).assemblyCount + 1)
            ∧ (t.link k).refusalDisplay = (s.link k).refusalDisplay - 1

/-- A step at an arrival makes room in the outbound queue while a RESULT is HELD (R161): within the
step the RESULT joins at the tail and no request is in process. Room is made by the acknowledgement of
the last octet of the head message (R136), and by a recognised refusal, which drops the head message,
the send SEQ toggled only where that arrival acknowledges an octet (R137), and the next message is then
put on offer; and by the acknowledge timeout, where the RESULT joins the emptied queue and waits unsent
(R138, R139). The model's choices:
assumptions 3, 6 and 10. -/
def Obligations.HeldResultsTakeTheFirstRoom : Prop :=
  ∀ (s : State) (k : LinkNo) (chan hs : Byte) (c : Instr) (q : InProcess) (m head : List Byte)
    (rest : List (List Byte)) (j : Nat),
    c = .heldResultEntry k chan hs ∨ c = .acknowledgeTimeout k chan hs
      ∨ c = .controlSlotArrival k chan hs →
    s.ArrivesInSession k hs → (s.link k).state = .up →
    (s.link k).outbound = head :: rest → rest.length ≤ 3 → (s.link k).onOffer = some j →
    (s.link k).inProcess = some q → q.phase = .held m → (s.link k).assembly = [] →
    (hs.extractLsb' 5 3 = 5 → hs.getLsbD 1 = (s.link k).sendSeq → j + 1 = head.length →
      ∃ t, exec c s = .next t ∧ t = { s with links := t.links }
        ∧ (∀ j : LinkNo, j ≠ k → t.link j = s.link j)
        ∧ (t.link k).outbound = rest ++ [m] ∧ (t.link k).inProcess = none
        ∧ (t.link k).onOffer = some 0 ∧ (t.link k).sendSeq = !(s.link k).sendSeq)
    ∧ (hs.extractLsb' 5 3 = 5 → hs.getLsbD 0 = true →
      hs.getLsbD 1 ≠ (s.link k).sendSeq ∨ j + 1 < head.length →
      (s.link k).refusalSeen = 1 → (s.link k).refusalLatch = false →
      ∃ t, exec c s = .next t ∧ t = { s with links := t.links }
        ∧ (∀ j : LinkNo, j ≠ k → t.link j = s.link j)
        ∧ (t.link k).outbound = rest ++ [m] ∧ (t.link k).inProcess = none
        ∧ (t.link k).onOffer = some 0 ∧ (t.link k).ackCount = 0
        ∧ (t.link k).sendSeq = (if hs.getLsbD 1 = (s.link k).sendSeq then !(s.link k).sendSeq
            else (s.link k).sendSeq))
    ∧ ((s.link k).StaysOnOffer hs →
      s.settings.ackTimeout.toNat ≤ (s.link k).ackCount + 1 →
      ∃ t, exec c s = .next t
        ∧ t = { s with links := t.links, events := { s.events with flags := t.events.flags } }
        ∧ (∀ j : LinkNo, j ≠ k → t.link j = s.link j)
        ∧ (t.link k).outbound = [m] ∧ (t.link k).inProcess = none
        ∧ (t.link k).state = .stalled ∧ (t.link k).onOffer = none
        ∧ (t.link k).presented.handshake.getLsbD 4 = false
        ∧ t.events.flags = s.events.flags ||| linkFlag k)

/-- Sending, at an arrival that a link in UP handles and at which its session is not lost. With nothing
on offer, the first octet of the head message is put on offer with the send SEQ as it stands (R135). An
ACK equal to the send SEQ toggles it, and where the octet is not the last of its message the next one
is put on offer; with the last octet of a message, and no RESULT HELD, the message leaves the queue,
and the next message is put on offer, or nothing is where there is none (R136). Two refusals in a row
drop the message on offer, the send SEQ toggled only where that arrival acknowledges an octet, and the
next message is put on offer in the same arrival (R137). The octet on offer is presented with OFFER 1,
its SEQ, and FINAL with the last octet of its message (R128). An octet that stays on offer short of
ACK_TIMEOUT, a refusal seen but not recognised or not, is kept, and the acknowledge count goes up
(R138). In UP and in STALLED the refusals seen are counted, and the latch kept, as R137 gives. The
model's choices: assumptions 6 and 10. -/
def Obligations.SendingOffersRepeatsAndDrops : Prop :=
  ∀ (s : State) (k : LinkNo) (chan hs : Byte) (valid : Bool),
    s.timing.state ≠ .acquiring → valid = decide (hs.extractLsb' 5 3 = 5) →
    (valid = true ∨ (s.link k).loss < 3) →
    ((s.link k).state = .up → ∃ t, exec (.controlSlotArrival k chan hs) s = .next t
      ∧ t = { s with links := t.links, events := { s.events with flags := t.events.flags } }
      ∧ (∀ j : LinkNo, j ≠ k → t.link j = s.link j)
      ∧ (∀ m ms, (s.link k).onOffer = none → (s.link k).outbound = m :: ms →
          (t.link k).onOffer = some 0 ∧ (t.link k).head = m ∧ (t.link k).ackCount = 0
            ∧ (t.link k).sendSeq = (s.link k).sendSeq)
      ∧ (∀ j, (s.link k).onOffer = some j → j + 1 < (s.link k).head.length →
          valid = true → hs.getLsbD 1 = (s.link k).sendSeq → hs.getLsbD 0 = false →
          (t.link k).onOffer = some (j + 1) ∧ (t.link k).head = (s.link k).head
            ∧ (t.link k).ackCount = 0 ∧ (t.link k).sendSeq = !(s.link k).sendSeq)
      ∧ (∀ j, (s.link k).onOffer = some j → j + 1 = (s.link k).head.length →
          valid = true → hs.getLsbD 1 = (s.link k).sendSeq →
          (∀ q ∈ (s.link k).inProcess, ∀ m, q.phase ≠ .held m) →
          (t.link k).sendSeq = (!(s.link k).sendSeq)
            ∧ (∀ m ms, (s.link k).outbound.tail = m :: ms →
                (t.link k).onOffer = some 0 ∧ (t.link k).head = m ∧ (t.link k).ackCount = 0)
            ∧ ((s.link k).outbound.tail = [] → (t.link k).onOffer = none)
            ∧ (hs.getLsbD 4 = false → (t.link k).outbound = (s.link k).outbound.tail))
      ∧ (∀ j, (s.link k).onOffer = some j → valid = true → hs.getLsbD 0 = true →
          hs.getLsbD 1 ≠ (s.link k).sendSeq ∨ j + 1 < (s.link k).head.length →
          (s.link k).refusalSeen = 1 → (s.link k).refusalLatch = false →
          (t.link k).sendSeq = (if hs.getLsbD 1 = (s.link k).sendSeq then !(s.link k).sendSeq
              else (s.link k).sendSeq)
            ∧ (∀ m ms, (s.link k).outbound.tail = m :: ms →
                (t.link k).onOffer = some 0 ∧ (t.link k).head = m ∧ (t.link k).ackCount = 0)
            ∧ (hs.getLsbD 4 = false → (∀ q ∈ (s.link k).inProcess, ∀ m, q.phase ≠ .held m) →
                (t.link k).outbound = (s.link k).outbound.tail))
      ∧ (∀ j, (s.link k).onOffer = some j → (s.link k).head ≠ [] →
          (s.link k).StaysOnOffer hs → (s.link k).ackCount + 1 < s.settings.ackTimeout.toNat →
          (t.link k).onOffer = some j ∧ (t.link k).head = (s.link k).head
            ∧ (t.link k).ackCount = (s.link k).ackCount + 1
            ∧ (t.link k).sendSeq = (s.link k).sendSeq)
      ∧ ∀ j, (t.link k).onOffer = some j → ∀ v, (t.link k).head[j]? = some v →
          (t.link k).presented.channel = v
            ∧ (t.link k).presented.handshake.extractLsb' 5 3 = 5
            ∧ (t.link k).presented.handshake.getLsbD 4 = true
            ∧ (t.link k).presented.handshake.getLsbD 3 = (t.link k).sendSeq
            ∧ (t.link k).presented.handshake.getLsbD 2 = (j + 1 == (t.link k).head.length))
    ∧ ((s.link k).state = .up ∨ (s.link k).state = .stalled → (s.link k).refusalSeen ≤ 1 →
      ∃ t, exec (.controlSlotArrival k chan hs) s = .next t
        ∧ ((t.link k).refusalSeen, (t.link k).refusalLatch) =
          if valid = false then (0, (s.link k).refusalLatch)
          else if hs.getLsbD 0 = false then (0, false)
          else if (s.link k).refusalLatch = true then ((s.link k).refusalSeen, true)
          else if (s.link k).refusalSeen = 0 then (1, false)
          else (0, true))

/-- An eligible octet is taken at the arrival at which its run reaches CONFIRM_COUNT, where no refusal
is shown (R140, R141): it joins the assembly buffer, the receive ACK becomes its SEQ and the expected
SEQ toggles. A FINAL one finishes the message: a circuit request handed on, or, with a wrong frame, a
RESULT of BAD_FORMAT, which joins the outbound queue or is HELD (R141, R152, R155). One whose run is
short is left on offer, and so is the first octet of a message while a request is in process (R142). In
place of a 17th octet, or of a FINAL octet that would make a message of fewer than 3, the message is
refused (R143, R145). While the refusal display count is above 0, REFUSE is presented; an arrival then
lowers the count by one, takes no octet and sets the run to 0, and with the count at 0 REFUSE is not
presented (R145). The model's choices: assumptions 6 and 10. -/
def Obligations.ConfirmedOctetsJoinTheMessage : Prop :=
  (∀ (s : State) (k : LinkNo) (chan hs : Byte) (final : Bool) (run : Nat) (msg : List Byte),
    s.timing.state ≠ .acquiring →
    (s.link k).state = .up ∨ (s.link k).state = .stalled →
    (s.link k).refusalDisplay = 0 → hs.extractLsb' 5 3 = 5 → hs.getLsbD 4 = true →
    hs.getLsbD 3 = (s.link k).expectedSeq → final = hs.getLsbD 2 →
    (run = if 0 < (s.link k).run ∧ (s.link k).before = ⟨chan, true, hs.getLsbD 3, final⟩ then
      min 3 ((s.link k).run + 1) else 1) →
    msg = (s.link k).assembly ++ [chan] →
    ∃ t, exec (.controlSlotArrival k chan hs) s = .next t
      ∧ t = { s with links := t.links, events := { s.events with flags := t.events.flags } }
      ∧ (∀ j : LinkNo, j ≠ k → t.link j = s.link j)
      ∧ if run < s.settings.confirmCount.toNat then
          (t.link k).assembly = (s.link k).assembly ∧ (t.link k).run = run
            ∧ (t.link k).receiveAck = (s.link k).receiveAck
            ∧ (t.link k).expectedSeq = (s.link k).expectedSeq
            ∧ (t.link k).assemblyCount = (s.link k).assemblyCount
        else if (s.link k).assembly = [] ∧ (s.link k).inProcess.isSome = true then
          (∀ q ∈ (s.link k).inProcess, ∀ m, q.phase ≠ .held m)
            ∨ (t.link k).inProcess.isSome = true →
          (t.link k).assembly = [] ∧ (t.link k).run = run
            ∧ (t.link k).inProcess = (s.link k).inProcess
            ∧ (t.link k).receiveAck = (s.link k).receiveAck
            ∧ (t.link k).expectedSeq = (s.link k).expectedSeq
            ∧ (t.link k).assemblyCount = (s.link k).assemblyCount
        else if (s.link k).assembly.length = 16
            ∨ (final = true ∧ (s.link k).assembly.length < 2) then
          (t.link k).assembly = [] ∧ (t.link k).assemblyCount = 0 ∧ (t.link k).run = 0
            ∧ (t.link k).refusalDisplay = 2
            ∧ (t.link k).receiveAck = (s.link k).receiveAck
            ∧ (t.link k).expectedSeq = (s.link k).expectedSeq
            ∧ (t.link k).presented.handshake.getLsbD 0 = true
        else
          (t.link k).receiveAck = hs.getLsbD 3
            ∧ (t.link k).expectedSeq = (!(s.link k).expectedSeq)
            ∧ (t.link k).assemblyCount = 0 ∧ (t.link k).run = run
            ∧ (t.link k).presented.handshake.getLsbD 1 = hs.getLsbD 3
            ∧ if final = false then (t.link k).assembly = msg
              else (t.link k).assembly = []
                ∧ (∀ q, Decode.lineRequest msg = some q →
                    (t.link k).inProcess =
                      some ⟨msg.headD 0, msg.tail.headD 0, some q, .handed⟩
                    ∧ t.handed k = some (msg.tail.headD 0, q))
                ∧ (Decode.lineRequest msg = none →
                    ((t.link k).inProcess = none
                      ∧ (t.link k).outbound.getLast? =
                        some (Reply.result (msg.tail.headD 0) { outcome := .badFormat }))
                    ∨ (4 ≤ (t.link k).outbound.length
                      ∧ (t.link k).inProcess = some ⟨msg.headD 0, msg.tail.headD 0, none,
                        .held (Reply.result (msg.tail.headD 0) { outcome := .badFormat })⟩)))
  ∧ ∀ (s : State) (k : LinkNo) (chan hs : Byte), s.ArrivesInSession k hs →
    ∃ t, exec (.controlSlotArrival k chan hs) s = .next t
      ∧ (t.link k).presented.handshake.getLsbD 0 = decide (0 < (t.link k).refusalDisplay)
      ∧ (0 < (s.link k).refusalDisplay →
          (s.link k).assembly = [] ∨ (hs.extractLsb' 5 3 = 5 ∧ hs.getLsbD 4 = true
            ∧ hs.getLsbD 3 = (s.link k).expectedSeq) →
          (t.link k).refusalDisplay = (s.link k).refusalDisplay - 1 ∧ (t.link k).run = 0
            ∧ (t.link k).assembly = (s.link k).assembly
            ∧ (t.link k).assemblyCount = (s.link k).assemblyCount
            ∧ (t.link k).receiveAck = (s.link k).receiveAck
            ∧ (t.link k).expectedSeq = (s.link k).expectedSeq)

/-! ## Line requests -/

/-- A line OPEN that passes every check (R33, R39, R40): on an AUTO link it is accepted as a host OPEN
is, with owner LINK k, tag 0, cause OWNER, attention set and a RESULT placed; on a REFER link the record
goes to REFERRED with nothing staged, the link's referral waits with the timeout in force, REFERRAL is
raised and the request stays in process, REFERRED. The model's choice: assumption 5. -/
def Obligations.LineOpensAreAcceptedOrReferred : Prop :=
  ∀ (s : State) (k : LinkNo) (tag sl ss v : Byte) (w : BitVec 4) (sf : Bool)
    (ds : List (Byte × Byte)) (i : RecNo) (src : Source) (dests : List Group) (c : Cutover),
    s.handed k = some (tag, .openCircuit sl ss w sf v ds) →
    src = .position sl.toNat ss.toNat → dests = (ds.map fun d => groupOf d.1 d.2) →
    c = (if sf then .nextSuperframe else .nextFrame) →
    1 ≤ w.toNat → w.toNat ≤ 4 → 1 ≤ ds.length → ds.length ≤ 4 → v ≠ 0 →
    sourceInRange (some src) w.toNat = true →
    (∀ g ∈ dests, g.link < 8 ∧ g.slot + w.toNat ≤ 38) → anyOverlap w.toNat dests = false →
    (s.manager.reach[k]).getLsbD sl.toNat = true →
    (∀ g ∈ dests, (s.manager.reach[k]).getLsbD g.link = true) →
    s.AllOpen (inCircuit (some src) dests w.toNat) → s.Allocates i → s.entriesOf i = [] →
    s.refers k = true ∨ s.HasRoom →
    ∃ t, exec (.lineOpen k) s = .next t ∧ s.KeepsElsewhere t ∧ t.mailbox = s.mailbox
      ∧ s.MapBecomes t (fun p l q e =>
          if inCircuit (some src) dests w.toNat p l q then .claimed i .joining else e)
      ∧ s.RecordBecomes t i {
          generation := (s.record i).generation + 1
          state := if s.refers k then .referred else .opening
          owner := some (.link k)
          source := some src
          width := w.toNat
          dests := dests
          lease := some ⟨v, v⟩
          tag := 0
          staged := if s.refers k then none else some ⟨.activate, c, .owner⟩
          attention := !s.refers k }
      ∧ if s.refers k then
          t.manager.queue = s.manager.queue
          ∧ t.manager.attentionCount = s.countCleared i
          ∧ t.events.flags = s.events.flags ||| 0x200#13
          ∧ (∀ j : LinkNo, t.referral j = if k = j then some {
                circuit := i
                generation := (s.record i).generation + 1
                tag := tag
                sourceLink := sl.toNat
                sourceSlot := ss.toNat
                width := w.toNat
                cutover := c
                lease := v
                dests := dests
                remaining := s.referrals.timeout }
              else s.referral j)
          ∧ s.LinkBecomes t k { s.link k with
              inProcess := (s.link k).inProcess.map fun q => { q with phase := .referred } }
        else
          t.manager.queue = s.manager.queue ++ [⟨i, .activate, c, s.timing.tally, false⟩]
          ∧ t.manager.attentionCount = s.countCleared i + 1
          ∧ t.events.flags = s.events.flags ||| 0x800#13
          ∧ t.referrals = s.referrals
          ∧ t.links = (s.answerLine k {
              outcome := .ok
              reference := some (indexOctet i, (s.record i).generation + 1)
              state := some .opening
              lease := some v }).links

/-- A line ADD or DROP of its own circuit that passes every check (R33, R41, R42): as the host's, with
cutover NEXT_FRAME and cause OWNER, attention set on the record, and a RESULT placed on the link. The
model's choice: assumption 5. -/
def Obligations.LineAddAndDropStageWithAttention : Prop :=
  ∀ (s : State) (k : LinkNo) (tag x gen gl gs : Byte) (i : RecNo) (g : Group) (ch : Change)
    (cmd : Instr),
    (s.handed k = some (tag, .add x gen gl gs) ∧ cmd = .lineAdd k ∧ ch = .add g
        ∧ (s.record i).dests.length < 4
        ∧ (∀ h ∈ (s.record i).dests, g.overlaps h (s.record i).width = false)
        ∧ s.AllOpen (egressGroup g (s.record i).width))
      ∨ (s.handed k = some (tag, .drop x gen gl gs) ∧ cmd = .lineDrop k ∧ ch = .drop g
        ∧ 2 ≤ (s.record i).dests.length ∧ g ∈ (s.record i).dests) →
    g = groupOf gl gs → s.Names x gen i → (s.record i).owner = some (.link k) →
    (s.record i).state = .active → g.link < 8 → g.slot + (s.record i).width ≤ 38 →
    (s.manager.reach[k]).getLsbD g.link = true → s.HasRoom →
    ∃ t, exec cmd s = .next t ∧ s.KeepsElsewhere t ∧ t.mailbox = s.mailbox
      ∧ t.referrals = s.referrals
      ∧ s.RecordBecomes t i { s.record i with
          state := .altering, staged := some ⟨ch, .nextFrame, .owner⟩, attention := true }
      ∧ s.MapBecomes t (fun p l q e =>
          if egressGroup g (s.record i).width p l q then
            if ch.kind = .add then .claimed i .joining
            else if e = .claimed i .live then .claimed i .leaving else e
          else e)
      ∧ t.manager.queue = s.manager.queue ++ [⟨i, ch.kind, .nextFrame, s.timing.tally, false⟩]
      ∧ t.manager.attentionCount = s.countSet i ∧ t.events.flags = s.flagsSet i
      ∧ t.links = (s.answerLine k {
          outcome := .ok
          reference := some (x, gen)
          state := some .altering
          lease := (s.record i).remaining }).links

/-- A line RELEASE of its own circuit (R44, R45, R72): from ACTIVE a DEACTIVATE of cause OWNER is
staged for the next frame and the record goes to CLOSING; from OPENING the ACTIVATE is withdrawn and
the record retires with LINE_RELEASE, and where the entry was awaited the mailbox completes with
WITHDRAWN (R74), and deferred staging follows for the entry removed (R75). Attention is set, and a
RESULT is placed. The model's choice: assumption 5. -/
def Obligations.LineReleaseClosesOrRetires : Prop :=
  ∀ (s : State) (k : LinkNo) (tag x gen : Byte) (i : RecNo),
    s.handed k = some (tag, .release x gen) → s.Names x gen i →
    (s.record i).owner = some (.link k) →
    ((s.record i).state = .active → s.HasRoom →
      ∃ t, exec (.lineRelease k) s = .next t ∧ s.KeepsElsewhere t ∧ t.mailbox = s.mailbox
        ∧ t.referrals = s.referrals
        ∧ s.RecordBecomes t i { s.record i with
            state := .closing
            staged := some ⟨.deactivate, .nextFrame, .owner⟩
            attention := true }
        ∧ s.MapBecomes t (fun _ _ _ e =>
            if e = .claimed i .live then .claimed i .leaving else e)
        ∧ t.manager.queue = s.manager.queue ++
            [⟨i, .deactivate, .nextFrame, s.timing.tally, false⟩]
        ∧ t.manager.attentionCount = s.countSet i ∧ t.events.flags = s.flagsSet i
        ∧ t.links = (s.answerLine k {
            outcome := .ok
            reference := some (x, gen)
            state := some .closing
            lease := (s.record i).remaining }).links)
    ∧ ((s.record i).state = .opening →
      ∃ t, exec (.lineRelease k) s = .next (t.serveWaiting 1)
        ∧ (s.NobodyWaits → exec (.lineRelease k) s = .next t) ∧ s.KeepsElsewhere t
        ∧ t.referrals = s.referrals
        ∧ (if ∃ e ∈ s.entriesOf i, e.awaited = true then
            t.mailbox = s.mailboxWithdrawn i .retired
              ∧ t.events.flags = s.flagsSet i ||| 0x1000#13
          else t.mailbox = s.mailbox ∧ t.events.flags = s.flagsSet i)
        ∧ s.RecordBecomes t i { s.record i with
            state := .retired
            staged := none
            retireCause := some .lineRelease
            attention := true }
        ∧ s.MapBecomes t (fun _ _ _ e => released i e)
        ∧ t.manager.queue = (s.manager.queue.filter fun e => e.circuit ≠ i)
        ∧ t.manager.attentionCount = s.countSet i
        ∧ t.links = (s.answerLine k {
            outcome := .ok
            reference := some (x, gen)
            state := some .retired
            lease := (s.record i).remaining }).links)

/-- A line RENEW and a line STATUS of its own circuit (R47, R50): RENEW sets the lease, STATUS changes
nothing, and each places a RESULT with the record's state and remaining count. The model's choice:
assumption 5. -/
def Obligations.LineRenewAndStatusReport : Prop :=
  ∀ (s : State) (k : LinkNo) (tag x gen v : Byte) (i : RecNo), s.Names x gen i →
    (s.record i).owner = some (.link k) →
    (s.handed k = some (tag, .renew x gen v) → v ≠ 0 →
      (s.record i).state = .opening ∨ (s.record i).state = .active
        ∨ (s.record i).state = .altering →
      ∃ t, exec (.lineRenew k) s = .next t ∧ s.KeepsElsewhere t ∧ t.mailbox = s.mailbox
        ∧ t.events = s.events ∧ t.referrals = s.referrals
        ∧ t.manager = { s.manager with table := t.manager.table }
        ∧ s.RecordBecomes t i { s.record i with lease := some ⟨v, v⟩ }
        ∧ t.links = (s.answerLine k {
            outcome := .ok
            reference := some (x, gen)
            state := some (s.record i).state
            lease := some v }).links)
    ∧ (s.handed k = some (tag, .status x gen) →
      exec (.status k) s = .next { s with
        links := (s.answerLine k {
          outcome := .ok
          reference := some (x, gen)
          state := some (s.record i).state
          lease := (s.record i).remaining }).links })

/-- A line request that is refused changes nothing but its own link, on which its RESULT is placed (R24,
R26, R27): with the outcome of the first check that fails, in the order of format (R28), the reference
named, ownership and state (R29, R30), position range (R31), overlap (R32), reach (R33), barred and busy
(R35), record and room (R36; R40 on a REFER link), and with the record's state and remaining count where
the reference is known and the format was right. With no request of its kind handed on, nothing is done.
The model's choices: assumptions 4 and 5. -/
def Obligations.RefusedLineRequestsChangeTheirLinkAlone : Prop :=
  ∀ (s : State) (k : LinkNo) (tag : Byte),
    (∀ sl ss w sf v ds f, s.handed k = some (tag, .openCircuit sl ss w sf v ds) →
      f = lineOpenFields sl ss w sf v ds →
      firstOutcome (s.openChecks (.line k) (s.refers k) f) ≠ .ok →
      s.LineRefused (.lineOpen k) k
        { outcome := firstOutcome (s.openChecks (.line k) (s.refers k) f) })
    ∧ (∀ x g l q, s.handed k = some (tag, .add x g l q) →
      s.LineChecked (.lineAdd k) k x g false
        (s.addChecks (.line k) (groupOf l q) (some .nextFrame)))
    ∧ (∀ x g l q, s.handed k = some (tag, .drop x g l q) →
      s.LineChecked (.lineDrop k) k x g false
        (s.dropChecks (.line k) (groupOf l q) (some .nextFrame)))
    ∧ (∀ x g, s.handed k = some (tag, .release x g) →
      s.LineChecked (.lineRelease k) k x g false
        (s.releaseChecks (.line k) (some .nextFrame)))
    ∧ (∀ x g v, s.handed k = some (tag, .renew x g v) →
      s.LineChecked (.lineRenew k) k x g (v == 0) (Record.renewChecks (.line k) v))
    ∧ (∀ x g, s.handed k = some (tag, .status x g) →
      s.LineChecked (.status k) k x g false (fun r => [r.ownership (.line k)]))
    ∧ ∀ c : Instr, (c = .lineOpen k ∧ (∀ y a b w d e f,
            s.handed k ≠ some (y, .openCircuit a b w d e f)))
        ∨ (c = .lineAdd k ∧ ∀ y a b d e, s.handed k ≠ some (y, .add a b d e))
        ∨ (c = .lineDrop k ∧ ∀ y a b d e, s.handed k ≠ some (y, .drop a b d e))
        ∨ (c = .lineRelease k ∧ ∀ y a b, s.handed k ≠ some (y, .release a b))
        ∨ (c = .lineRenew k ∧ ∀ y a b d, s.handed k ≠ some (y, .renew a b d))
        ∨ (c = .status k ∧ ∀ y a b, s.handed k ≠ some (y, .status a b)) →
      exec c s = .next s

/-- A line unit's requests change no circuit of another party (R2, R29): whatever link k has handed on,
where no record waits for deferred staging, a record in use that link k does not own keeps every field
and every claim. The model's choice: assumption 5. -/
def Obligations.LineRequestsLeaveOtherCircuitsAlone : Prop :=
  ∀ (s t : State) (k : LinkNo) (c : Instr) (i : RecNo),
    c = .lineOpen k ∨ c = .lineAdd k ∨ c = .lineDrop k ∨ c = .lineRelease k ∨ c = .lineRenew k
      ∨ c = .status k →
    s.NobodyWaits → exec c s = .next t →
    (s.record i).state ≠ .free → (s.record i).state ≠ .retired →
    (s.record i).owner ≠ some (.link k) →
    t.record i = s.record i
      ∧ ∀ (p : Plane) (l : Fin 8) (q : Fin 40) (ph : Phase),
          t.entry p l q = .claimed i ph ↔ s.entry p l q = .claimed i ph

/-! ## What always holds -/

/-- Through every step the settings stay in their ranges (R99, R146, R170), role and timing state agree
(R91), the counts of the Timing Unit and of every link channel stay in their ranges (R91, R95, R98,
R129), nothing of a frame start is outstanding while frames are absent (R61, R86, R123, R171), the
change queue stays within 24 entries (R57), ATTENTION_COUNT stays the number of records with attention
(R16), and slots 38 and 39 stay FIXED and no other position does (R17, R18). The model's choices:
assumptions 1 and 5. -/
def Obligations.EveryStepKeepsCountsInRange : Prop :=
  ∀ s t : State, s.SettingsInRange → s.RoleMatches → s.TimingCounts → s.AbsenceIsIdle →
    (∀ k : LinkNo, (s.link k).CountsInRange) → s.QueueBounded → s.AttentionCounted →
    s.ControlSlotsFixed → step s = .next t →
    t.SettingsInRange ∧ t.RoleMatches ∧ t.TimingCounts ∧ t.AbsenceIsIdle
      ∧ (∀ k : LinkNo, (t.link k).CountsInRange) ∧ t.QueueBounded ∧ t.AttentionCounted
      ∧ t.ControlSlotsFixed

/-- The Circuit Manager stays in order through every step: each record in OPENING, ALTERING or CLOSING
is named by exactly one entry with its kind and cutover and no other record is named, AWAITING goes with
exactly one awaited entry, WAITING referrals and REFERRED records name each other, a lease stands at 0
only where the manual lets it, and the channels hold their messages in order (R6, R57, R69, R75, R154,
R161, R168, R186). The model's choice: assumption 1. -/
def Obligations.EveryStepKeepsTheManagerInOrder : Prop :=
  ∀ s t : State, s.ManagerInOrder → step s = .next t → t.ManagerInOrder

/-- The position map and the egress program follow the circuit table through every step: every record
claims exactly the positions of its state, each in its phase, no two of its groups share one, a staged
DROP is of one of its groups, and the program names a source slot exactly for the egress positions
claimed LIVE or LEAVING (R4, R17, R20, R21, R31, R42, R76). The model's choice: assumption 1. -/
def Obligations.EveryStepKeepsSwitchingInOrder : Prop :=
  ∀ s t : State, s.SwitchingInOrder → step s = .next t → t.SwitchingInOrder

/-- Every property that the steps keep holds right after device reset. The model's choice: assumption
13. -/
def Obligations.ResetIsInOrder : Prop :=
  State.reset.SettingsInRange ∧ State.reset.RoleMatches ∧ State.reset.TimingCounts
    ∧ State.reset.AbsenceIsIdle ∧ (∀ k : LinkNo, (State.reset.link k).CountsInRange)
    ∧ State.reset.AttentionCounted ∧ State.reset.SwitchingInOrder

end Statements
end

