-- ==== Sys2Proof/Laws/State.lean ====
section
/-! SUPPORT. One lemma for each block that an update of the state leaves as it stands, and for each
field of the Circuit Manager where the update reaches into that block. All hold by computation. -/

namespace Sys2Proof.Machine

variable (s : State)

/-! ### raise -/

@[simp] theorem State.raise_timing (c : Nat) :
    (State.raise c s).timing = s.timing := rfl
@[simp] theorem State.raise_switch (c : Nat) :
    (State.raise c s).switch = s.switch := rfl
@[simp] theorem State.raise_manager (c : Nat) :
    (State.raise c s).manager = s.manager := rfl
@[simp] theorem State.raise_links (c : Nat) :
    (State.raise c s).links = s.links := rfl
@[simp] theorem State.raise_settings (c : Nat) :
    (State.raise c s).settings = s.settings := rfl
@[simp] theorem State.raise_referrals (c : Nat) :
    (State.raise c s).referrals = s.referrals := rfl
@[simp] theorem State.raise_mailbox (c : Nat) :
    (State.raise c s).mailbox = s.mailbox := rfl
@[simp] theorem State.raise_port (c : Nat) :
    (State.raise c s).port = s.port := rfl
@[simp] theorem State.raise_pins (c : Nat) :
    (State.raise c s).pins = s.pins := rfl
@[simp] theorem State.raise_pending (c : Nat) :
    (State.raise c s).pending = s.pending := rfl

/-! ### clearFlags -/

@[simp] theorem State.clearFlags_timing (b : Bool) (v : Byte) :
    (State.clearFlags b v s).timing = s.timing := rfl
@[simp] theorem State.clearFlags_switch (b : Bool) (v : Byte) :
    (State.clearFlags b v s).switch = s.switch := rfl
@[simp] theorem State.clearFlags_manager (b : Bool) (v : Byte) :
    (State.clearFlags b v s).manager = s.manager := rfl
@[simp] theorem State.clearFlags_links (b : Bool) (v : Byte) :
    (State.clearFlags b v s).links = s.links := rfl
@[simp] theorem State.clearFlags_settings (b : Bool) (v : Byte) :
    (State.clearFlags b v s).settings = s.settings := rfl
@[simp] theorem State.clearFlags_referrals (b : Bool) (v : Byte) :
    (State.clearFlags b v s).referrals = s.referrals := rfl
@[simp] theorem State.clearFlags_mailbox (b : Bool) (v : Byte) :
    (State.clearFlags b v s).mailbox = s.mailbox := rfl
@[simp] theorem State.clearFlags_port (b : Bool) (v : Byte) :
    (State.clearFlags b v s).port = s.port := rfl
@[simp] theorem State.clearFlags_pins (b : Bool) (v : Byte) :
    (State.clearFlags b v s).pins = s.pins := rfl
@[simp] theorem State.clearFlags_pending (b : Bool) (v : Byte) :
    (State.clearFlags b v s).pending = s.pending := rfl

/-! ### writeEnables -/

@[simp] theorem State.writeEnables_timing (b : Bool) (v : Byte) :
    (State.writeEnables b v s).timing = s.timing := rfl
@[simp] theorem State.writeEnables_switch (b : Bool) (v : Byte) :
    (State.writeEnables b v s).switch = s.switch := rfl
@[simp] theorem State.writeEnables_manager (b : Bool) (v : Byte) :
    (State.writeEnables b v s).manager = s.manager := rfl
@[simp] theorem State.writeEnables_links (b : Bool) (v : Byte) :
    (State.writeEnables b v s).links = s.links := rfl
@[simp] theorem State.writeEnables_settings (b : Bool) (v : Byte) :
    (State.writeEnables b v s).settings = s.settings := rfl
@[simp] theorem State.writeEnables_referrals (b : Bool) (v : Byte) :
    (State.writeEnables b v s).referrals = s.referrals := rfl
@[simp] theorem State.writeEnables_mailbox (b : Bool) (v : Byte) :
    (State.writeEnables b v s).mailbox = s.mailbox := rfl
@[simp] theorem State.writeEnables_port (b : Bool) (v : Byte) :
    (State.writeEnables b v s).port = s.port := rfl
@[simp] theorem State.writeEnables_pins (b : Bool) (v : Byte) :
    (State.writeEnables b v s).pins = s.pins := rfl
@[simp] theorem State.writeEnables_pending (b : Bool) (v : Byte) :
    (State.writeEnables b v s).pending = s.pending := rfl

/-! ### setRecord -/

@[simp] theorem State.setRecord_timing (i : RecNo) (r : Record) :
    (s.setRecord i r).timing = s.timing := rfl
@[simp] theorem State.setRecord_switch (i : RecNo) (r : Record) :
    (s.setRecord i r).switch = s.switch := rfl
@[simp] theorem State.setRecord_links (i : RecNo) (r : Record) :
    (s.setRecord i r).links = s.links := rfl
@[simp] theorem State.setRecord_settings (i : RecNo) (r : Record) :
    (s.setRecord i r).settings = s.settings := rfl
@[simp] theorem State.setRecord_referrals (i : RecNo) (r : Record) :
    (s.setRecord i r).referrals = s.referrals := rfl
@[simp] theorem State.setRecord_mailbox (i : RecNo) (r : Record) :
    (s.setRecord i r).mailbox = s.mailbox := rfl
@[simp] theorem State.setRecord_port (i : RecNo) (r : Record) :
    (s.setRecord i r).port = s.port := rfl
@[simp] theorem State.setRecord_events (i : RecNo) (r : Record) :
    (s.setRecord i r).events = s.events := rfl
@[simp] theorem State.setRecord_pins (i : RecNo) (r : Record) :
    (s.setRecord i r).pins = s.pins := rfl
@[simp] theorem State.setRecord_pending (i : RecNo) (r : Record) :
    (s.setRecord i r).pending = s.pending := rfl
@[simp] theorem State.setRecord_manager_map (i : RecNo) (r : Record) :
    (s.setRecord i r).manager.map = s.manager.map := rfl
@[simp] theorem State.setRecord_manager_queue (i : RecNo) (r : Record) :
    (s.setRecord i r).manager.queue = s.manager.queue := rfl
@[simp] theorem State.setRecord_manager_program (i : RecNo) (r : Record) :
    (s.setRecord i r).manager.program = s.manager.program := rfl
@[simp] theorem State.setRecord_manager_reach (i : RecNo) (r : Record) :
    (s.setRecord i r).manager.reach = s.manager.reach := rfl
@[simp] theorem State.setRecord_manager_divider (i : RecNo) (r : Record) :
    (s.setRecord i r).manager.divider = s.manager.divider := rfl
@[simp] theorem State.setRecord_manager_attentionCount (i : RecNo) (r : Record) :
    (s.setRecord i r).manager.attentionCount = s.manager.attentionCount := rfl
@[simp] theorem State.setRecord_manager_frame (i : RecNo) (r : Record) :
    (s.setRecord i r).manager.frame = s.manager.frame := rfl
@[simp] theorem State.setRecord_manager_applicationDue (i : RecNo) (r : Record) :
    (s.setRecord i r).manager.applicationDue = s.manager.applicationDue := rfl
@[simp] theorem State.setRecord_manager_tickDue (i : RecNo) (r : Record) :
    (s.setRecord i r).manager.tickDue = s.manager.tickDue := rfl
@[simp] theorem State.setRecord_manager_timeouts (i : RecNo) (r : Record) :
    (s.setRecord i r).manager.timeouts = s.manager.timeouts := rfl

/-! ### setQueue -/

@[simp] theorem State.setQueue_timing (q : List QueueEntry) :
    (s.setQueue q).timing = s.timing := rfl
@[simp] theorem State.setQueue_switch (q : List QueueEntry) :
    (s.setQueue q).switch = s.switch := rfl
@[simp] theorem State.setQueue_links (q : List QueueEntry) :
    (s.setQueue q).links = s.links := rfl
@[simp] theorem State.setQueue_settings (q : List QueueEntry) :
    (s.setQueue q).settings = s.settings := rfl
@[simp] theorem State.setQueue_referrals (q : List QueueEntry) :
    (s.setQueue q).referrals = s.referrals := rfl
@[simp] theorem State.setQueue_mailbox (q : List QueueEntry) :
    (s.setQueue q).mailbox = s.mailbox := rfl
@[simp] theorem State.setQueue_port (q : List QueueEntry) :
    (s.setQueue q).port = s.port := rfl
@[simp] theorem State.setQueue_events (q : List QueueEntry) :
    (s.setQueue q).events = s.events := rfl
@[simp] theorem State.setQueue_pins (q : List QueueEntry) :
    (s.setQueue q).pins = s.pins := rfl
@[simp] theorem State.setQueue_pending (q : List QueueEntry) :
    (s.setQueue q).pending = s.pending := rfl
@[simp] theorem State.setQueue_manager_table (q : List QueueEntry) :
    (s.setQueue q).manager.table = s.manager.table := rfl
@[simp] theorem State.setQueue_manager_map (q : List QueueEntry) :
    (s.setQueue q).manager.map = s.manager.map := rfl
@[simp] theorem State.setQueue_manager_program (q : List QueueEntry) :
    (s.setQueue q).manager.program = s.manager.program := rfl
@[simp] theorem State.setQueue_manager_reach (q : List QueueEntry) :
    (s.setQueue q).manager.reach = s.manager.reach := rfl
@[simp] theorem State.setQueue_manager_divider (q : List QueueEntry) :
    (s.setQueue q).manager.divider = s.manager.divider := rfl
@[simp] theorem State.setQueue_manager_attentionCount (q : List QueueEntry) :
    (s.setQueue q).manager.attentionCount = s.manager.attentionCount := rfl
@[simp] theorem State.setQueue_manager_frame (q : List QueueEntry) :
    (s.setQueue q).manager.frame = s.manager.frame := rfl
@[simp] theorem State.setQueue_manager_applicationDue (q : List QueueEntry) :
    (s.setQueue q).manager.applicationDue = s.manager.applicationDue := rfl
@[simp] theorem State.setQueue_manager_tickDue (q : List QueueEntry) :
    (s.setQueue q).manager.tickDue = s.manager.tickDue := rfl
@[simp] theorem State.setQueue_manager_timeouts (q : List QueueEntry) :
    (s.setQueue q).manager.timeouts = s.manager.timeouts := rfl

/-! ### updateMap -/

@[simp] theorem State.updateMap_timing (f : Plane → Nat → Nat → PosEntry → PosEntry) :
    (s.updateMap f).timing = s.timing := rfl
@[simp] theorem State.updateMap_switch (f : Plane → Nat → Nat → PosEntry → PosEntry) :
    (s.updateMap f).switch = s.switch := rfl
@[simp] theorem State.updateMap_links (f : Plane → Nat → Nat → PosEntry → PosEntry) :
    (s.updateMap f).links = s.links := rfl
@[simp] theorem State.updateMap_settings (f : Plane → Nat → Nat → PosEntry → PosEntry) :
    (s.updateMap f).settings = s.settings := rfl
@[simp] theorem State.updateMap_referrals (f : Plane → Nat → Nat → PosEntry → PosEntry) :
    (s.updateMap f).referrals = s.referrals := rfl
@[simp] theorem State.updateMap_mailbox (f : Plane → Nat → Nat → PosEntry → PosEntry) :
    (s.updateMap f).mailbox = s.mailbox := rfl
@[simp] theorem State.updateMap_port (f : Plane → Nat → Nat → PosEntry → PosEntry) :
    (s.updateMap f).port = s.port := rfl
@[simp] theorem State.updateMap_events (f : Plane → Nat → Nat → PosEntry → PosEntry) :
    (s.updateMap f).events = s.events := rfl
@[simp] theorem State.updateMap_pins (f : Plane → Nat → Nat → PosEntry → PosEntry) :
    (s.updateMap f).pins = s.pins := rfl
@[simp] theorem State.updateMap_pending (f : Plane → Nat → Nat → PosEntry → PosEntry) :
    (s.updateMap f).pending = s.pending := rfl
@[simp] theorem State.updateMap_manager_table (f : Plane → Nat → Nat → PosEntry → PosEntry) :
    (s.updateMap f).manager.table = s.manager.table := rfl
@[simp] theorem State.updateMap_manager_queue (f : Plane → Nat → Nat → PosEntry → PosEntry) :
    (s.updateMap f).manager.queue = s.manager.queue := rfl
@[simp] theorem State.updateMap_manager_program (f : Plane → Nat → Nat → PosEntry → PosEntry) :
    (s.updateMap f).manager.program = s.manager.program := rfl
@[simp] theorem State.updateMap_manager_reach (f : Plane → Nat → Nat → PosEntry → PosEntry) :
    (s.updateMap f).manager.reach = s.manager.reach := rfl
@[simp] theorem State.updateMap_manager_divider (f : Plane → Nat → Nat → PosEntry → PosEntry) :
    (s.updateMap f).manager.divider = s.manager.divider := rfl
@[simp] theorem State.updateMap_manager_attentionCount (f : Plane → Nat → Nat → PosEntry → PosEntry) :
    (s.updateMap f).manager.attentionCount = s.manager.attentionCount := rfl
@[simp] theorem State.updateMap_manager_frame (f : Plane → Nat → Nat → PosEntry → PosEntry) :
    (s.updateMap f).manager.frame = s.manager.frame := rfl
@[simp] theorem State.updateMap_manager_applicationDue (f : Plane → Nat → Nat → PosEntry → PosEntry) :
    (s.updateMap f).manager.applicationDue = s.manager.applicationDue := rfl
@[simp] theorem State.updateMap_manager_tickDue (f : Plane → Nat → Nat → PosEntry → PosEntry) :
    (s.updateMap f).manager.tickDue = s.manager.tickDue := rfl
@[simp] theorem State.updateMap_manager_timeouts (f : Plane → Nat → Nat → PosEntry → PosEntry) :
    (s.updateMap f).manager.timeouts = s.manager.timeouts := rfl

/-! ### updateProgram -/

@[simp] theorem State.updateProgram_timing (f : Nat → Nat → ProgramEntry → ProgramEntry) :
    (s.updateProgram f).timing = s.timing := rfl
@[simp] theorem State.updateProgram_switch (f : Nat → Nat → ProgramEntry → ProgramEntry) :
    (s.updateProgram f).switch = s.switch := rfl
@[simp] theorem State.updateProgram_links (f : Nat → Nat → ProgramEntry → ProgramEntry) :
    (s.updateProgram f).links = s.links := rfl
@[simp] theorem State.updateProgram_settings (f : Nat → Nat → ProgramEntry → ProgramEntry) :
    (s.updateProgram f).settings = s.settings := rfl
@[simp] theorem State.updateProgram_referrals (f : Nat → Nat → ProgramEntry → ProgramEntry) :
    (s.updateProgram f).referrals = s.referrals := rfl
@[simp] theorem State.updateProgram_mailbox (f : Nat → Nat → ProgramEntry → ProgramEntry) :
    (s.updateProgram f).mailbox = s.mailbox := rfl
@[simp] theorem State.updateProgram_port (f : Nat → Nat → ProgramEntry → ProgramEntry) :
    (s.updateProgram f).port = s.port := rfl
@[simp] theorem State.updateProgram_events (f : Nat → Nat → ProgramEntry → ProgramEntry) :
    (s.updateProgram f).events = s.events := rfl
@[simp] theorem State.updateProgram_pins (f : Nat → Nat → ProgramEntry → ProgramEntry) :
    (s.updateProgram f).pins = s.pins := rfl
@[simp] theorem State.updateProgram_pending (f : Nat → Nat → ProgramEntry → ProgramEntry) :
    (s.updateProgram f).pending = s.pending := rfl
@[simp] theorem State.updateProgram_manager_table (f : Nat → Nat → ProgramEntry → ProgramEntry) :
    (s.updateProgram f).manager.table = s.manager.table := rfl
@[simp] theorem State.updateProgram_manager_map (f : Nat → Nat → ProgramEntry → ProgramEntry) :
    (s.updateProgram f).manager.map = s.manager.map := rfl
@[simp] theorem State.updateProgram_manager_queue (f : Nat → Nat → ProgramEntry → ProgramEntry) :
    (s.updateProgram f).manager.queue = s.manager.queue := rfl
@[simp] theorem State.updateProgram_manager_reach (f : Nat → Nat → ProgramEntry → ProgramEntry) :
    (s.updateProgram f).manager.reach = s.manager.reach := rfl
@[simp] theorem State.updateProgram_manager_divider (f : Nat → Nat → ProgramEntry → ProgramEntry) :
    (s.updateProgram f).manager.divider = s.manager.divider := rfl
@[simp] theorem State.updateProgram_manager_attentionCount (f : Nat → Nat → ProgramEntry → ProgramEntry) :
    (s.updateProgram f).manager.attentionCount = s.manager.attentionCount := rfl
@[simp] theorem State.updateProgram_manager_frame (f : Nat → Nat → ProgramEntry → ProgramEntry) :
    (s.updateProgram f).manager.frame = s.manager.frame := rfl
@[simp] theorem State.updateProgram_manager_applicationDue (f : Nat → Nat → ProgramEntry → ProgramEntry) :
    (s.updateProgram f).manager.applicationDue = s.manager.applicationDue := rfl
@[simp] theorem State.updateProgram_manager_tickDue (f : Nat → Nat → ProgramEntry → ProgramEntry) :
    (s.updateProgram f).manager.tickDue = s.manager.tickDue := rfl
@[simp] theorem State.updateProgram_manager_timeouts (f : Nat → Nat → ProgramEntry → ProgramEntry) :
    (s.updateProgram f).manager.timeouts = s.manager.timeouts := rfl

/-! ### stage -/

@[simp] theorem State.stage_timing (i : RecNo) (ch : Change) (cu : Cutover) (ca : Cause) :
    (s.stage i ch cu ca).timing = s.timing := rfl
@[simp] theorem State.stage_switch (i : RecNo) (ch : Change) (cu : Cutover) (ca : Cause) :
    (s.stage i ch cu ca).switch = s.switch := rfl
@[simp] theorem State.stage_links (i : RecNo) (ch : Change) (cu : Cutover) (ca : Cause) :
    (s.stage i ch cu ca).links = s.links := rfl
@[simp] theorem State.stage_settings (i : RecNo) (ch : Change) (cu : Cutover) (ca : Cause) :
    (s.stage i ch cu ca).settings = s.settings := rfl
@[simp] theorem State.stage_referrals (i : RecNo) (ch : Change) (cu : Cutover) (ca : Cause) :
    (s.stage i ch cu ca).referrals = s.referrals := rfl
@[simp] theorem State.stage_mailbox (i : RecNo) (ch : Change) (cu : Cutover) (ca : Cause) :
    (s.stage i ch cu ca).mailbox = s.mailbox := rfl
@[simp] theorem State.stage_port (i : RecNo) (ch : Change) (cu : Cutover) (ca : Cause) :
    (s.stage i ch cu ca).port = s.port := rfl
@[simp] theorem State.stage_events (i : RecNo) (ch : Change) (cu : Cutover) (ca : Cause) :
    (s.stage i ch cu ca).events = s.events := rfl
@[simp] theorem State.stage_pins (i : RecNo) (ch : Change) (cu : Cutover) (ca : Cause) :
    (s.stage i ch cu ca).pins = s.pins := rfl
@[simp] theorem State.stage_pending (i : RecNo) (ch : Change) (cu : Cutover) (ca : Cause) :
    (s.stage i ch cu ca).pending = s.pending := rfl
@[simp] theorem State.stage_manager_map (i : RecNo) (ch : Change) (cu : Cutover) (ca : Cause) :
    (s.stage i ch cu ca).manager.map = s.manager.map := rfl
@[simp] theorem State.stage_manager_program (i : RecNo) (ch : Change) (cu : Cutover) (ca : Cause) :
    (s.stage i ch cu ca).manager.program = s.manager.program := rfl
@[simp] theorem State.stage_manager_reach (i : RecNo) (ch : Change) (cu : Cutover) (ca : Cause) :
    (s.stage i ch cu ca).manager.reach = s.manager.reach := rfl
@[simp] theorem State.stage_manager_divider (i : RecNo) (ch : Change) (cu : Cutover) (ca : Cause) :
    (s.stage i ch cu ca).manager.divider = s.manager.divider := rfl
@[simp] theorem State.stage_manager_attentionCount (i : RecNo) (ch : Change) (cu : Cutover) (ca : Cause) :
    (s.stage i ch cu ca).manager.attentionCount = s.manager.attentionCount := rfl
@[simp] theorem State.stage_manager_frame (i : RecNo) (ch : Change) (cu : Cutover) (ca : Cause) :
    (s.stage i ch cu ca).manager.frame = s.manager.frame := rfl
@[simp] theorem State.stage_manager_applicationDue (i : RecNo) (ch : Change) (cu : Cutover) (ca : Cause) :
    (s.stage i ch cu ca).manager.applicationDue = s.manager.applicationDue := rfl
@[simp] theorem State.stage_manager_tickDue (i : RecNo) (ch : Change) (cu : Cutover) (ca : Cause) :
    (s.stage i ch cu ca).manager.tickDue = s.manager.tickDue := rfl
@[simp] theorem State.stage_manager_timeouts (i : RecNo) (ch : Change) (cu : Cutover) (ca : Cause) :
    (s.stage i ch cu ca).manager.timeouts = s.manager.timeouts := rfl

/-! ### countLeases -/

@[simp] theorem State.countLeases_timing :
    (s.countLeases).timing = s.timing := rfl
@[simp] theorem State.countLeases_switch :
    (s.countLeases).switch = s.switch := rfl
@[simp] theorem State.countLeases_links :
    (s.countLeases).links = s.links := rfl
@[simp] theorem State.countLeases_settings :
    (s.countLeases).settings = s.settings := rfl
@[simp] theorem State.countLeases_referrals :
    (s.countLeases).referrals = s.referrals := rfl
@[simp] theorem State.countLeases_mailbox :
    (s.countLeases).mailbox = s.mailbox := rfl
@[simp] theorem State.countLeases_port :
    (s.countLeases).port = s.port := rfl
@[simp] theorem State.countLeases_events :
    (s.countLeases).events = s.events := rfl
@[simp] theorem State.countLeases_pins :
    (s.countLeases).pins = s.pins := rfl
@[simp] theorem State.countLeases_pending :
    (s.countLeases).pending = s.pending := rfl
@[simp] theorem State.countLeases_manager_map :
    (s.countLeases).manager.map = s.manager.map := rfl
@[simp] theorem State.countLeases_manager_queue :
    (s.countLeases).manager.queue = s.manager.queue := rfl
@[simp] theorem State.countLeases_manager_program :
    (s.countLeases).manager.program = s.manager.program := rfl
@[simp] theorem State.countLeases_manager_reach :
    (s.countLeases).manager.reach = s.manager.reach := rfl
@[simp] theorem State.countLeases_manager_divider :
    (s.countLeases).manager.divider = s.manager.divider := rfl
@[simp] theorem State.countLeases_manager_attentionCount :
    (s.countLeases).manager.attentionCount = s.manager.attentionCount := rfl
@[simp] theorem State.countLeases_manager_frame :
    (s.countLeases).manager.frame = s.manager.frame := rfl
@[simp] theorem State.countLeases_manager_applicationDue :
    (s.countLeases).manager.applicationDue = s.manager.applicationDue := rfl
@[simp] theorem State.countLeases_manager_tickDue :
    (s.countLeases).manager.tickDue = s.manager.tickDue := rfl
@[simp] theorem State.countLeases_manager_timeouts :
    (s.countLeases).manager.timeouts = s.manager.timeouts := rfl

/-! ### advanceDivider -/

@[simp] theorem State.advanceDivider_timing :
    (s.advanceDivider).timing = s.timing := rfl
@[simp] theorem State.advanceDivider_switch :
    (s.advanceDivider).switch = s.switch := rfl
@[simp] theorem State.advanceDivider_links :
    (s.advanceDivider).links = s.links := rfl
@[simp] theorem State.advanceDivider_settings :
    (s.advanceDivider).settings = s.settings := rfl
@[simp] theorem State.advanceDivider_referrals :
    (s.advanceDivider).referrals = s.referrals := rfl
@[simp] theorem State.advanceDivider_mailbox :
    (s.advanceDivider).mailbox = s.mailbox := rfl
@[simp] theorem State.advanceDivider_port :
    (s.advanceDivider).port = s.port := rfl
@[simp] theorem State.advanceDivider_events :
    (s.advanceDivider).events = s.events := rfl
@[simp] theorem State.advanceDivider_pins :
    (s.advanceDivider).pins = s.pins := rfl
@[simp] theorem State.advanceDivider_pending :
    (s.advanceDivider).pending = s.pending := rfl
@[simp] theorem State.advanceDivider_manager_table :
    (s.advanceDivider).manager.table = s.manager.table := rfl
@[simp] theorem State.advanceDivider_manager_map :
    (s.advanceDivider).manager.map = s.manager.map := rfl
@[simp] theorem State.advanceDivider_manager_queue :
    (s.advanceDivider).manager.queue = s.manager.queue := rfl
@[simp] theorem State.advanceDivider_manager_program :
    (s.advanceDivider).manager.program = s.manager.program := rfl
@[simp] theorem State.advanceDivider_manager_reach :
    (s.advanceDivider).manager.reach = s.manager.reach := rfl
@[simp] theorem State.advanceDivider_manager_attentionCount :
    (s.advanceDivider).manager.attentionCount = s.manager.attentionCount := rfl
@[simp] theorem State.advanceDivider_manager_frame :
    (s.advanceDivider).manager.frame = s.manager.frame := rfl
@[simp] theorem State.advanceDivider_manager_applicationDue :
    (s.advanceDivider).manager.applicationDue = s.manager.applicationDue := rfl
@[simp] theorem State.advanceDivider_manager_timeouts :
    (s.advanceDivider).manager.timeouts = s.manager.timeouts := rfl

/-! ### setLink -/

@[simp] theorem State.setLink_timing (k : LinkNo) (l : Link) :
    (s.setLink k l).timing = s.timing := rfl
@[simp] theorem State.setLink_switch (k : LinkNo) (l : Link) :
    (s.setLink k l).switch = s.switch := rfl
@[simp] theorem State.setLink_manager (k : LinkNo) (l : Link) :
    (s.setLink k l).manager = s.manager := rfl
@[simp] theorem State.setLink_settings (k : LinkNo) (l : Link) :
    (s.setLink k l).settings = s.settings := rfl
@[simp] theorem State.setLink_referrals (k : LinkNo) (l : Link) :
    (s.setLink k l).referrals = s.referrals := rfl
@[simp] theorem State.setLink_mailbox (k : LinkNo) (l : Link) :
    (s.setLink k l).mailbox = s.mailbox := rfl
@[simp] theorem State.setLink_port (k : LinkNo) (l : Link) :
    (s.setLink k l).port = s.port := rfl
@[simp] theorem State.setLink_events (k : LinkNo) (l : Link) :
    (s.setLink k l).events = s.events := rfl
@[simp] theorem State.setLink_pins (k : LinkNo) (l : Link) :
    (s.setLink k l).pins = s.pins := rfl
@[simp] theorem State.setLink_pending (k : LinkNo) (l : Link) :
    (s.setLink k l).pending = s.pending := rfl

/-! ### clearLost -/

@[simp] theorem State.clearLost_timing (v : Byte) :
    (s.clearLost v).timing = s.timing := rfl
@[simp] theorem State.clearLost_switch (v : Byte) :
    (s.clearLost v).switch = s.switch := rfl
@[simp] theorem State.clearLost_manager (v : Byte) :
    (s.clearLost v).manager = s.manager := rfl
@[simp] theorem State.clearLost_settings (v : Byte) :
    (s.clearLost v).settings = s.settings := rfl
@[simp] theorem State.clearLost_referrals (v : Byte) :
    (s.clearLost v).referrals = s.referrals := rfl
@[simp] theorem State.clearLost_mailbox (v : Byte) :
    (s.clearLost v).mailbox = s.mailbox := rfl
@[simp] theorem State.clearLost_port (v : Byte) :
    (s.clearLost v).port = s.port := rfl
@[simp] theorem State.clearLost_events (v : Byte) :
    (s.clearLost v).events = s.events := rfl
@[simp] theorem State.clearLost_pins (v : Byte) :
    (s.clearLost v).pins = s.pins := rfl
@[simp] theorem State.clearLost_pending (v : Byte) :
    (s.clearLost v).pending = s.pending := rfl

/-! ### setReferral -/

@[simp] theorem State.setReferral_timing (k : LinkNo) (r : Option Referral) :
    (s.setReferral k r).timing = s.timing := rfl
@[simp] theorem State.setReferral_switch (k : LinkNo) (r : Option Referral) :
    (s.setReferral k r).switch = s.switch := rfl
@[simp] theorem State.setReferral_manager (k : LinkNo) (r : Option Referral) :
    (s.setReferral k r).manager = s.manager := rfl
@[simp] theorem State.setReferral_links (k : LinkNo) (r : Option Referral) :
    (s.setReferral k r).links = s.links := rfl
@[simp] theorem State.setReferral_settings (k : LinkNo) (r : Option Referral) :
    (s.setReferral k r).settings = s.settings := rfl
@[simp] theorem State.setReferral_mailbox (k : LinkNo) (r : Option Referral) :
    (s.setReferral k r).mailbox = s.mailbox := rfl
@[simp] theorem State.setReferral_port (k : LinkNo) (r : Option Referral) :
    (s.setReferral k r).port = s.port := rfl
@[simp] theorem State.setReferral_events (k : LinkNo) (r : Option Referral) :
    (s.setReferral k r).events = s.events := rfl
@[simp] theorem State.setReferral_pins (k : LinkNo) (r : Option Referral) :
    (s.setReferral k r).pins = s.pins := rfl
@[simp] theorem State.setReferral_pending (k : LinkNo) (r : Option Referral) :
    (s.setReferral k r).pending = s.pending := rfl

/-! ### writePolicy -/

@[simp] theorem State.writePolicy_timing (k : LinkNo) (b : Bool) :
    (s.writePolicy k b).timing = s.timing := rfl
@[simp] theorem State.writePolicy_switch (k : LinkNo) (b : Bool) :
    (s.writePolicy k b).switch = s.switch := rfl
@[simp] theorem State.writePolicy_manager (k : LinkNo) (b : Bool) :
    (s.writePolicy k b).manager = s.manager := rfl
@[simp] theorem State.writePolicy_links (k : LinkNo) (b : Bool) :
    (s.writePolicy k b).links = s.links := rfl
@[simp] theorem State.writePolicy_settings (k : LinkNo) (b : Bool) :
    (s.writePolicy k b).settings = s.settings := rfl
@[simp] theorem State.writePolicy_mailbox (k : LinkNo) (b : Bool) :
    (s.writePolicy k b).mailbox = s.mailbox := rfl
@[simp] theorem State.writePolicy_port (k : LinkNo) (b : Bool) :
    (s.writePolicy k b).port = s.port := rfl
@[simp] theorem State.writePolicy_events (k : LinkNo) (b : Bool) :
    (s.writePolicy k b).events = s.events := rfl
@[simp] theorem State.writePolicy_pins (k : LinkNo) (b : Bool) :
    (s.writePolicy k b).pins = s.pins := rfl
@[simp] theorem State.writePolicy_pending (k : LinkNo) (b : Bool) :
    (s.writePolicy k b).pending = s.pending := rfl

/-! ### complete -/

@[simp] theorem State.complete_timing (c : OutcomeCode) :
    (s.complete c).timing = s.timing := rfl
@[simp] theorem State.complete_switch (c : OutcomeCode) :
    (s.complete c).switch = s.switch := rfl
@[simp] theorem State.complete_manager (c : OutcomeCode) :
    (s.complete c).manager = s.manager := rfl
@[simp] theorem State.complete_links (c : OutcomeCode) :
    (s.complete c).links = s.links := rfl
@[simp] theorem State.complete_settings (c : OutcomeCode) :
    (s.complete c).settings = s.settings := rfl
@[simp] theorem State.complete_referrals (c : OutcomeCode) :
    (s.complete c).referrals = s.referrals := rfl
@[simp] theorem State.complete_port (c : OutcomeCode) :
    (s.complete c).port = s.port := rfl
@[simp] theorem State.complete_pins (c : OutcomeCode) :
    (s.complete c).pins = s.pins := rfl
@[simp] theorem State.complete_pending (c : OutcomeCode) :
    (s.complete c).pending = s.pending := rfl

/-! ### setResponse -/

@[simp] theorem State.setResponse_timing (v : Vector Byte 24) :
    (s.setResponse v).timing = s.timing := rfl
@[simp] theorem State.setResponse_switch (v : Vector Byte 24) :
    (s.setResponse v).switch = s.switch := rfl
@[simp] theorem State.setResponse_manager (v : Vector Byte 24) :
    (s.setResponse v).manager = s.manager := rfl
@[simp] theorem State.setResponse_links (v : Vector Byte 24) :
    (s.setResponse v).links = s.links := rfl
@[simp] theorem State.setResponse_settings (v : Vector Byte 24) :
    (s.setResponse v).settings = s.settings := rfl
@[simp] theorem State.setResponse_referrals (v : Vector Byte 24) :
    (s.setResponse v).referrals = s.referrals := rfl
@[simp] theorem State.setResponse_port (v : Vector Byte 24) :
    (s.setResponse v).port = s.port := rfl
@[simp] theorem State.setResponse_events (v : Vector Byte 24) :
    (s.setResponse v).events = s.events := rfl
@[simp] theorem State.setResponse_pins (v : Vector Byte 24) :
    (s.setResponse v).pins = s.pins := rfl
@[simp] theorem State.setResponse_pending (v : Vector Byte 24) :
    (s.setResponse v).pending = s.pending := rfl

/-! ### writeRequest -/

@[simp] theorem State.writeRequest_timing (n : Nat) (v : Byte) :
    (s.writeRequest n v).timing = s.timing := rfl
@[simp] theorem State.writeRequest_switch (n : Nat) (v : Byte) :
    (s.writeRequest n v).switch = s.switch := rfl
@[simp] theorem State.writeRequest_manager (n : Nat) (v : Byte) :
    (s.writeRequest n v).manager = s.manager := rfl
@[simp] theorem State.writeRequest_links (n : Nat) (v : Byte) :
    (s.writeRequest n v).links = s.links := rfl
@[simp] theorem State.writeRequest_settings (n : Nat) (v : Byte) :
    (s.writeRequest n v).settings = s.settings := rfl
@[simp] theorem State.writeRequest_referrals (n : Nat) (v : Byte) :
    (s.writeRequest n v).referrals = s.referrals := rfl
@[simp] theorem State.writeRequest_port (n : Nat) (v : Byte) :
    (s.writeRequest n v).port = s.port := rfl
@[simp] theorem State.writeRequest_events (n : Nat) (v : Byte) :
    (s.writeRequest n v).events = s.events := rfl
@[simp] theorem State.writeRequest_pins (n : Nat) (v : Byte) :
    (s.writeRequest n v).pins = s.pins := rfl
@[simp] theorem State.writeRequest_pending (n : Nat) (v : Byte) :
    (s.writeRequest n v).pending = s.pending := rfl

/-! ### noteCommand -/

@[simp] theorem State.noteCommand_timing (c : BitVec 7) (b : Bool) :
    (s.noteCommand c b).timing = s.timing := rfl
@[simp] theorem State.noteCommand_switch (c : BitVec 7) (b : Bool) :
    (s.noteCommand c b).switch = s.switch := rfl
@[simp] theorem State.noteCommand_manager (c : BitVec 7) (b : Bool) :
    (s.noteCommand c b).manager = s.manager := rfl
@[simp] theorem State.noteCommand_links (c : BitVec 7) (b : Bool) :
    (s.noteCommand c b).links = s.links := rfl
@[simp] theorem State.noteCommand_settings (c : BitVec 7) (b : Bool) :
    (s.noteCommand c b).settings = s.settings := rfl
@[simp] theorem State.noteCommand_referrals (c : BitVec 7) (b : Bool) :
    (s.noteCommand c b).referrals = s.referrals := rfl
@[simp] theorem State.noteCommand_port (c : BitVec 7) (b : Bool) :
    (s.noteCommand c b).port = s.port := rfl
@[simp] theorem State.noteCommand_events (c : BitVec 7) (b : Bool) :
    (s.noteCommand c b).events = s.events := rfl
@[simp] theorem State.noteCommand_pins (c : BitVec 7) (b : Bool) :
    (s.noteCommand c b).pins = s.pins := rfl
@[simp] theorem State.noteCommand_pending (c : BitVec 7) (b : Bool) :
    (s.noteCommand c b).pending = s.pending := rfl

/-! ### refuseWrite -/

@[simp] theorem State.refuseWrite_timing :
    (s.refuseWrite).timing = s.timing := rfl
@[simp] theorem State.refuseWrite_switch :
    (s.refuseWrite).switch = s.switch := rfl
@[simp] theorem State.refuseWrite_manager :
    (s.refuseWrite).manager = s.manager := rfl
@[simp] theorem State.refuseWrite_links :
    (s.refuseWrite).links = s.links := rfl
@[simp] theorem State.refuseWrite_settings :
    (s.refuseWrite).settings = s.settings := rfl
@[simp] theorem State.refuseWrite_referrals :
    (s.refuseWrite).referrals = s.referrals := rfl
@[simp] theorem State.refuseWrite_port :
    (s.refuseWrite).port = s.port := rfl
@[simp] theorem State.refuseWrite_events :
    (s.refuseWrite).events = s.events := rfl
@[simp] theorem State.refuseWrite_pins :
    (s.refuseWrite).pins = s.pins := rfl
@[simp] theorem State.refuseWrite_pending :
    (s.refuseWrite).pending = s.pending := rfl

/-! ### makeSnapshot -/

@[simp] theorem State.makeSnapshot_timing (a : BitVec 7) :
    (s.makeSnapshot a).timing = s.timing := rfl
@[simp] theorem State.makeSnapshot_switch (a : BitVec 7) :
    (s.makeSnapshot a).switch = s.switch := rfl
@[simp] theorem State.makeSnapshot_manager (a : BitVec 7) :
    (s.makeSnapshot a).manager = s.manager := rfl
@[simp] theorem State.makeSnapshot_links (a : BitVec 7) :
    (s.makeSnapshot a).links = s.links := rfl
@[simp] theorem State.makeSnapshot_settings (a : BitVec 7) :
    (s.makeSnapshot a).settings = s.settings := rfl
@[simp] theorem State.makeSnapshot_referrals (a : BitVec 7) :
    (s.makeSnapshot a).referrals = s.referrals := rfl
@[simp] theorem State.makeSnapshot_mailbox (a : BitVec 7) :
    (s.makeSnapshot a).mailbox = s.mailbox := rfl
@[simp] theorem State.makeSnapshot_events (a : BitVec 7) :
    (s.makeSnapshot a).events = s.events := rfl
@[simp] theorem State.makeSnapshot_pins (a : BitVec 7) :
    (s.makeSnapshot a).pins = s.pins := rfl
@[simp] theorem State.makeSnapshot_pending (a : BitVec 7) :
    (s.makeSnapshot a).pending = s.pending := rfl

/-! ### notePort -/

@[simp] theorem State.notePort_timing (v : Byte) :
    (s.notePort v).timing = s.timing := rfl
@[simp] theorem State.notePort_switch (v : Byte) :
    (s.notePort v).switch = s.switch := rfl
@[simp] theorem State.notePort_manager (v : Byte) :
    (s.notePort v).manager = s.manager := rfl
@[simp] theorem State.notePort_links (v : Byte) :
    (s.notePort v).links = s.links := rfl
@[simp] theorem State.notePort_settings (v : Byte) :
    (s.notePort v).settings = s.settings := rfl
@[simp] theorem State.notePort_referrals (v : Byte) :
    (s.notePort v).referrals = s.referrals := rfl
@[simp] theorem State.notePort_mailbox (v : Byte) :
    (s.notePort v).mailbox = s.mailbox := rfl
@[simp] theorem State.notePort_events (v : Byte) :
    (s.notePort v).events = s.events := rfl
@[simp] theorem State.notePort_pins (v : Byte) :
    (s.notePort v).pins = s.pins := rfl
@[simp] theorem State.notePort_pending (v : Byte) :
    (s.notePort v).pending = s.pending := rfl

/-! ### writeFill -/

@[simp] theorem State.writeFill_timing (k : LinkNo) (v : Byte) :
    (s.writeFill k v).timing = s.timing := rfl
@[simp] theorem State.writeFill_manager (k : LinkNo) (v : Byte) :
    (s.writeFill k v).manager = s.manager := rfl
@[simp] theorem State.writeFill_links (k : LinkNo) (v : Byte) :
    (s.writeFill k v).links = s.links := rfl
@[simp] theorem State.writeFill_settings (k : LinkNo) (v : Byte) :
    (s.writeFill k v).settings = s.settings := rfl
@[simp] theorem State.writeFill_referrals (k : LinkNo) (v : Byte) :
    (s.writeFill k v).referrals = s.referrals := rfl
@[simp] theorem State.writeFill_mailbox (k : LinkNo) (v : Byte) :
    (s.writeFill k v).mailbox = s.mailbox := rfl
@[simp] theorem State.writeFill_port (k : LinkNo) (v : Byte) :
    (s.writeFill k v).port = s.port := rfl
@[simp] theorem State.writeFill_events (k : LinkNo) (v : Byte) :
    (s.writeFill k v).events = s.events := rfl
@[simp] theorem State.writeFill_pins (k : LinkNo) (v : Byte) :
    (s.writeFill k v).pins = s.pins := rfl
@[simp] theorem State.writeFill_pending (k : LinkNo) (v : Byte) :
    (s.writeFill k v).pending = s.pending := rfl

/-! ### frameFalls -/

@[simp] theorem State.frameFalls_switch (p : Nat) :
    (s.frameFalls p).switch = s.switch := rfl
@[simp] theorem State.frameFalls_manager (p : Nat) :
    (s.frameFalls p).manager = s.manager := rfl
@[simp] theorem State.frameFalls_links (p : Nat) :
    (s.frameFalls p).links = s.links := rfl
@[simp] theorem State.frameFalls_settings (p : Nat) :
    (s.frameFalls p).settings = s.settings := rfl
@[simp] theorem State.frameFalls_referrals (p : Nat) :
    (s.frameFalls p).referrals = s.referrals := rfl
@[simp] theorem State.frameFalls_mailbox (p : Nat) :
    (s.frameFalls p).mailbox = s.mailbox := rfl
@[simp] theorem State.frameFalls_port (p : Nat) :
    (s.frameFalls p).port = s.port := rfl
@[simp] theorem State.frameFalls_events (p : Nat) :
    (s.frameFalls p).events = s.events := rfl
@[simp] theorem State.frameFalls_pins (p : Nat) :
    (s.frameFalls p).pins = s.pins := rfl
@[simp] theorem State.frameFalls_pending (p : Nat) :
    (s.frameFalls p).pending = s.pending := rfl

/-! ### passTo -/

@[simp] theorem State.passTo_switch (p : Nat) :
    (s.passTo p).switch = s.switch := rfl
@[simp] theorem State.passTo_manager (p : Nat) :
    (s.passTo p).manager = s.manager := rfl
@[simp] theorem State.passTo_links (p : Nat) :
    (s.passTo p).links = s.links := rfl
@[simp] theorem State.passTo_settings (p : Nat) :
    (s.passTo p).settings = s.settings := rfl
@[simp] theorem State.passTo_referrals (p : Nat) :
    (s.passTo p).referrals = s.referrals := rfl
@[simp] theorem State.passTo_mailbox (p : Nat) :
    (s.passTo p).mailbox = s.mailbox := rfl
@[simp] theorem State.passTo_port (p : Nat) :
    (s.passTo p).port = s.port := rfl
@[simp] theorem State.passTo_events (p : Nat) :
    (s.passTo p).events = s.events := rfl
@[simp] theorem State.passTo_pins (p : Nat) :
    (s.passTo p).pins = s.pins := rfl
@[simp] theorem State.passTo_pending (p : Nat) :
    (s.passTo p).pending = s.pending := rfl

/-! ### frmHigh -/

@[simp] theorem State.frmHigh_switch :
    (s.frmHigh).switch = s.switch := rfl
@[simp] theorem State.frmHigh_manager :
    (s.frmHigh).manager = s.manager := rfl
@[simp] theorem State.frmHigh_links :
    (s.frmHigh).links = s.links := rfl
@[simp] theorem State.frmHigh_settings :
    (s.frmHigh).settings = s.settings := rfl
@[simp] theorem State.frmHigh_referrals :
    (s.frmHigh).referrals = s.referrals := rfl
@[simp] theorem State.frmHigh_mailbox :
    (s.frmHigh).mailbox = s.mailbox := rfl
@[simp] theorem State.frmHigh_port :
    (s.frmHigh).port = s.port := rfl
@[simp] theorem State.frmHigh_events :
    (s.frmHigh).events = s.events := rfl
@[simp] theorem State.frmHigh_pins :
    (s.frmHigh).pins = s.pins := rfl
@[simp] theorem State.frmHigh_pending :
    (s.frmHigh).pending = s.pending := rfl

/-! ### toTimingState -/

@[simp] theorem State.toTimingState_switch (st : TimingState) (n : Nat) :
    (s.toTimingState st n).switch = s.switch := rfl
@[simp] theorem State.toTimingState_manager (st : TimingState) (n : Nat) :
    (s.toTimingState st n).manager = s.manager := rfl
@[simp] theorem State.toTimingState_links (st : TimingState) (n : Nat) :
    (s.toTimingState st n).links = s.links := rfl
@[simp] theorem State.toTimingState_settings (st : TimingState) (n : Nat) :
    (s.toTimingState st n).settings = s.settings := rfl
@[simp] theorem State.toTimingState_referrals (st : TimingState) (n : Nat) :
    (s.toTimingState st n).referrals = s.referrals := rfl
@[simp] theorem State.toTimingState_mailbox (st : TimingState) (n : Nat) :
    (s.toTimingState st n).mailbox = s.mailbox := rfl
@[simp] theorem State.toTimingState_port (st : TimingState) (n : Nat) :
    (s.toTimingState st n).port = s.port := rfl
@[simp] theorem State.toTimingState_pins (st : TimingState) (n : Nat) :
    (s.toTimingState st n).pins = s.pins := rfl
@[simp] theorem State.toTimingState_pending (st : TimingState) (n : Nat) :
    (s.toTimingState st n).pending = s.pending := rfl

/-! ### setTimeouts -/

@[simp] theorem State.setTimeouts_timing (ts : List Timeout) :
    (s.setTimeouts ts).timing = s.timing := rfl
@[simp] theorem State.setTimeouts_switch (ts : List Timeout) :
    (s.setTimeouts ts).switch = s.switch := rfl
@[simp] theorem State.setTimeouts_links (ts : List Timeout) :
    (s.setTimeouts ts).links = s.links := rfl
@[simp] theorem State.setTimeouts_settings (ts : List Timeout) :
    (s.setTimeouts ts).settings = s.settings := rfl
@[simp] theorem State.setTimeouts_referrals (ts : List Timeout) :
    (s.setTimeouts ts).referrals = s.referrals := rfl
@[simp] theorem State.setTimeouts_mailbox (ts : List Timeout) :
    (s.setTimeouts ts).mailbox = s.mailbox := rfl
@[simp] theorem State.setTimeouts_port (ts : List Timeout) :
    (s.setTimeouts ts).port = s.port := rfl
@[simp] theorem State.setTimeouts_events (ts : List Timeout) :
    (s.setTimeouts ts).events = s.events := rfl
@[simp] theorem State.setTimeouts_pins (ts : List Timeout) :
    (s.setTimeouts ts).pins = s.pins := rfl
@[simp] theorem State.setTimeouts_pending (ts : List Timeout) :
    (s.setTimeouts ts).pending = s.pending := rfl
@[simp] theorem State.setTimeouts_manager_table (ts : List Timeout) :
    (s.setTimeouts ts).manager.table = s.manager.table := rfl
@[simp] theorem State.setTimeouts_manager_map (ts : List Timeout) :
    (s.setTimeouts ts).manager.map = s.manager.map := rfl
@[simp] theorem State.setTimeouts_manager_queue (ts : List Timeout) :
    (s.setTimeouts ts).manager.queue = s.manager.queue := rfl
@[simp] theorem State.setTimeouts_manager_program (ts : List Timeout) :
    (s.setTimeouts ts).manager.program = s.manager.program := rfl
@[simp] theorem State.setTimeouts_manager_reach (ts : List Timeout) :
    (s.setTimeouts ts).manager.reach = s.manager.reach := rfl
@[simp] theorem State.setTimeouts_manager_divider (ts : List Timeout) :
    (s.setTimeouts ts).manager.divider = s.manager.divider := rfl
@[simp] theorem State.setTimeouts_manager_attentionCount (ts : List Timeout) :
    (s.setTimeouts ts).manager.attentionCount = s.manager.attentionCount := rfl
@[simp] theorem State.setTimeouts_manager_frame (ts : List Timeout) :
    (s.setTimeouts ts).manager.frame = s.manager.frame := rfl
@[simp] theorem State.setTimeouts_manager_applicationDue (ts : List Timeout) :
    (s.setTimeouts ts).manager.applicationDue = s.manager.applicationDue := rfl
@[simp] theorem State.setTimeouts_manager_tickDue (ts : List Timeout) :
    (s.setTimeouts ts).manager.tickDue = s.manager.tickDue := rfl

/-! ### countBit -/

@[simp] theorem State.countBit_switch :
    (s.countBit).switch = s.switch := rfl
@[simp] theorem State.countBit_manager :
    (s.countBit).manager = s.manager := rfl
@[simp] theorem State.countBit_links :
    (s.countBit).links = s.links := rfl
@[simp] theorem State.countBit_settings :
    (s.countBit).settings = s.settings := rfl
@[simp] theorem State.countBit_referrals :
    (s.countBit).referrals = s.referrals := rfl
@[simp] theorem State.countBit_mailbox :
    (s.countBit).mailbox = s.mailbox := rfl
@[simp] theorem State.countBit_port :
    (s.countBit).port = s.port := rfl
@[simp] theorem State.countBit_events :
    (s.countBit).events = s.events := rfl
@[simp] theorem State.countBit_pins :
    (s.countBit).pins = s.pins := rfl
@[simp] theorem State.countBit_pending :
    (s.countBit).pending = s.pending := rfl

/-! ### stopFrames -/

@[simp] theorem State.stopFrames_manager (n : Nat) :
    (s.stopFrames n).manager = s.manager := rfl
@[simp] theorem State.stopFrames_links (n : Nat) :
    (s.stopFrames n).links = s.links.map Link.endFrame := rfl
@[simp] theorem State.stopFrames_settings (n : Nat) :
    (s.stopFrames n).settings = s.settings := rfl
@[simp] theorem State.stopFrames_referrals (n : Nat) :
    (s.stopFrames n).referrals = s.referrals := rfl
@[simp] theorem State.stopFrames_mailbox (n : Nat) :
    (s.stopFrames n).mailbox = s.mailbox := rfl
@[simp] theorem State.stopFrames_port (n : Nat) :
    (s.stopFrames n).port = s.port := rfl
@[simp] theorem State.stopFrames_pins (n : Nat) :
    (s.stopFrames n).pins = s.pins := rfl
@[simp] theorem State.stopFrames_pending (n : Nat) :
    (s.stopFrames n).pending = s.pending := rfl

/-! ### withSfm -/

@[simp] theorem State.withSfm_timing (b : Bool) :
    (s.withSfm b).timing = s.timing := rfl
@[simp] theorem State.withSfm_switch (b : Bool) :
    (s.withSfm b).switch = s.switch := rfl
@[simp] theorem State.withSfm_manager (b : Bool) :
    (s.withSfm b).manager = s.manager := rfl
@[simp] theorem State.withSfm_links (b : Bool) :
    (s.withSfm b).links = s.links := rfl
@[simp] theorem State.withSfm_settings (b : Bool) :
    (s.withSfm b).settings = s.settings := rfl
@[simp] theorem State.withSfm_referrals (b : Bool) :
    (s.withSfm b).referrals = s.referrals := rfl
@[simp] theorem State.withSfm_mailbox (b : Bool) :
    (s.withSfm b).mailbox = s.mailbox := rfl
@[simp] theorem State.withSfm_port (b : Bool) :
    (s.withSfm b).port = s.port := rfl
@[simp] theorem State.withSfm_events (b : Bool) :
    (s.withSfm b).events = s.events := rfl
@[simp] theorem State.withSfm_pending (b : Bool) :
    (s.withSfm b).pending = s.pending := rfl

/-! ### handFrame -/

@[simp] theorem State.handFrame_timing (b e : Bool) (rx : LineOctets) :
    (s.handFrame b e rx).timing = s.timing := rfl
@[simp] theorem State.handFrame_settings (b e : Bool) (rx : LineOctets) :
    (s.handFrame b e rx).settings = s.settings := rfl
@[simp] theorem State.handFrame_referrals (b e : Bool) (rx : LineOctets) :
    (s.handFrame b e rx).referrals = s.referrals := rfl
@[simp] theorem State.handFrame_mailbox (b e : Bool) (rx : LineOctets) :
    (s.handFrame b e rx).mailbox = s.mailbox := rfl
@[simp] theorem State.handFrame_port (b e : Bool) (rx : LineOctets) :
    (s.handFrame b e rx).port = s.port := rfl
@[simp] theorem State.handFrame_events (b e : Bool) (rx : LineOctets) :
    (s.handFrame b e rx).events = s.events := rfl
@[simp] theorem State.handFrame_pins (b e : Bool) (rx : LineOctets) :
    (s.handFrame b e rx).pins = s.pins := rfl
@[simp] theorem State.handFrame_pending (b e : Bool) (rx : LineOctets) :
    (s.handFrame b e rx).pending = s.pending := rfl
@[simp] theorem State.handFrame_manager_table (b e : Bool) (rx : LineOctets) :
    (s.handFrame b e rx).manager.table = s.manager.table := rfl
@[simp] theorem State.handFrame_manager_map (b e : Bool) (rx : LineOctets) :
    (s.handFrame b e rx).manager.map = s.manager.map := rfl
@[simp] theorem State.handFrame_manager_queue (b e : Bool) (rx : LineOctets) :
    (s.handFrame b e rx).manager.queue = s.manager.queue := rfl
@[simp] theorem State.handFrame_manager_program (b e : Bool) (rx : LineOctets) :
    (s.handFrame b e rx).manager.program = s.manager.program := rfl
@[simp] theorem State.handFrame_manager_reach (b e : Bool) (rx : LineOctets) :
    (s.handFrame b e rx).manager.reach = s.manager.reach := rfl
@[simp] theorem State.handFrame_manager_divider (b e : Bool) (rx : LineOctets) :
    (s.handFrame b e rx).manager.divider = s.manager.divider := rfl
@[simp] theorem State.handFrame_manager_attentionCount (b e : Bool) (rx : LineOctets) :
    (s.handFrame b e rx).manager.attentionCount = s.manager.attentionCount := rfl
@[simp] theorem State.handFrame_manager_tickDue (b e : Bool) (rx : LineOctets) :
    (s.handFrame b e rx).manager.tickDue = s.manager.tickDue := rfl
@[simp] theorem State.handFrame_manager_timeouts (b e : Bool) (rx : LineOctets) :
    (s.handFrame b e rx).manager.timeouts = s.manager.timeouts := rfl

end Sys2Proof.Machine
end

