-- ==== Sys2Proof/Laws/Ops.lean ====
section
/-! SUPPORT. What each shared operation can do, said once: reading a table after a write to it, the
position map and the egress program after an update, attention, the entries into FREE and RETIRED,
the change queue, and the messages handed to a link. -/

namespace Sys2Proof.Machine

/-! ## Tables -/

theorem getElem_updateFrom {α : Type} (f : Nat → α → α) (l : List α) :
    ∀ (i j : Nat) (h : j < l.length),
      (updateFrom f i l)[j]'(by rw [length_updateFrom]; exact h) = f (i + j) l[j] := by
  induction l with
  | nil => intro i j h; simp at h
  | cons a rest ih =>
    intro i j h
    cases j with
    | zero => rfl
    | succ j =>
      have h' : j < rest.length := by simpa using h
      have := ih (i + 1) j h'
      simp only [updateFrom, List.getElem_cons_succ]
      rw [this]
      congr 1
      omega

/-- An element of a table after an update of every element. -/
@[simp] theorem getElem_updateAll {α : Type} {n : Nat} (v : Vector α n) (f : Nat → α → α) (j : Nat)
    (h : j < n) : (updateAll v f)[j] = f j v[j] := by
  have := getElem_updateFrom f v.toList 0 j (by simpa using h)
  simpa [updateAll, Vector.getElem_toList] using this

variable (s : State)

@[simp] theorem State.record_setRecord (i j : RecNo) (r : Record) :
    (s.setRecord i r).record j = if i = j then r else s.record j := by
  simp only [State.record, State.setRecord]
  split
  · rename_i h; subst h; exact Vector.getElem_set_self (hi := i.isLt)
  · rename_i h
    exact Vector.getElem_set_ne (hi := i.isLt) (hj := j.isLt) (fun e => h (Fin.ext e))

@[simp] theorem State.link_setLink (k j : LinkNo) (l : Link) :
    (s.setLink k l).link j = if k = j then l else s.link j := by
  simp only [State.link, State.setLink]
  split
  · rename_i h; subst h; exact Vector.getElem_set_self (hi := k.isLt)
  · rename_i h
    exact Vector.getElem_set_ne (hi := k.isLt) (hj := j.isLt) (fun e => h (Fin.ext e))

@[simp] theorem State.referral_setReferral (k j : LinkNo) (r : Option Referral) :
    (s.setReferral k r).referral j = if k = j then r else s.referral j := by
  simp only [State.referral, State.setReferral]
  split
  · rename_i h; subst h; exact Vector.getElem_set_self (hi := k.isLt)
  · rename_i h
    exact Vector.getElem_set_ne (hi := k.isLt) (hj := j.isLt) (fun e => h (Fin.ext e))

/-- Two states with one table have the same records. -/
theorem State.record_congr {s t : State} (h : t.manager.table = s.manager.table) (i : RecNo) :
    t.record i = s.record i := by
  simp only [State.record, h]

/-- Two states with the same channels have the same links. -/
theorem State.link_congr {s t : State} (h : t.links = s.links) (k : LinkNo) :
    t.link k = s.link k := by
  simp only [State.link, h]

/-- Two states with one map have the same entries. -/
theorem State.entry_congr {s t : State} (h : t.manager.map = s.manager.map) (p : Plane)
    (l q : Nat) : t.entry p l q = s.entry p l q := by
  simp only [State.entry, h]

/-- Two states with one egress program have the same program entries. -/
theorem State.programEntry_congr {s t : State} (h : t.manager.program = s.manager.program)
    (l q : Nat) : t.programEntry l q = s.programEntry l q := by
  simp only [State.programEntry, h]

/-! ## The position map and the egress program -/

theorem positionPlace_lt {p : Plane} {l q : Nat} (hl : l < 8) (hq : q < 40) :
    positionPlace p l q < 640 := by
  cases p <;> simp only [positionPlace, Config.slotsPerFrame] <;> omega

theorem placePlane_positionPlace {p : Plane} {l q : Nat} (hl : l < 8) (hq : q < 40) :
    placePlane (positionPlace p l q) = p := by
  cases p <;> simp only [positionPlace, Config.slotsPerFrame, placePlane]
  · exact if_pos (by omega)
  · exact if_neg (by omega)

theorem positionPlace_link {p : Plane} {l q : Nat} (hl : l < 8) (hq : q < 40) :
    positionPlace p l q % 320 / 40 = l := by
  cases p <;> simp only [positionPlace, Config.slotsPerFrame] <;> omega

theorem positionPlace_slot {p : Plane} {l q : Nat} (hq : q < 40) :
    positionPlace p l q % 40 = q := by
  cases p <;> simp only [positionPlace, Config.slotsPerFrame] <;> omega

/-- The entry of a position within the part, as an element of the map. -/
theorem State.entry_eq {p : Plane} {l q : Nat} (hl : l < 8) (hq : q < 40) :
    s.entry p l q = s.manager.map[positionPlace p l q]'(positionPlace_lt hl hq) := by
  simp only [State.entry, Config.slotsPerFrame, hl, hq, and_self, if_true,
    Vector.getElem?_eq_getElem (positionPlace_lt hl hq), Option.getD_some]

/-- Outside the part every entry reads FIXED. -/
theorem State.entry_outside {p : Plane} {l q : Nat} (h : ¬(l < 8 ∧ q < 40)) :
    s.entry p l q = .fixed := by
  simp [State.entry, Config.slotsPerFrame, h]

/-- An entry of the map after an update of every entry. -/
theorem State.entry_updateMap (f : Plane → Nat → Nat → PosEntry → PosEntry) {p : Plane} {l q : Nat}
    (hl : l < 8) (hq : q < 40) :
    (s.updateMap f).entry p l q = f p l q (s.entry p l q) := by
  rw [State.entry_eq _ hl hq, State.entry_eq _ hl hq]
  simp only [State.updateMap, getElem_updateAll]
  rw [placePlane_positionPlace hl hq, positionPlace_link hl hq, positionPlace_slot hq]

theorem programPlace_lt {l q : Nat} (hl : l < 8) (hq : q < 38) : 38 * l + q < 304 := by omega

/-- The program entry of a bearer position, as an element of the program. -/
theorem State.programEntry_eq {l q : Nat} (hl : l < 8) (hq : q < 38) :
    s.programEntry l q = s.manager.program[38 * l + q]'(programPlace_lt hl hq) := by
  simp only [State.programEntry, Config.bearerSlots, hl, hq, and_self, if_true,
    Vector.getElem?_eq_getElem (programPlace_lt hl hq), Option.getD_some]

/-- An entry of the egress program after an update of every entry. -/
theorem State.programEntry_updateProgram (f : Nat → Nat → ProgramEntry → ProgramEntry) {l q : Nat}
    (hl : l < 8) (hq : q < 38) :
    (s.updateProgram f).programEntry l q = f l q (s.programEntry l q) := by
  rw [State.programEntry_eq _ hl hq, State.programEntry_eq _ hl hq]
  simp only [State.updateProgram, getElem_updateAll]
  rw [show (38 * l + q) / 38 = l by omega, show (38 * l + q) % 38 = q by omega]

/-- Claiming makes OPEN positions JOINING, and no other change to the map (R19). -/
theorem State.entry_claim (i : RecNo) (picks : Plane → Nat → Nat → Bool) {p : Plane} {l q : Nat}
    (hl : l < 8) (hq : q < 40) :
    (s.claim i picks).entry p l q =
      if s.entry p l q = .openPos ∧ picks p l q then .claimed i .joining else s.entry p l q :=
  State.entry_updateMap s _ hl hq

/-- A change of phase touches the claims of one record in one phase alone (R19). -/
theorem State.entry_rephase (i : RecNo) (picks : Plane → Nat → Nat → Bool) (old : Phase)
    (new : PosEntry) {p : Plane} {l q : Nat} (hl : l < 8) (hq : q < 40) :
    (s.rephase i picks old new).entry p l q =
      if s.entry p l q = .claimed i old ∧ picks p l q then new else s.entry p l q :=
  State.entry_updateMap s _ hl hq

/-- A release opens the claims of one record alone (R11, R12). -/
theorem State.entry_releaseClaims (i : RecNo) {p : Plane} {l q : Nat} (hl : l < 8) (hq : q < 40) :
    (s.releaseClaims i).entry p l q =
      match s.entry p l q with
      | .claimed j ph => if j = i then .openPos else .claimed j ph
      | e => e := by
  rw [State.releaseClaims, State.entry_updateMap s _ hl hq]
  cases s.entry p l q <;> rfl

/-- The program entries of a group follow the source; no other entry changes (R63). -/
theorem State.programEntry_programGroup (g : Group) (width : Nat) (src : Option Source) {l q : Nat}
    (hl : l < 8) (hq : q < 38) :
    (s.programGroup g width src).programEntry l q =
      if inGroup g width l q then sourceEntry src (q - g.slot) else s.programEntry l q :=
  State.programEntry_updateProgram s _ hl hq

/-- The program entries of a group go to NONE; no other entry changes (R65). -/
theorem State.programEntry_clearGroup (g : Group) (width : Nat) {l q : Nat} (hl : l < 8)
    (hq : q < 38) :
    (s.clearGroup g width).programEntry l q =
      if inGroup g width l q then .noEntry else s.programEntry l q :=
  State.programEntry_updateProgram s _ hl hq

/-! ## Attention, FREE and RETIRED -/

/-- Attention is set on one record; every other field of every record is kept (R14). -/
theorem State.record_setAttention (i j : RecNo) :
    (s.setAttention i).record j =
      if i = j then { s.record j with attention := true } else s.record j := by
  unfold State.setAttention
  split
  · rename_i h
    split
    · rename_i hij
      subst hij
      cases hr : s.record i
      simp [hr] at h
      simp [h]
    · rfl
  · refine (State.record_congr (s := s.setRecord i { s.record i with attention := true })
      rfl j).trans ?_
    simp only [State.record_setRecord]
    split
    · rename_i hij; subst hij; rfl
    · rfl

/-- Attention is cleared on one record; every other field of every record is kept (R15). -/
theorem State.record_clearAttention (i j : RecNo) :
    (s.clearAttention i).record j =
      if i = j then { s.record j with attention := false } else s.record j := by
  unfold State.clearAttention
  split
  · refine (State.record_congr (s := s.setRecord i { s.record i with attention := false })
      rfl j).trans ?_
    simp only [State.record_setRecord]
    split
    · rename_i hij; subst hij; rfl
    · rfl
  · rename_i h
    split
    · rename_i hij
      subst hij
      cases hr : s.record i
      simp [hr] at h
      simp [h]
    · rfl

/-- Setting attention: what it writes beside the record (R14). -/
theorem State.setAttention_eq (i : RecNo) :
    s.setAttention i = { s with
      manager := { s.manager with
        table := (s.setAttention i).manager.table
        attentionCount := s.manager.attentionCount + if (s.record i).attention then 0 else 1 }
      events := { s.events with
        flags := if (s.record i).attention then s.events.flags
          else s.events.flags ||| flagBit attentionEvent } } := by
  unfold State.setAttention
  split <;> simp_all [State.raise, State.setRecord]

/-- Clearing attention: what it writes beside the record (R15). -/
theorem State.clearAttention_eq (i : RecNo) :
    s.clearAttention i = { s with
      manager := { s.manager with
        table := (s.clearAttention i).manager.table
        attentionCount := s.manager.attentionCount - if (s.record i).attention then 1 else 0 } } := by
  unfold State.clearAttention
  split <;> simp_all [State.setRecord]

/-- Entry into FREE: every field of the record but its generation is as in a FREE record (R11). -/
theorem State.record_freeRecord (i j : RecNo) :
    (s.freeRecord i).record j =
      if i = j then { generation := (s.record i).generation } else s.record j := by
  have h : ∀ j, ((s.releaseClaims i).clearAttention i).record j =
      if i = j then { s.record j with attention := false } else s.record j := by
    intro j
    rw [State.record_clearAttention]
    rfl
  simp only [State.freeRecord, State.record_setRecord, h]
  split <;> simp_all

/-- Entry into RETIRED: the fields that R12 names are written, the others kept. -/
theorem State.record_retireRecord (i j : RecNo) (cause : RetireCause) :
    (s.retireRecord i cause).record j =
      if i = j then
        { s.record i with
          state := .retired, staged := none, retireCause := some cause, attention := true }
      else s.record j := by
  have h : ∀ j, (s.releaseClaims i).record j = s.record j := fun j => State.record_congr rfl j
  simp only [State.retireRecord, State.record_setAttention, State.record_setRecord, h]
  split <;> simp_all

/-! ## The change queue -/

/-- Staging a change, in full (R58, R59). -/
theorem State.stage_eq (i : RecNo) (ch : Change) (cu : Cutover) (ca : Cause) :
    s.stage i ch cu ca = { s with manager := { s.manager with
      table := s.manager.table.set i { s.record i with staged := some ⟨ch, cu, ca⟩ }
      queue := s.manager.queue ++ [⟨i, ch.kind, cu, s.timing.tally, false⟩] } } := rfl

@[simp] theorem State.queue_stage (i : RecNo) (ch : Change) (cu : Cutover) (ca : Cause) :
    (s.stage i ch cu ca).manager.queue =
      s.manager.queue ++ [⟨i, ch.kind, cu, s.timing.tally, false⟩] := rfl

/-- Deferred staging of one record: it waits, the queue has room, and it goes to CLOSING; or nothing is
done (R75). -/
theorem State.serveWaiting_one :
    s.serveWaiting 1 = s ∨
      ∃ i, s.queueHasRoom = true ∧ s.firstRecord Record.waits = some i
        ∧ s.serveWaiting 1 = s.stageExpiry i := by
  simp only [State.serveWaiting]
  split
  · rename_i hroom
    split
    · rename_i i hi
      exact .inr ⟨i, hroom, hi, rfl⟩
    · exact .inl rfl
  · exact .inl rfl

/-- Deferred staging never takes the queue past its room (R57, R75). -/
theorem State.serveWaiting_bounded (n : Nat) :
    ∀ s : State, s.QueueBounded → (s.serveWaiting n).QueueBounded := by
  induction n with
  | zero => intro s h; exact h
  | succ n ih =>
    intro s h
    simp only [State.serveWaiting]
    split
    · rename_i hroom
      split
      · rename_i i hi
        refine ih _ ?_
        simp only [State.queueHasRoom, decide_eq_true_eq] at hroom
        simp only [State.QueueBounded, State.stageExpiry, State.setRecord_manager_queue,
          State.queue_stage, State.rephase, State.updateMap_manager_queue, List.length_append,
          List.length_singleton]
        omega
      · exact h
    · exact h

/-! ## The mailbox -/

/-- A completion of the mailbox, in full (R183). -/
theorem State.complete_eq (c : OutcomeCode) :
    s.complete c = { s with
      mailbox := { s.mailbox with
        outcome := c
        sequence := s.mailbox.sequence + 1
        refusedWrite := false
        awaiting := false }
      events := { s.events with flags := s.events.flags ||| flagBit mailboxEvent } } := rfl

/-- Taking a command: it is refused in AWAITING, and answered in READY (R181, R182, R186). -/
theorem State.takeCommand_cases (code : BitVec 7) (await : Bool) (body : State → Answer × State) :
    (s.mailbox.awaiting = true ∧ s.takeCommand code await body = s.refuseWrite) ∨
      (s.mailbox.awaiting = false ∧ s.takeCommand code await body =
        (body (s.noteCommand code await)).2.finishCommand await
          (body (s.noteCommand code await)).1) := by
  unfold State.takeCommand
  split <;> simp_all

/-- An answer that staged nothing completes the mailbox at once (R182). -/
theorem State.finishCommand_none (await : Bool) (c : OutcomeCode) (v : Vector Byte 24) :
    s.finishCommand await ⟨c, v, none⟩ = (s.setResponse v).complete c := rfl

/-! ## Messages to a link -/

/-- A RESULT leaves no request in process, unless it is held for want of room (R155). -/
theorem Link.placeResult_cases (msg : List Byte) (l : Link) :
    (l.hasSession = false ∧ l.placeResult msg = { l with inProcess := none }) ∨
      (l.hasSession = true ∧ l.outbound.length < 4
        ∧ l.placeResult msg = { l with outbound := l.outbound ++ [msg], inProcess := none }) ∨
      (l.hasSession = true ∧ 4 ≤ l.outbound.length ∧ l.placeResult msg =
        { l with inProcess := l.inProcess.map fun q => { q with phase := .held msg } }) := by
  unfold Link.placeResult Config.outboundRoom
  by_cases h : l.hasSession <;> by_cases g : l.outbound.length < 4 <;> simp_all

/-- A notice reaches one link alone; the state of every other block but the Event Unit is kept (R160,
R162). -/
theorem State.notify_eq (k : LinkNo) (n : Notice) (x g : Byte) :
    s.notify k n x g = { s with
      links := (s.notify k n x g).links
      events := { s.events with flags := (s.notify k n x g).events.flags } } := by
  unfold State.notify
  dsimp only
  split
  · split <;> rfl
  · rfl

/-- What a notice does to its link (R160, R162, R163). -/
theorem State.link_notify (k j : LinkNo) (n : Notice) (x g : Byte) :
    (s.notify k n x g).link j =
      if k = j then
        if (s.link k).hasSession then
          if (s.link k).outbound.length < 4 then
            { s.link k with
              noticeCount := (s.link k).noticeCount + 1
              outbound := (s.link k).outbound ++ [n.message (s.link k).noticeCount x g] }
          else { s.link k with noticeCount := (s.link k).noticeCount + 1, noticeLost := true }
        else { s.link k with noticeLost := true }
      else s.link j := by
  unfold State.notify Config.outboundRoom
  by_cases h : (s.link k).hasSession <;> by_cases g : (s.link k).outbound.length < 4 <;>
    simp only [h, g, Bool.false_eq_true, if_true, if_false] <;>
    exact State.link_setLink s k j _

/-! ## What a frame start has handed on -/

/-- With no application step and no lease tick outstanding there is nothing to catch up with. -/
theorem State.settle_idle (ha : s.manager.applicationDue = false) (ht : s.manager.tickDue = false) :
    s.settle = s := by
  simp [State.settle, State.takeApplication, State.takeTick, ha, ht]

/-- With no timeout outstanding none is taken. -/
theorem State.takeTimeouts_idle (h : s.manager.timeouts = []) : s.takeTimeouts = s := by
  obtain ⟨ti, sw, m, l, se, r, mb, p, e, pi, pe⟩ := s
  obtain ⟨tb, mp, q, pr, re, d, ac, f, ad, td, tms⟩ := m
  cases h
  rfl

/-- With nothing outstanding an entry into ACQUIRING stops the frames and does nothing else. -/
theorem State.enterAcquiring_idle (h : s.NothingOutstanding) (n : Nat) :
    s.enterAcquiring n = s.stopFrames n := by
  rw [State.enterAcquiring, State.settle_idle s h.1 h.2.1, State.takeTimeouts_idle s h.2.2]

theorem State.timeouts_freeRecord (i : RecNo) :
    (s.freeRecord i).manager.timeouts = s.manager.timeouts := by
  unfold State.freeRecord State.clearAttention
  dsimp only
  split <;> rfl

theorem State.manager_answerLine (k : LinkNo) (r : Reply) :
    (s.answerLine k r).manager = s.manager := by
  unfold State.answerLine
  split <;> rfl

theorem State.timeouts_timeOut (t : Timeout) :
    (s.timeOut t).manager.timeouts = s.manager.timeouts := by
  unfold State.timeOut
  split
  · split
    · simp only [State.denyReferral, State.setReferral_manager, State.manager_answerLine,
        State.timeouts_freeRecord]
    · rfl
  · rfl

/-- After every timeout has been taken none is outstanding. -/
theorem State.timeouts_takeTimeouts : s.takeTimeouts.manager.timeouts = [] := by
  have h : ∀ (l : List Timeout) (u : State),
      (l.foldl State.timeOut u).manager.timeouts = u.manager.timeouts := by
    intro l
    induction l with
    | nil => intro u; rfl
    | cons a rest ih => intro u; rw [List.foldl_cons, ih, State.timeouts_timeOut]
  exact h _ _

/-! ## The pair of a frame -/

/-- Where the frame before had no arrival, a frame start presents the pair as it stands (R86). -/
theorem Link.presented_beginFrame (l : Link) (h : l.arrived = false) :
    l.beginFrame.presented = l.pairNow := by
  simp [Link.beginFrame, h]

/-- Where frames have stopped, the frame that resumes carries the pair as it stands (R86, R147). -/
theorem Link.beginFrame_endFrame (l : Link) : l.endFrame.beginFrame.presented = l.pairNow := rfl

/-- Entry into ACQUIRING leaves no channel with an arrival, and the rest of it as it was. -/
theorem State.link_stopFrames (n : Nat) (k : LinkNo) :
    (s.stopFrames n).link k = { s.link k with arrived := false } := by
  simp [State.link, Link.endFrame]

/-! ## Stopping and starting a link -/

/-- Where the host or a control-plane reset stops or starts a channel, its pair of the next frame is FFh
in both octets, provided the channel as it then stands presents FFh (R130). -/
theorem Link.beginFrame_cutPair (l : Link) (h : l.pairNow.channel = 0xFF ∧ l.pairNow.handshake = 0xFF) :
    ({ l with presented := l.cutPair }.beginFrame).presented.channel = 0xFF
      ∧ ({ l with presented := l.cutPair }.beginFrame).presented.handshake = 0xFF := by
  unfold Link.beginFrame Link.cutPair
  by_cases ha : l.arrived
  · simp [ha]
  · simp only [ha, Bool.false_eq_true, if_false]
    exact h

/-! ## Read transactions -/

/-- What sending a data octet can do (R178, R196): nothing without a snapshot; with one, the octet at the
next address is sent, and the flag that EVENT_VECTOR names is cleared. -/
theorem State.sendOctet_cases :
    (s.port.snapshot = none ∧ s.sendOctet = s) ∨
      ∃ w, s.port.snapshot = some w ∧ s.sendOctet =
        if s.port.next = eventVectorAddress then
          (s.notePort w[s.port.next.toNat]).clearCode w[s.port.next.toNat]
        else s.notePort w[s.port.next.toNat] := by
  unfold State.sendOctet State.sentAt
  cases h : s.port.snapshot with
  | none => exact .inl ⟨rfl, rfl⟩
  | some w => exact .inr ⟨w, rfl, rfl⟩

end Sys2Proof.Machine
end

