-- ==== Sys2Proof/Laws/PerInstr.lean ====
section
/-! SUPPORT. A law of every command as syntax: the host write that spells a command, where one does, is
read back as that command (R179, R184; 13.6). -/

namespace Sys2Proof.Laws

/-- The address and the value of the host write that spells a command. None for a command that is no host
write, for a DENY, whose verdict stands in the request area, for a COMMAND_REFUSED, whose words are those
of the command refused, for a write of ENABLE alone, which no single write spells, and for a MASTER write
that cuts a frame short, whose octets come from the lines. -/
def spelling : Instr → Option (BitVec 7 × Byte)
  | .openCircuit await => some (0x18, BitVec.ofBool await ++ 0x01#7)
  | .add await => some (0x18, BitVec.ofBool await ++ 0x02#7)
  | .drop await => some (0x18, BitVec.ofBool await ++ 0x03#7)
  | .move await => some (0x18, BitVec.ofBool await ++ 0x04#7)
  | .release await => some (0x18, BitVec.ofBool await ++ 0x05#7)
  | .renew await => some (0x18, BitVec.ofBool await ++ 0x06#7)
  | .cancel await => some (0x18, BitVec.ofBool await ++ 0x07#7)
  | .adopt await => some (0x18, BitVec.ofBool await ++ 0x08#7)
  | .query await => some (0x18, BitVec.ofBool await ++ 0x09#7)
  | .locate await => some (0x18, BitVec.ofBool await ++ 0x0A#7)
  | .nextRecord await => some (0x18, BitVec.ofBool await ++ 0x0B#7)
  | .bar await => some (0x18, BitVec.ofBool await ++ 0x0C#7)
  | .unbar await => some (0x18, BitVec.ofBool await ++ 0x0D#7)
  | .readReferral await => some (0x18, BitVec.ofBool await ++ 0x0E#7)
  | .approve await => some (0x18, BitVec.ofBool await ++ 0x0F#7)
  | .setSuperframe await => some (0x18, BitVec.ofBool await ++ 0x10#7)
  | .undefinedCommand code await => some (0x18, BitVec.ofBool await ++ code)
  | .abandon => some (0x34, 1)
  | .cpReset => some (0x34, 2)
  | .writeMaster rx => if rx = List.replicate 8 [] then some (0x3B, 1) else none
  | .writeSlave => some (0x3B, 0)
  | .fillWrite k v => some (0x68 + BitVec.ofNat 7 k, v)
  | .eventFlagsWrite second v => some (if second then 0x36 else 0x35, v)
  | .eventEnableWrite second v => some (if second then 0x38 else 0x37, v)
  | .lostNoticeWrite v => some (0x49, v)
  | .registerWrite a v => some (a, v)
  | .deviceReset | .deny _ | .commandRefused _ _ | .writeEnable0 _ | .writeEnable1 _
  | .eventVectorRead _ | .frmPulse _ _ _ | .frameStart _ _ _ | .flywheelFrameStart _ _
  | .holdoverLimitExceeded _ _ | .applyDueChanges | .leaseTick | .leaseExpiry | .referralTimeout _
  | .controlSlotArrival _ _ _ | .presenceLoss _ _ _ | .acknowledgeTimeout _ _ _
  | .assemblyTimeout _ _ _ | .lineOpen _ | .lineAdd _ | .lineDrop _ | .lineRelease _
  | .lineRenew _ | .status _ | .heldResultEntry _ _ _ => none

/-- The host write that spells a well-formed command is read back as it. -/
def HostSpelling.Statement (i : Instr) : Prop :=
  i.wellFormed = true → ∀ w ∈ spelling i, Decode.hostWrite w.1 w.2 = i

namespace HostSpelling

theorem deviceReset : Statement (.deviceReset) := by
  intro _ w hw; cases hw

theorem openCircuit (await : Bool) : Statement (.openCircuit await) := by
  cases await <;> (intro _ w hw; cases hw; rfl)

theorem add (await : Bool) : Statement (.add await) := by
  cases await <;> (intro _ w hw; cases hw; rfl)

theorem drop (await : Bool) : Statement (.drop await) := by
  cases await <;> (intro _ w hw; cases hw; rfl)

theorem move (await : Bool) : Statement (.move await) := by
  cases await <;> (intro _ w hw; cases hw; rfl)

theorem release (await : Bool) : Statement (.release await) := by
  cases await <;> (intro _ w hw; cases hw; rfl)

theorem renew (await : Bool) : Statement (.renew await) := by
  cases await <;> (intro _ w hw; cases hw; rfl)

theorem cancel (await : Bool) : Statement (.cancel await) := by
  cases await <;> (intro _ w hw; cases hw; rfl)

theorem adopt (await : Bool) : Statement (.adopt await) := by
  cases await <;> (intro _ w hw; cases hw; rfl)

theorem query (await : Bool) : Statement (.query await) := by
  cases await <;> (intro _ w hw; cases hw; rfl)

theorem locate (await : Bool) : Statement (.locate await) := by
  cases await <;> (intro _ w hw; cases hw; rfl)

theorem nextRecord (await : Bool) : Statement (.nextRecord await) := by
  cases await <;> (intro _ w hw; cases hw; rfl)

theorem bar (await : Bool) : Statement (.bar await) := by
  cases await <;> (intro _ w hw; cases hw; rfl)

theorem unbar (await : Bool) : Statement (.unbar await) := by
  cases await <;> (intro _ w hw; cases hw; rfl)

theorem readReferral (await : Bool) : Statement (.readReferral await) := by
  cases await <;> (intro _ w hw; cases hw; rfl)

theorem approve (await : Bool) : Statement (.approve await) := by
  cases await <;> (intro _ w hw; cases hw; rfl)

theorem deny (await : Bool) : Statement (.deny await) := by
  intro _ w hw; cases hw

theorem setSuperframe (await : Bool) : Statement (.setSuperframe await) := by
  cases await <;> (intro _ w hw; cases hw; rfl)

theorem undefinedCommand (code : BitVec 7) (await : Bool) : Statement (.undefinedCommand code await) := by
  intro h w hw
  cases hw
  have e : (BitVec.ofBool await ++ code).extractLsb' 0 7 = code := by
    revert await code; decide
  have e' : (BitVec.ofBool await ++ code).getLsbD 7 = await := by
    revert await code; decide
  change Decode.commandRow ((BitVec.ofBool await ++ code).extractLsb' 0 7)
    ((BitVec.ofBool await ++ code).getLsbD 7) = _
  rw [e, e']
  have hc : code.toNat = 0 ∨ 17 ≤ code.toNat := by
    simp only [Instr.wellFormed, undefinedCode, Bool.or_eq_true, beq_iff_eq, decide_eq_true_eq] at h
    rcases h with rfl | h
    · exact .inl rfl
    · exact .inr h
  unfold Decode.commandRow
  split <;> first | rfl | omega

theorem commandRefused (code : BitVec 7) (await : Bool) : Statement (.commandRefused code await) := by
  intro _ w hw; cases hw

theorem abandon : Statement (.abandon) := by
  intro _ w hw; cases hw; rfl

theorem cpReset : Statement (.cpReset) := by
  intro _ w hw; cases hw; rfl

theorem writeMaster (rx : LineOctets) : Statement (.writeMaster rx) := by
  intro _ w hw
  simp only [spelling] at hw
  split at hw
  · next h => cases hw; rw [h]; rfl
  · cases hw

theorem writeSlave : Statement (.writeSlave) := by
  intro _ w hw; cases hw; rfl

theorem writeEnable0 (k : LinkNo) : Statement (.writeEnable0 k) := by
  intro _ w hw; cases hw

theorem writeEnable1 (k : LinkNo) : Statement (.writeEnable1 k) := by
  intro _ w hw; cases hw

theorem fillWrite (k : LinkNo) (v : Byte) : Statement (.fillWrite k v) := by
  intro _ w hw
  cases hw
  have e : ∀ k : LinkNo, (0x68 + BitVec.ofNat 7 k).toNat = 0x68 + k.val
      ∧ Decode.bankLink (0x68 + BitVec.ofNat 7 k) = k := by decide
  have hk := k.isLt
  unfold Decode.hostWrite
  simp only [(e k).2]
  rw [(e k).1]
  split <;> first | omega | skip
  rw [if_pos (by omega)]

theorem eventFlagsWrite (second : Bool) (v : Byte) : Statement (.eventFlagsWrite second v) := by
  cases second <;> (intro _ w hw; cases hw; rfl)

theorem eventEnableWrite (second : Bool) (v : Byte) : Statement (.eventEnableWrite second v) := by
  cases second <;> (intro _ w hw; cases hw; rfl)

theorem eventVectorRead (part : ReadPart) : Statement (.eventVectorRead part) := by
  intro _ w hw; cases hw

theorem lostNoticeWrite (v : Byte) : Statement (.lostNoticeWrite v) := by
  intro _ w hw; cases hw; rfl

theorem registerWrite (a : BitVec 7) (v : Byte) : Statement (.registerWrite a v) := by
  intro h w hw
  cases hw
  simp only [Instr.wellFormed, hasRowOfItsOwn, Bool.not_eq_true', Bool.or_eq_false_iff,
    beq_eq_false_iff_ne, Bool.and_eq_false_iff, decide_eq_false_iff_not] at h
  change Decode.hostWrite a v = _
  unfold Decode.hostWrite
  split <;> first | omega | skip
  split
  · omega
  · rfl

theorem frmPulse (position : Nat) (sfm : Bool) (rx : LineOctets) : Statement (.frmPulse position sfm rx) := by
  intro _ w hw; cases hw

theorem frameStart (pulse sfm : Bool) (rx : LineOctets) : Statement (.frameStart pulse sfm rx) := by
  intro _ w hw; cases hw

theorem flywheelFrameStart (sfm : Bool) (rx : LineOctets) : Statement (.flywheelFrameStart sfm rx) := by
  intro _ w hw; cases hw

theorem holdoverLimitExceeded (sfm : Bool) (rx : LineOctets) : Statement (.holdoverLimitExceeded sfm rx) := by
  intro _ w hw; cases hw

theorem applyDueChanges : Statement (.applyDueChanges) := by
  intro _ w hw; cases hw

theorem leaseTick : Statement (.leaseTick) := by
  intro _ w hw; cases hw

theorem leaseExpiry : Statement (.leaseExpiry) := by
  intro _ w hw; cases hw

theorem referralTimeout (k : LinkNo) : Statement (.referralTimeout k) := by
  intro _ w hw; cases hw

theorem controlSlotArrival (k : LinkNo) (chan hs : Byte) : Statement (.controlSlotArrival k chan hs) := by
  intro _ w hw; cases hw

theorem presenceLoss (k : LinkNo) (chan hs : Byte) : Statement (.presenceLoss k chan hs) := by
  intro _ w hw; cases hw

theorem acknowledgeTimeout (k : LinkNo) (chan hs : Byte) : Statement (.acknowledgeTimeout k chan hs) := by
  intro _ w hw; cases hw

theorem assemblyTimeout (k : LinkNo) (chan hs : Byte) : Statement (.assemblyTimeout k chan hs) := by
  intro _ w hw; cases hw

theorem lineOpen (k : LinkNo) : Statement (.lineOpen k) := by
  intro _ w hw; cases hw

theorem lineAdd (k : LinkNo) : Statement (.lineAdd k) := by
  intro _ w hw; cases hw

theorem lineDrop (k : LinkNo) : Statement (.lineDrop k) := by
  intro _ w hw; cases hw

theorem lineRelease (k : LinkNo) : Statement (.lineRelease k) := by
  intro _ w hw; cases hw

theorem lineRenew (k : LinkNo) : Statement (.lineRenew k) := by
  intro _ w hw; cases hw

theorem status (k : LinkNo) : Statement (.status k) := by
  intro _ w hw; cases hw

theorem heldResultEntry (k : LinkNo) (chan hs : Byte) : Statement (.heldResultEntry k chan hs) := by
  intro _ w hw; cases hw

end HostSpelling

end Sys2Proof.Laws
end

