-- ==== Sys2Proof/Laws/Requests.lean ====
section
/-! SUPPORT. Taking a circuit request, said once: what the checks of an accepted request are, which
record it is accepted on, and how the mailbox answers it. -/

namespace Sys2Proof.Machine

variable (s : State)

/-- No check fails exactly when each of them passes (R27). -/
theorem firstFailure_eq_none (l : List (Option OutcomeCode)) :
    firstFailure l = none ↔ ∀ c ∈ l, c = none := by
  simp [firstFailure, List.findSome?_eq_none_iff]

@[simp] theorem failIf_eq_none (b : Bool) (c : OutcomeCode) : failIf b c = none ↔ b = false := by
  cases b <;> simp [failIf]

theorem recordOf_eq (v : Byte) (i : RecNo) (h : v.toNat = i.val) : recordOf v = some i := by
  have hi : v.toNat < 192 := h ▸ i.isLt
  simp only [recordOf, hi, dif_pos, Option.some.injEq]
  exact Fin.ext h

theorem linkOf_eq (v : Byte) (k : LinkNo) (h : v.toNat = k.val) : linkOf v = some k := by
  have hk : v.toNat < 8 := h ▸ k.isLt
  simp only [linkOf, hk, dif_pos, Option.some.injEq]
  exact Fin.ext h

theorem indexOctet_eq (v : Byte) (i : RecNo) (h : v.toNat = i.val) : indexOctet i = v := by
  rw [indexOctet, octet, ← h]
  simp

/-- A known reference is looked up (R13, R29). -/
theorem State.lookup_of_names (index generation : Byte) (i : RecNo)
    (h : s.Names index generation i) : s.lookup index generation = some i := by
  obtain ⟨h1, h2, h3, h4⟩ := h
  simp [State.lookup, recordOf_eq index i h1, Record.known, h2, h3, h4]

/-- A request on a circuit that passes its checks is accepted on the record that it names (R27). -/
theorem State.decideOn_accept (index generation : Byte) (format : Option OutcomeCode)
    (checks : Record → List (Option OutcomeCode)) (accept : RecNo → Option RecNo × State)
    (i : RecNo) (hn : s.lookup index generation = some i) (hf : format = none)
    (hc : ∀ c ∈ checks (s.record i), c = none) :
    s.decideOn index generation format checks accept =
      ⟨(accept i).2.report i, (accept i).1, (accept i).2⟩ := by
  have : firstFailure (format :: checks (s.record i)) = none := by
    rw [firstFailure_eq_none]
    intro c hc'
    rcases List.mem_cons.mp hc' with rfl | h
    · exact hf
    · exact hc c h
  simp [State.decideOn, hn, this]

/-- A request on a circuit that is not accepted changes nothing (R27). -/
theorem State.decideOn_refuse (index generation : Byte) (format : Option OutcomeCode)
    (checks : Record → List (Option OutcomeCode)) (accept : RecNo → Option RecNo × State)
    (h : ∀ i, s.lookup index generation = some i →
      firstFailure (format :: checks (s.record i)) ≠ none) :
    (s.decideOn index generation format checks accept).after = s
      ∧ (s.decideOn index generation format checks accept).staged = none := by
  unfold State.decideOn
  split
  · exact ⟨rfl, rfl⟩
  · rename_i i hi
    have := h i hi
    split
    · exact ⟨rfl, rfl⟩
    · rename_i hn; exact absurd hn this

/-- The circuit-named check passes on a known reference where ownership and state allow it (R29). -/
theorem State.circuitCheck_pass (who : Requester) (q : Naming) (index generation : Byte) (i : RecNo)
    (hn : s.lookup index generation = some i) (ho : q.ownerCheck who (s.record i) = none)
    (hs : q.stateCheck (s.record i) = none) :
    s.circuitCheck who q index generation = none := by
  simp [State.circuitCheck, hn, firstFailure, ho, hs]

/-- The cutover check passes for a cutover that the distance rule allows (R34). -/
theorem State.cutoverCheck_pass (c : Cutover) (h : s.Allows c) :
    s.cutoverCheck (some c) = none := by
  cases c <;> simp_all [State.cutoverCheck, State.Allows, Config.farthestCutover]

/-- The queue-room check passes while the queue has room (R36). -/
theorem State.roomCheck_pass (h : s.HasRoom) : s.roomCheck = none := by
  have h' : s.manager.queue.length < 24 := h
  simp [State.roomCheck, State.queueHasRoom, Config.queueRoom, h']

/-- The barred-and-busy check passes on OPEN positions (R35). -/
theorem State.positionsCheck_pass (ps : List (Plane × Nat × Nat))
    (h : ∀ x ∈ ps, s.entry x.1 x.2.1 x.2.2 = .openPos) : s.positionsCheck ps = none := by
  simp only [State.positionsCheck, firstFailure_eq_none, List.mem_cons, List.not_mem_nil, or_false,
    forall_eq_or_imp, forall_eq, failIf_eq_none, List.any_eq_false, decide_eq_true_eq]
  constructor
  · intro x hx; simp [h x hx]
  · intro x hx; simp [h x hx, PosEntry.isClaimed]

/-- A position of a group is one that its test picks, within the part when the group is in range. -/
theorem mem_groupPositions (p : Plane) (g : Group) (w : Nat) (x : Plane × Nat × Nat)
    (hx : x ∈ groupPositions p g w) :
    x.1 = p ∧ x.2.1 = g.link ∧ g.slot ≤ x.2.2 ∧ x.2.2 < g.slot + w := by
  simp only [groupPositions, List.mem_map, List.mem_range] at hx
  obtain ⟨j, hj, rfl⟩ := hx
  exact ⟨rfl, rfl, by simp, by simpa using hj⟩

/-- Marking the entry just staged, where no other entry names the record (R58, R182). -/
theorem State.markAwaited_append (i : RecNo) (q : List QueueEntry) (e : QueueEntry)
    (hq : s.manager.queue = q ++ [e]) (he : e.circuit = i)
    (hn : q.filter (fun e => e.circuit = i) = []) :
    (s.markAwaited i).manager.queue = q ++ [{ e with awaited := true }] := by
  have hmap : q.map (fun e => if e.circuit = i then { e with awaited := true } else e) = q := by
    simp only [List.filter_eq_nil_iff, decide_eq_true_eq] at hn
    have : q.map (fun e => if e.circuit = i then { e with awaited := true } else e) = q.map id :=
      List.map_congr_left fun x hx => if_neg (hn x hx)
    rw [this, List.map_id]
  simp only [State.markAwaited, State.setQueue, hq, List.map_append, List.map_cons, List.map_nil,
    he, if_true]
  rw [hmap]

end Sys2Proof.Machine
end

