-- ==== Sys2Proof/Tests/Slice0.lean ====
section
/-! SUPPORT. The author's own tests. Expected values are worked by hand from the manual's tables and
from its operating sequences (12_operating_sequences.md), named at each test; none is an answer of the
model's. Then, for each statement of Certificates/Slice0 that has hypotheses, a witness: a state and
operands that meet them all. -/

namespace Sys2Proof.Tests

set_option Elab.async false

open Sys2Proof Sys2Proof.Machine

/-! ## Helpers -/

/-- The state in which a command leaves the part. -/
def after (c : Instr) (s : State) : State :=
  match exec c s with
  | .next t => t
  | _ => State.reset

/-- The request area holds these octets, from its first on. -/
def asks (l : List Byte) (s : State) : State :=
  { s with mailbox := { s.mailbox with
      request := ⟨((l ++ List.replicate 24 0).take 24).toArray, by simp⟩ } }

/-- A part in role MASTER, every link UP and able to reach every other. -/
def base : State := { State.reset with
  timing := { Timing.reset with role := .master, state := .freeRun }
  links := Vector.replicate 8 { state := .up, withdrawal := 0 }
  manager := { Manager.reset with reach := Vector.replicate 8 0xFF } }

/-- A part in role SLAVE and in a timing state, at counter 15. -/
def slave (st : TimingState) : State := { base with
  timing := { Timing.reset with state := st, counter := 15, frameAt := 640, clock := 900 } }

/-- An ACTIVE host circuit of width 2 from INGRESS 0/2 to EGRESS 1/4 and 5/10, with a lease of 30. -/
def call : Record where
  generation := 3
  state := .active
  owner := some .host
  source := some (.position 0 2)
  width := 2
  dests := [⟨1, 4⟩, ⟨5, 10⟩]
  lease := some ⟨30, 7⟩
  tag := 0x1234

/-- The circuit of `call`, owned by LINK 3. -/
def lineCall : Record := { call with owner := some (.link 3) }

/-- Record 5 is this, and its staged change, if any, stands in the queue. -/
def withFive (r : Record) (s : State) : State :=
  match r.staged with
  | some st => (s.setRecord 5 r).setQueue [⟨5, st.change.kind, st.cutover, s.timing.tally, false⟩]
  | none => s.setRecord 5 r

/-- A staged change of the next frame. -/
def nextFrame (c : Change) (cause : Cause) : Option Staged := some ⟨c, .nextFrame, cause⟩

/-- The referral of 12.2: record 5, reference 5:1, tag 12h. -/
def referral : Referral :=
  ⟨5, 1, 0x12, 3, 4, 2, .nextSuperframe, 30, [⟨5, 10⟩], 50⟩

/-- The part of 12.2 while link 3's OPEN is referred. -/
def referred : State :=
  State.setLink 3 { base.link 3 with inProcess := some ⟨1, 0x12, none, .referred⟩ }
    (State.setReferral 3 (some referral) (withFive
      { generation := 1, state := .referred, owner := some (.link 3), width := 2
        source := some (.position 3 4), dests := [⟨5, 10⟩], lease := some ⟨30, 30⟩ } base))

/-- Link 3 has handed on a request, with tag 12h. -/
def hands (q : LineRequest) (s : State) : State :=
  State.setLink 3 { base.link 3 with inProcess := some ⟨1, 0x12, some q, .handed⟩ } s

/-! ## Commands -/

/-- R191: device reset undoes a write. -/
theorem test_device_reset :
    (after .deviceReset (after (.registerWrite 0x3C 9) base)).timing = Timing.reset := by
  decide +kernel

/-- R38, 13.3: a host OPEN takes the lowest FREE record and stages an ACTIVATE. -/
theorem test_open_stages :
    (after (.openCircuit true) (asks [0, 0, 3, 2, 5, 1, 2, 1, 1, 4] base)).manager.queue
      = [⟨0, .activate, .nextFrame, 0, true⟩] := by decide +kernel

/-- R38: its positions are claimed JOINING. -/
theorem test_open_claims :
    (after (.openCircuit true) (asks [0, 0, 3, 2, 5, 1, 2, 1, 1, 4] base)).entry .egress 1 5
      = .claimed 0 .joining := by decide +kernel

/-- R31: a group that reaches slot 38 is refused with BAD_POSITION. -/
theorem test_open_bad_position :
    (after (.openCircuit true) (asks [0, 0, 3, 2, 5, 1, 2, 1, 1, 37] base)).mailbox.outcome
      = .badPosition := by decide +kernel

/-- R41: an ADD takes the record to ALTERING. -/
theorem test_add :
    ((after (.add false) (asks [5, 3, 2, 7] (withFive call base))).record 5).staged
      = nextFrame (.add ⟨2, 7⟩) .host := by decide +kernel

/-- R32: an ADD that would overlap a destination is refused. -/
theorem test_add_overlap :
    (after (.add false) (asks [5, 3, 1, 5] (withFive call base))).mailbox.outcome
      = .overlap := by decide +kernel

/-- R42: the group stays in the list while its DROP is staged. -/
theorem test_drop :
    ((after (.drop false) (asks [5, 3, 5, 10] (withFive call base))).record 5)
      = { call with state := .altering, staged := nextFrame (.drop ⟨5, 10⟩) .host } := by
  decide +kernel

/-- 12.3: a MOVE with AT_SUPERFRAME 5010, eleven superframes ahead. -/
theorem test_move :
    ((after (.move false) (asks [5, 3, 0, 0, 14, 0, 0, 0, 0, 0, 0, 0, 0, 0, 0, 0, 2, 0x13, 0x92]
      (withFive call { base with timing := { base.timing with number := 4999 } }))).record 5).staged
      = some ⟨.move (.position 0 14), .atSuperframe 5010, .host⟩ := by decide +kernel

/-- R34: a target already reached is refused with BAD_CUTOVER. -/
theorem test_move_bad_cutover :
    (after (.move false) (asks [5, 3, 0, 0, 14, 0, 0, 0, 0, 0, 0, 0, 0, 0, 0, 0, 2, 0x13, 0x92]
      (withFive call { base with timing := { base.timing with number := 5010 } }))).mailbox.outcome
      = .badCutover := by decide +kernel

/-- R44: a RELEASE takes an ACTIVE record to CLOSING. -/
theorem test_release :
    ((after (.release false) (asks [5, 3] (withFive call base))).record 5).state = .closing := by
  decide +kernel

/-- R45: a host RELEASE of an OPENING record takes it to FREE, the generation kept. -/
theorem test_release_opening :
    ((after (.release false) (asks [5, 3] (withFive { call with
      state := .opening, staged := nextFrame .activate .host } base))).record 5)
      = { generation := 3 } := by decide +kernel

/-- R47: a RENEW sets both counts. -/
theorem test_renew :
    ((after (.renew false) (asks [5, 3, 20] (withFive call base))).record 5).lease
      = some ⟨20, 20⟩ := by decide +kernel

/-- R29: a host RENEW of 0 on a line-owned circuit is refused with NOT_OWNER. -/
theorem test_renew_zero :
    (after (.renew false) (asks [5, 3, 0] (withFive lineCall base))).mailbox.outcome
      = .notOwner := by decide +kernel

/-- R46: a CANCEL empties the queue and returns the record to ACTIVE. -/
theorem test_cancel :
    ((after (.cancel false) (asks [5, 3] (withFive { call with
      state := .altering, staged := nextFrame (.move (.constant 7)) .host } base))).record 5)
      = call := by decide +kernel

/-- R159, 13.2: ADOPT tells the owner by RETIRED with reason 03h. -/
theorem test_adopt :
    ((after (.adopt false) (asks [5, 3] (withFive lineCall base))).link 3).outbound
      = [[0x83, 0, 5, 3, 3, 0x72]] := by decide +kernel

/-- 13.4: the answer to a QUERY, octet by octet. -/
theorem test_query :
    (after (.query false) (asks [5, 0] (withFive call base))).mailbox.response
      = #v[7, 5, 3, 3, 7, 30, 0, 0, 0x48, 0, 2, 2, 0x51, 0, 4, 10, 0, 0, 0x12, 0x34, 0, 0, 0, 0] := by
  decide +kernel

/-- R49: acknowledge takes a RETIRED record to FREE. -/
theorem test_query_acknowledge :
    ((after (.query false) (asks [5, 1] (withFive { call with state := .retired } base))).record 5)
      = { generation := 3 } := by decide +kernel

/-- R51: LOCATE of a control slot. -/
theorem test_locate :
    ((after (.locate false) (asks [1, 7, 38] base)).mailbox.response)[9] = 2 := by decide +kernel

/-- R52: NEXT finds the lowest match from the start index on. -/
theorem test_next :
    ((after (.nextRecord false) (asks [2, 0] (withFive call base))).mailbox.response).toList.take 4
      = [3, 5, 3, 3] := by decide +kernel

/-- R53: BAR of an OPEN position. -/
theorem test_bar : (after (.bar false) (asks [0, 2, 37] base)).entry .ingress 2 37 = .barred := by
  decide +kernel

/-- R53: UNBAR of slot 38 is refused. -/
theorem test_unbar : (after (.unbar false) (asks [0, 2, 38] base)).mailbox.outcome
    = .badPosition := by decide +kernel

/-- 12.2, 13.4: READ_REFERRAL of the referral of link 3. -/
theorem test_read_referral :
    (after (.readReferral false) (asks [3] referred)).mailbox.response
      = #v[1, 5, 1, 0, 0, 0, 0, 0, 0, 0x12, 50, 30, 3, 4, 0x12, 1, 5, 10, 0, 0, 0, 0, 0, 0] := by
  decide +kernel

/-- 12.2: at APPROVE with AWAIT, RESULT OK 5:1 OPENING, 30, tag 12h joins the queue of link 3. -/
theorem test_approve :
    ((after (.approve true) (asks [3, 1] referred)).link 3).outbound
      = [[0x81, 0x12, 0xE0, 5, 1, 2, 30, 0x67]] := by decide +kernel

/-- R174: a denied OPEN leaves the record FREE with its generation. -/
theorem test_deny : ((after (.deny true) (asks [3, 2] referred)).record 5)
    = { generation := 1 } := by decide +kernel

/-- 12.3: SET_SUPERFRAME 4991. -/
theorem test_set_superframe :
    (after (.setSuperframe false) (asks [0x13, 0x7F] base)).timing.number = 4991 := by
  decide +kernel

/-- R107: it is refused while an AT_SUPERFRAME entry is staged. -/
theorem test_set_superframe_locked :
    (after (.setSuperframe false) (asks [0x13, 0x7F]
      (base.setQueue [⟨5, .move, .atSuperframe 5010, 0, false⟩]))).mailbox.outcome
      = .epochLocked := by decide +kernel

/-- R184: code 11h completes with BAD_FORMAT. -/
theorem test_undefined_command :
    (after (.undefinedCommand 0x11 true) base).mailbox.outcome = .badFormat := by decide +kernel

/-- R186: a COMMAND write in AWAITING sets the refused-write indicator. -/
theorem test_command_refused :
    (after (.commandRefused 1 true)
      { base with mailbox := { base.mailbox with awaiting := true } }).readRegister 0x19 = 3 := by
  decide +kernel

/-- R187: ABANDON in AWAITING. -/
theorem test_abandon :
    (after .abandon { base with mailbox := { base.mailbox with awaiting := true } }).readRegister
      0x1B = 19 := by decide +kernel

/-- R188: a control-plane reset puts an UP link back to ABSENT. -/
theorem test_cp_reset : (after .cpReset base).readRegister 0x5F = 1 := by decide +kernel

/-- R92: MASTER in ACQUIRING begins FREE_RUN with a superframe start. -/
theorem test_write_master :
    (after (.writeMaster []) State.reset).readRegister 0x3E = 4
      ∧ (after (.writeMaster []) State.reset).timing.number = 1 := by decide +kernel

/-- R92: SLAVE in FREE_RUN enters ACQUIRING. -/
theorem test_write_slave : (after .writeSlave base).readRegister 0x3E = 1 := by decide +kernel

/-- R61, R62: what the last frame start has handed on is taken before frames stop. -/
theorem test_write_slave_catches_up :
    (after .writeSlave { base with
      manager := { base.manager with applicationDue := true } }).manager.applicationDue = false := by
  decide +kernel

/-- R130: ENABLE 0 disables and raises LINK 2, code 4. -/
theorem test_write_enable_0 :
    (after (.writeEnable0 2) base).readRegister 0x5A = 0
      ∧ (after (.writeEnable0 2) base).readRegister 0x35 = 8 := by decide +kernel

/-- R130: ENABLE 1 on an enabled link changes nothing. -/
theorem test_write_enable_1 :
    (after (.writeEnable1 2) base).link 2 = base.link 2
      ∧ (after (.writeEnable1 2) base).events = base.events := by decide +kernel

/-- 12.5: ENABLE 1 after the arrival of frame 302: arrival 303 is not counted, and arrival 304 is the
first of withdrawal. -/
theorem test_enable_after_an_arrival :
    let next := fun s => after (.controlSlotArrival 1 0 0xA2) (after (.frameStart false false []) s)
    let s := next (after (.writeEnable1 1) (State.setLink 1
      { enable := false, state := .disabled, arrived := true, presented := ⟨0xFF, 0xFF, .other⟩ } base))
    (s.link 1).withdrawal = 4 ∧ ((next s).link 1).withdrawal = 3 := by decide +kernel

/-- R86, R131, R147: a link restarted while frames are absent, where the last frame before had its
arrival: the first frame carries the pair as it stands, and its arrival is one of withdrawal. -/
theorem test_restart_while_frames_are_absent :
    let gap := after .writeSlave (State.setLink 1
      { enable := false, state := .disabled, arrived := true, presented := ⟨0xFF, 0xFF, .other⟩ } base)
    let s := after (.writeMaster []) (after (.writeEnable1 1) gap)
    ((after (.controlSlotArrival 1 0 0xA2) s).link 1).withdrawal = 3 := by decide +kernel

/-- 12.1: from device reset the first four frames are of withdrawal. -/
theorem test_first_frame_after_reset :
    ((after (.controlSlotArrival 1 0 0xA2) (after (.writeMaster []) State.reset)).link 1).withdrawal
      = 3 := by decide +kernel

/-- R84: FILL_5 reads what was written, and is not yet sent. -/
theorem test_fill_write :
    (after (.fillWrite 5 0xD5) base).readRegister 0x6D = 0xD5
      ∧ (after (.fillWrite 5 0xD5) base).egressOctet 5 0 = 0xFF := by decide +kernel

/-- R195: a 1 clears the flag of its position. -/
theorem test_event_flags_write :
    (after (.eventFlagsWrite true 0x10) { base with events := ⟨0x1800, 0⟩ }).events.flags
      = 0x0800 := by decide +kernel

/-- R194: bits 7..5 of octet 38h carry no code. -/
theorem test_event_enable_write :
    (after (.eventEnableWrite true 0xFF) base).events.enables = 0x1F00 := by decide +kernel

/-- 12.1: with LINK3 and LINK5 set and enabled, EVENT_VECTOR gives 5 and clears it. -/
theorem test_event_vector_read :
    (after (.eventVectorRead .whole) { base with events := ⟨0x50, 0x1FFF⟩ }).port.sent = 5
      ∧ (after (.eventVectorRead .whole) { base with events := ⟨0x50, 0x1FFF⟩ }).events.flags
        = 0x40 := by decide +kernel

/-- R163: the indicator of the link written 1 is cleared, the other kept. -/
theorem test_lost_notice_write :
    (after (.lostNoticeWrite 1) { base with
      links := Vector.replicate 8 { noticeLost := true } }).readRegister 0x49 = 0xFE := by
  decide +kernel

/-- R146: a CONFIRM_COUNT of 4 is ignored. -/
theorem test_register_write : (after (.registerWrite 0x44 4) base).settings = base.settings := by
  decide +kernel

/-- 12.1: the third pulse, 320 bit periods after the second. -/
theorem test_frm_pulse :
    let t := after (.frmPulse 640 false []) { State.reset with
      timing := { Timing.reset with consistency := 2, pulseAt := some 320 } }
    t.timing.state = .locked ∧ t.timing.tally = 1 ∧ t.timing.number = 1
      ∧ t.manager.divider = 1 ∧ t.readRegister 0x35 = 1 := by decide +kernel

/-- R80: the frame that ends gives the held octets, and the fill octet where none arrived. -/
theorem test_frame_start :
    let t := after (.frameStart false false [[0xA1, 0xB2]]) base
    t.heldOctet 0 1 = 0xB2 ∧ t.heldOctet 0 2 = 0xFF := by decide +kernel

/-- 12.3: the pulse missing after 5006 / 8 leads to HOLDOVER, 5006 / 9. -/
theorem test_flywheel :
    let t := after (.flywheelFrameStart false []) { slave .locked with
      timing := { (slave .locked).timing with counter := 8, number := 5006 } }
    t.timing.state = .holdover ∧ t.timing.holdoverCount = 1 ∧ t.timing.counter = 9
      ∧ t.timing.number = 5006 := by decide +kernel

/-- 12.3: past the limit of 16, ACQUIRING with the counter standing. -/
theorem test_holdover_limit :
    let t := after (.holdoverLimitExceeded false []) { slave .holdover with
      timing := { (slave .holdover).timing with counter := 8, holdoverCount := 16 } }
    t.timing.state = .acquiring ∧ t.timing.counter = 8 := by decide +kernel

/-- R63: an ACTIVATE due at the frame begun sets the program. -/
theorem test_apply_due_changes :
    let s := withFive { call with state := .opening, staged := nextFrame .activate .host } base
    let t := after .applyDueChanges { s with manager := { s.manager with
      frame := ⟨1, 6, 9, false⟩, applicationDue := true } }
    t.programEntry 5 11 = .ingress 0 3 ∧ (t.record 5).stamp = some ⟨9, 6⟩ := by decide +kernel

/-- R59, R108: an entry for superframe 10, made after the superframe start that set 10 and a
SET_SUPERFRAME to 9, is not due at that superframe start; one made for it before is. -/
theorem test_due_at_superframe :
    let e : QueueEntry := ⟨5, .add, .atSuperframe 10, 1, false⟩
    let at10 := { base with manager := { base.manager with frame := ⟨1, 0, 10, true⟩ } }
    State.due { at10 with timing := { base.timing with number := 9 } } e = false
      ∧ State.due { at10 with timing := { base.timing with number := 10 } } { e with tally := 0 }
        = true := by decide +kernel

/-- 12.4: the tick reduces 20 to 19. The whole tick visits 192 records, so its parts are tested. -/
theorem test_lease_tick :
    (Record.countDown { call with lease := some ⟨20, 20⟩ }).lease = some ⟨20, 19⟩
      ∧ Record.countDown { call with state := .closing } = { call with state := .closing } := by
  decide +kernel

/-- R114: expiry in OPENING retires the record, and the owner is told with reason 01h. -/
theorem test_lease_expiry :
    let t := State.expire (withFive { lineCall with
      state := .opening, staged := nextFrame .activate .owner } base) 5
    (t.record 5).state = .retired ∧ t.manager.queue = []
      ∧ (t.link 3).outbound = [[0x83, 0, 5, 3, 1, 0x74]] := by decide +kernel

/-- 12.2: a timeout places RESULT DENIED 5:1, tag 12h. -/
theorem test_referral_timeout :
    ((after (.referralTimeout 3) { referred with manager := { referred.manager with
      timeouts := [⟨3, 5, 1⟩] } }).link 3).outbound
      = [[0x81, 0x12, 0x2F, 5, 1, 0, 0, 0x38]] := by decide +kernel

/-! ## Arrivals and line requests -/

/-- R135, 13.1: the head message is put on offer with OFFER 1 and SEQ 0. -/
theorem test_arrival_offers :
    ((after (.controlSlotArrival 3 0 0xA2)
      (State.setLink 3 { base.link 3 with outbound := [[0x82, 0, 5, 1, 0x78]] } base)).link
        3).presented = ⟨0x82, 0xB2, .other⟩ := by decide +kernel

/-- 12.1: the eighth arrival brings a link to UP. -/
theorem test_arrival_brings_up :
    ((after (.controlSlotArrival 3 0 0xA2) (State.setLink 3 { presence := 3, withdrawal := 0
                                                              presented := ⟨0xFF, 0xA2, .ready⟩ }
      base)).link 3).state = .up := by decide +kernel

/-- R132: the fourth invalid arrival in a row. -/
theorem test_presence_loss :
    ((after (.presenceLoss 3 0 0xFF)
      (State.setLink 3 { base.link 3 with loss := 3 } base)).link 3).state = .absent := by
  decide +kernel

/-- R138: the 64th arrival with no acknowledgement stalls the link. -/
theorem test_acknowledge_timeout :
    ((after (.acknowledgeTimeout 3 0 0xA2) (State.setLink 3 { base.link 3 with
      outbound := [[1, 2]], onOffer := some 0, ackCount := 63 } base)).link 3).state
      = .stalled := by decide +kernel

/-- R144, R145: the 32nd arrival with no eligible octet shows REFUSE. -/
theorem test_assembly_timeout :
    ((after (.assemblyTimeout 3 0 0xA2) (State.setLink 3 { base.link 3 with
      assembly := [1], assemblyCount := 31 } base)).link 3).presented.handshake
      = 0xA3 := by decide +kernel

/-- R161: the RESULT that waited takes the room. -/
theorem test_held_result :
    ((after (.heldResultEntry 3 0 0xA0) (State.setLink 3 { base.link 3 with
      outbound := [[1], [2], [3], [4]], onOffer := some 0
      inProcess := some ⟨1, 7, none, .held [9]⟩ } base)).link 3).outbound
      = [[2], [3], [4], [9]] := by decide +kernel

/-- R40: an OPEN on a REFER link leaves a WAITING referral with the timeout in force. -/
theorem test_line_open_refers :
    ((after (.lineOpen 3) (hands (.openCircuit 3 4 2 true 30 [(5, 10)]) { base with
      referrals := { base.referrals with policy := 8 } })).referral 3).map Referral.remaining
      = some 50 := by decide +kernel

/-- R39: on an AUTO link it is accepted, with attention. -/
theorem test_line_open_accepts :
    (after (.lineOpen 3) (hands (.openCircuit 3 4 2 true 30 [(5, 10)]) base)).manager.queue
      = [⟨0, .activate, .nextSuperframe, 0, false⟩] := by decide +kernel

/-- R41: an ADD of the owner sets attention. -/
theorem test_line_add :
    ((after (.lineAdd 3) (hands (.add 5 3 2 7) (withFive lineCall base))).record 5).attention
      = true := by decide +kernel

/-- R29: another link's DROP is refused with NOT_OWNER, with reference, state and lease. -/
theorem test_line_drop :
    ((after (.lineDrop 3) (hands (.drop 5 3 5 10)
      (withFive { call with owner := some (.link 4) } base))).link 3).outbound
      = [[0x81, 0x12, 0xEB, 5, 3, 3, 7, 0x70]] := by decide +kernel

/-- R72: a line RELEASE of an OPENING record retires it. -/
theorem test_line_release :
    ((after (.lineRelease 3) (hands (.release 5 3) (withFive { lineCall with
      state := .opening, staged := nextFrame .activate .owner } base))).record 5).retireCause
      = some .lineRelease := by decide +kernel

/-- 12.4: RENEW with value 20 is answered OK, ACTIVE, remaining 20. -/
theorem test_line_renew :
    ((after (.lineRenew 3) (hands (.renew 5 3 20) (withFive lineCall base))).link 3).outbound
      = [[0x81, 0x12, 0xE0, 5, 3, 3, 20, 0x6E]] := by decide +kernel

/-- R50: a STATUS with a stale generation is answered UNKNOWN_CIRCUIT. -/
theorem test_status :
    ((after (.status 3) (hands (.status 5 2) (withFive lineCall base))).link 3).outbound
      = [[0x81, 0x12, 0x2A, 5, 2, 0, 0, 0x3C]] := by decide +kernel

/-! ## Reading the lines and the registers -/

/-- 12.2, R151: the OPEN of 12.2 as a message. -/
theorem test_line_message :
    Decode.lineRequest [1, 0x12, 3, 4, 0x12, 30, 5, 10, 0xA7]
      = some (.openCircuit 3 4 2 true 30 [(5, 10)]) := by decide +kernel

/-- R152: a wrong check is refused. -/
theorem test_line_message_check :
    Decode.lineRequest [1, 0x12, 3, 4, 0x12, 30, 5, 10, 0xA8] = none := by decide +kernel

/-- 13.6: COMMAND 81h is OPEN with AWAIT. -/
theorem test_host_write : Decode.hostWrite 0x18 0x81 = .openCircuit true := by decide +kernel

/-- R177: a write transaction of address 6Dh and one data octet D5h, bit by bit, with three bits of an
octet that does not complete. -/
theorem test_write_transaction :
    Decode.transaction
      [false, true, true, false, true, true, false, true,
       true, true, false, true, false, true, false, true, true, true, false]
      = [.fillWrite 5 0xD5] := by decide +kernel

/-- R177, R178: a read of two octets from 7Fh: the second is the octet at 00h. -/
theorem test_read_transaction :
    Decode.transaction (List.replicate 8 true ++ List.replicate 16 false)
        = [.eventVectorRead (.address 0x7F), .eventVectorRead .octet, .eventVectorRead .octet]
      ∧ (after (.eventVectorRead .octet) (after (.eventVectorRead .octet)
          (after (.eventVectorRead (.address 0x7F)) (asks [0x5A] base)))).port.sent = 0x5A := by
  decide +kernel

/-- R177, 13.6: HOLDOVER_LIMIT reads 10h after reset, so the fourth bit on SDO is its only 1; and SDO is
0 before the address octet is complete. -/
theorem test_sdo :
    let s := after (.eventVectorRead (.address 0x3C)) State.reset
    let bits := [true, false, true, true, true, true, false, false]
    s.sdoAfter (.csFall :: Decode.clocked bits) = some false
      ∧ s.sdoAfter (.csFall :: Decode.clocked (bits ++ [false, false, false])) = some true
      ∧ s.sdoAfter (.csFall :: Decode.clocked (bits.take 7)) = some false
      ∧ s.sdoAfter (.csFall :: Decode.clocked bits ++ [.csRise]) = none := by decide +kernel

/-- R79: the last bit of slot 0 completes an octet of every link. -/
theorem test_bit_period :
    let s := { base with
      timing := { base.timing with clock := 7 }
      switch := { base.switch with shift := Vector.replicate 8 0x2A } }
    (s.idle.switch.capture[0], s.idle.timing.clock) = ([0x55], 8) := by decide +kernel

/-- R78, R93, R106: the bit period after the 320th is bit period 0 of the next frame, with FRM and SFO
high at a superframe start, and the first bit of slot 0 on LOUT. -/
theorem test_bit_period_begins_a_frame :
    let s := State.idle { base with
      timing := { base.timing with clock := 319, counter := 15 }
      manager := { base.manager with program := base.manager.program.set 0 (.constant 0x7F) } }
    s.bitPeriod = 0 ∧ s.sfo = true ∧ s.frmDriven = some true ∧ s.lout 0 = false := by decide +kernel

/-- Assumption 1: with work handed on, an idle step takes it, and no bit period passes. -/
theorem test_idle_takes_work :
    let t := State.idle { base with manager := { base.manager with applicationDue := true } }
    (t.manager.applicationDue, t.timing.clock) = (false, 0) := by decide +kernel

/-! ## Well-formedness: an ill-formed term for each check -/

/-- A code that names a command is no undefined one. -/
theorem test_ill_formed_code : (Instr.undefinedCommand 0x10 true).wellFormed = false := by decide

/-- A write to COMMAND is a row of its own. -/
theorem test_ill_formed_address : (Instr.registerWrite 0x18 1).wellFormed = false := by decide

/-- A presence loss with valid presence. -/
theorem test_ill_formed_presence : (Instr.presenceLoss 0 0 0xA2).wellFormed = false := by decide

/-- Octets of seven links. -/
theorem test_ill_formed_links :
    (Instr.frameStart true true (List.replicate 7 [])).wellFormed = false := by decide

/-- Octets of unlike numbers. -/
theorem test_ill_formed_lengths :
    (Instr.frmPulse 0 true ([1] :: List.replicate 7 [])).wellFormed = false := by decide

/-- More octets than bearer slots, in each row that carries octets. -/
theorem test_ill_formed_octets :
    let rx := List.replicate 8 (List.replicate 39 0)
    (Instr.writeMaster rx).wellFormed = false ∧ (Instr.flywheelFrameStart true rx).wellFormed = false
      ∧ (Instr.holdoverLimitExceeded true rx).wellFormed = false := by decide +kernel

/-- An OPEN with no destination, and with five. -/
theorem test_ill_formed_open :
    (LineRequest.openCircuit 0 0 1 false 1 []).wellFormed = false
      ∧ (LineRequest.openCircuit 0 0 1 false 1 (List.replicate 5 (0, 0))).wellFormed = false := by
  decide

/-! ## Witnesses: general facts -/

theorem base_record (j : RecNo) : base.record j = {} := by
  simp [State.record, base, Manager.reset]

theorem base_entry (p : Plane) (l : Fin 8) (q : Fin 40) :
    base.entry p l q = if q.val < 38 then .openPos else .fixed := by
  have h : positionPlace p l q < 640 := positionPlace_lt l.isLt q.isLt
  have e : positionPlace p l q % 40 = q.val := by
    have := q.isLt; cases p <;> simp only [positionPlace, Config.slotsPerFrame] <;> omega
  rw [State.entry_eq _ l.isLt q.isLt]
  simp [base, Manager.reset, resetMap, Config.slotsPerFrame, Config.bearerSlots, e]

theorem withFive_record (r : Record) (s : State) (j : RecNo) :
    (withFive r s).record j = if 5 = j then r else s.record j := by
  unfold withFive; cases r.staged <;> exact State.record_setRecord ..

theorem withFive_map (r : Record) (s : State) : (withFive r s).manager.map = s.manager.map := by
  unfold withFive; cases r.staged <;> rfl

/-- Every bearer position of a part with no circuit but record 5 is OPEN. -/
theorem allOpen_withFive (r : Record) (l : List Byte) (picks : Plane → Nat → Nat → Bool)
    (h : ∀ p a q, picks p a q = true → q < 38) : (asks l (withFive r base)).AllOpen picks := by
  intro p a q hp
  have e : (asks l (withFive r base)).entry p a q = base.entry p a q :=
    State.entry_congr (withFive_map r base) p a q
  rw [e, base_entry, if_pos (h p a q hp)]

theorem nobodyWaits_withFive (r : Record) (l : List Byte)
    (h : r.remaining = some 0 → r.state = .retired ∨ r.state = .closing) :
    (asks l (withFive r base)).NobodyWaits := by
  intro j
  have e : (asks l (withFive r base)).record j = if 5 = j then r else {} := by
    rw [← base_record j]; exact withFive_record r base j
  rw [e]
  split
  · exact h
  · intro hh; cases hh

theorem queueMatches_withFive (r : Record) (s : State) (hs : s.manager.queue = [])
    (hr : ∀ j, s.record j = {}) (h : r.state.holds (r.staged.map fun st => st.change.kind) = true) :
    (withFive r s).QueueMatches := by
  intro i
  refine ⟨?_, ?_⟩
  · rw [withFive_record]; split
    · exact h
    · rw [hr]; rfl
  · have hq : (withFive r s).manager.queue = (r.staged.map fun st =>
        QueueEntry.mk 5 st.change.kind st.cutover s.timing.tally false).toList := by
      unfold withFive; cases r.staged <;> [exact hs; rfl]
    rw [withFive_record, State.entriesOf, hq, hr]
    by_cases hi : 5 = i
    · subst hi; cases e : r.staged <;> simp [e]
    · cases e : r.staged <;> simp [hi]

/-! ## Witnesses: the mailbox -/

/-- The mailbox awaits a change. -/
def awaits (s : State) : State := { s with mailbox := { s.mailbox with awaiting := true } }

/-- Lowest, middle and highest codes that name no command, and an AWAITING mailbox. -/
theorem witness_RefusedAndUndefinedCommandWrites :
    (awaits base).mailbox.awaiting = true ∧ base.Ready ∧ ((0 : BitVec 7) = 0)
      ∧ 0x11 ≤ (0x11 : BitVec 7).toNat ∧ 0x11 ≤ (0x7F : BitVec 7).toNat := by decide

/-- A full change queue. -/
def full (s : State) : State := s.setQueue (List.replicate 24 ⟨0, .add, .nextFrame, 0, false⟩)

/-- A command refused, whatever the clause; then for each clause a request that meets it: the first and
the last check of an OPEN, an unknown cutover and an unknown reference, and a check behind the
reference for each command that names a circuit. -/
theorem witness_RefusedRequestsChangeNothing :
    (let s := asks [5, 3] base;
      s.Ready ∧ Instr.cancel true = Decode.commandRow 7 true
        ∧ exec (.cancel true) s = .next (after (.cancel true) s)
        ∧ (after (.cancel true) s).mailbox.awaiting = false
        ∧ (after (.cancel true) s).mailbox.outcome ≠ .ok)
    ∧ (let s := asks [] base;
      firstOutcome (s.openChecks .host false s.requestOpen) ≠ .ok
        ∧ ∀ i, ¬s.Names (s.request 0) (s.request 1) i)
    ∧ (asks [5, 3, 0, 0, 0, 0, 0, 0, 0, 0, 0, 0, 0, 0, 0, 0, 3] base).requestCutover = none
    ∧ (let s := asks [5, 3, 5, 10] (full (withFive call base));
      s.Names (s.request 0) (s.request 1) 5 ∧ s.requestCutover ≠ none
        ∧ firstOutcome (s.addChecks .host (groupOf 5 10) (some .nextFrame) (s.record 5)) = .overlap
        ∧ firstOutcome (s.dropChecks .host (groupOf 5 10) (some .nextFrame) (s.record 5))
          = .queueFull
        ∧ firstOutcome (s.moveChecks (some (.position 8 0)) (some .nextFrame) (s.record 5))
          = .badPosition
        ∧ firstOutcome (s.releaseChecks .host (some .nextFrame) (s.record 5)) = .queueFull
        ∧ firstOutcome (Record.renewChecks .host 0 lineCall) = .notOwner)
    ∧ (∃ r : Record, r.closingByLease = true ∧ firstOutcome r.endingChecks = .retiring)
    ∧ 192 ≤ ((asks [192] base).request 0).toNat ∧ 1 < ((asks [2] base).request 0).toNat
    ∧ 8 ≤ ((asks [1, 8, 0] base).request 1).toNat ∧ 40 ≤ ((asks [1, 7, 40] base).request 2).toNat
    ∧ 5 < ((asks [0, 6] base).request 1).toNat ∧ 8 ≤ ((asks [0, 2, 8] base).request 2).toNat
    ∧ 8 ≤ ((asks [8, 1] base).request 0).toNat ∧ 2 < ((asks [7, 3] base).request 1).toNat
    ∧ base.referral 7 = none ∧ referred.referral 3 = some referral ∧ ¬(full referred).HasRoom := by
  refine ⟨⟨by decide, by decide, rfl, by decide +kernel, by decide +kernel⟩, ⟨by decide +kernel, ?_⟩,
    by decide, by decide +kernel, ⟨{ state := .closing, staged := nextFrame .deactivate .lease },
      by decide, by decide⟩, by decide +kernel⟩
  intro i h
  have hr : (asks [] base).record i = {} := base_record i
  exact h.2.2.1 (by rw [hr])

theorem witness_AbandonEndsTheWaitAlone : base.Ready ∧ (awaits base).mailbox.awaiting = true := by
  decide

/-- An enabled link with a referral, and a disabled one. -/
theorem witness_ControlResetKeepsSwitching :
    let s := after (.writeEnable0 7) referred
    (s.link 3).enable = true ∧ s.referral 3 = some referral ∧ (s.link 7).enable = false := by
  decide +kernel

/-- The widest OPEN, to the last bearer slot of its links, at the farthest cutover. -/
theorem witness_HostOpenStagesAnActivate :
    let s := asks [0, 7, 34, 4, 255, 0, 0, 4, 0, 34, 1, 34, 2, 34, 7, 0, 2, 0x7F, 0xFF] base
    let src := Source.position 7 34
    s.Ready ∧ s.Allocates 0 ∧ s.entriesOf 0 = [] ∧ s.requestOpen.source = some src
      ∧ s.requestOpen.cutover = some (.atSuperframe 32767) ∧ s.requestOpen.width = 4
      ∧ s.requestOpen.count = 4 ∧ sourceInRange (some src) s.requestOpen.width = true
      ∧ (∀ g ∈ s.requestOpen.dests, g.link < 8 ∧ g.slot + s.requestOpen.width ≤ 38)
      ∧ anyOverlap s.requestOpen.width s.requestOpen.dests = false
      ∧ s.Allows (.atSuperframe 32767)
      ∧ s.AllOpen (inCircuit (some src) s.requestOpen.dests s.requestOpen.width) ∧ s.HasRoom := by
  intro s src
  have hf : ∀ j, s.record j = {} := base_record
  refine ⟨by decide, .inl ⟨by rw [hf], fun j hj => absurd hj (by simp)⟩, by decide, by decide +kernel,
    by decide +kernel, by decide +kernel, by decide +kernel, by decide +kernel, by decide +kernel,
    by decide +kernel, ⟨by decide, by decide⟩, ?_, by decide⟩
  intro p l q h
  have e : s.entry p l q = base.entry p l q := State.entry_congr rfl p l q
  have ew : s.requestOpen.width = 4 := by decide +kernel
  have ed : s.requestOpen.dests = [⟨0, 34⟩, ⟨1, 34⟩, ⟨2, 34⟩, ⟨7, 0⟩] := by decide +kernel
  rw [e, base_entry, if_pos]
  rw [ew, ed] at h
  cases p <;> simp [inCircuit, inSource, inGroup, src] at h <;> omega

/-- An ACTIVE circuit with three destinations, of width 4. -/
def wide : Record := { call with width := 4, dests := [⟨0, 0⟩, ⟨0, 4⟩, ⟨0, 8⟩] }

theorem witness_HostAddStagesAnAdd :
    let s := asks [5, 3, 7, 34] (withFive wide base)
    let g : Machine.Group := ⟨7, 34⟩
    s.Ready ∧ s.Names (s.request 0) (s.request 1) 5 ∧ s.entriesOf 5 = []
      ∧ g = groupOf (s.request 2) (s.request 3) ∧ s.requestCutover = some .nextFrame
      ∧ (s.record 5).state = .active ∧ (s.record 5).dests.length < 4 ∧ g.link < 8
      ∧ g.slot + (s.record 5).width ≤ 38
      ∧ (∀ h ∈ (s.record 5).dests, g.overlaps h (s.record 5).width = false)
      ∧ s.Allows .nextFrame ∧ s.AllOpen (egressGroup g (s.record 5).width) ∧ s.HasRoom := by
  intro s g
  have hr : s.record 5 = wide := withFive_record wide base 5
  refine ⟨by decide, by decide +kernel, by decide, by decide, by decide, by rw [hr]; rfl,
    by rw [hr]; decide, by decide, by rw [hr]; decide, by rw [hr]; decide, trivial, ?_, by decide⟩
  rw [hr]
  refine allOpen_withFive wide _ _ ?_
  intro p a q h
  cases p <;> simp [egressGroup, inGroup, g, wide, call] at h
  exact of_decide_eq_true h.2

theorem witness_HostDropStagesADrop :
    let s := asks [5, 3, 5, 10] (withFive call base)
    let g : Machine.Group := ⟨5, 10⟩
    s.Ready ∧ s.Names (s.request 0) (s.request 1) 5 ∧ s.entriesOf 5 = []
      ∧ g = groupOf (s.request 2) (s.request 3) ∧ s.requestCutover = some .nextFrame
      ∧ (s.record 5).state = .active ∧ 2 ≤ (s.record 5).dests.length ∧ g ∈ (s.record 5).dests
      ∧ g.link < 8 ∧ g.slot + (s.record 5).width ≤ 38 ∧ s.Allows .nextFrame ∧ s.HasRoom :=
  ⟨by decide, by decide +kernel, by decide, by decide, by decide, by decide +kernel,
    by decide +kernel, by decide +kernel, by decide, by decide +kernel, trivial, by decide⟩

/-- The nearest AT_SUPERFRAME target, and a source that shares one slot with the old one. -/
theorem witness_MoveStagesAMove :
    let s := asks [5, 3, 0, 0, 3, 0, 0, 0, 0, 0, 0, 0, 0, 0, 0, 0, 2, 0, 1] (withFive call base)
    let src := Source.position 0 3
    s.Ready ∧ s.Names (s.request 0) (s.request 1) 5 ∧ s.entriesOf 5 = []
      ∧ sourceOf (s.request 2) (s.request 3) (s.request 4) = some src
      ∧ s.requestCutover = some (.atSuperframe 1) ∧ (s.record 5).state = .active
      ∧ sourceInRange (some src) (s.record 5).width = true ∧ s.Allows (.atSuperframe 1)
      ∧ s.AllOpen (sourceOutside (some src) (s.record 5).source (s.record 5).width) ∧ s.HasRoom := by
  intro s src
  have hr : s.record 5 = call := withFive_record call base 5
  refine ⟨by decide, by decide +kernel, by decide, by decide, by decide, by rw [hr]; rfl,
    by rw [hr]; decide, ⟨by decide, by decide⟩, ?_, by decide⟩
  rw [hr]
  refine allOpen_withFive call _ _ ?_
  intro p a q h
  cases p <;> simp [sourceOutside, inSource, inGroup, src, call] at h
  have := of_decide_eq_true h.1.2
  omega

theorem witness_HostReleaseStagesADeactivate :
    let s := asks [5, 3] (withFive call base)
    s.Ready ∧ s.Names (s.request 0) (s.request 1) 5 ∧ s.entriesOf 5 = []
      ∧ s.requestCutover = some .nextFrame ∧ (s.record 5).state = .active ∧ s.Allows .nextFrame
      ∧ s.HasRoom :=
  ⟨by decide, by decide +kernel, by decide, by decide, by decide +kernel, trivial, by decide⟩

/-- An OPENING circuit. -/
def opening (cause : Cause) : Record :=
  { lineCall with state := .opening, staged := nextFrame .activate cause }

/-- Records 6 and 191 are ACTIVE and wait at remaining count 0 for deferred staging. -/
def twoWait (s : State) : State :=
  (s.setRecord 6 { call with lease := some ⟨30, 0⟩ }).setRecord 191 { call with lease := some ⟨30, 0⟩ }

theorem witness_HostEndsAnOpeningRecord :
    (let s := asks [5, 3] (withFive (opening .owner) base);
      s.Ready ∧ s.Names (s.request 0) (s.request 1) 5 ∧ (s.record 5).state = .opening
        ∧ s.NobodyWaits ∧ s.requestCutover = some .nextFrame ∧ s.Allows .nextFrame)
    ∧ (let s := asks [5, 3] (twoWait (withFive (opening .owner) base));
      s.Ready ∧ s.Names (s.request 0) (s.request 1) 5 ∧ (s.record 5).state = .opening
        ∧ (s.record 6).remaining = some 0 ∧ (s.record 191).remaining = some 0
        ∧ s.requestCutover = some .nextFrame ∧ s.Allows .nextFrame) :=
  ⟨⟨by decide, by decide +kernel, by decide +kernel,
      nobodyWaits_withFive _ _ (by decide), by decide, trivial⟩,
    by decide, by decide +kernel, by decide +kernel, by decide +kernel, by decide +kernel, by decide,
    trivial⟩

/-- An ALTERING circuit. -/
def altering (c : Change) (cause : Cause) : Record :=
  { lineCall with state := .altering, staged := nextFrame c cause }

/-- A CLOSING circuit. -/
def closing (cause : Cause) : Record :=
  { lineCall with state := .closing, staged := nextFrame .deactivate cause }

/-- Both states from which a CANCEL returns a record to ACTIVE, with nobody waiting and with three waiters,
the record itself among them; and ACTIVE. -/
theorem witness_CancelReturnsTheRecordToActive :
    (let s := asks [5, 3] (withFive (altering (.add ⟨2, 7⟩) .owner) base);
      s.Ready ∧ s.Names (s.request 0) (s.request 1) 5
        ∧ (s.record 5).staged = nextFrame (.add ⟨2, 7⟩) .owner ∧ (s.record 5).state = .altering
        ∧ s.NobodyWaits ∧ (s.record 5).remaining ≠ some 0)
    ∧ (let s := asks [5, 3] (twoWait (withFive { closing .host with lease := some ⟨30, 0⟩ } base));
      s.Ready ∧ s.Names (s.request 0) (s.request 1) 5
        ∧ (s.record 5).staged = nextFrame .deactivate .host ∧ (s.record 5).state = .closing
        ∧ (s.record 5).remaining = some 0
        ∧ (s.record 6).remaining = some 0 ∧ (s.record 191).remaining = some 0)
    ∧ (let s := asks [5, 3] (withFive { call with lease := some ⟨30, 0⟩ } base);
      s.Ready ∧ s.Names (s.request 0) (s.request 1) 5 ∧ (s.record 5).state = .active) :=
  ⟨⟨by decide, by decide +kernel, by decide +kernel, by decide +kernel,
      nobodyWaits_withFive _ _ (by decide), by decide +kernel⟩, by decide +kernel, by decide +kernel⟩

/-- A RENEW of a nonzero value, and one of 0 of a host circuit; an ADOPT of a line circuit. -/
theorem witness_HostRenewSetsAndAdoptRemovesTheLease :
    (let s := asks [5, 3, 255] (withFive lineCall base);
      s.Ready ∧ s.Names (s.request 0) (s.request 1) 5 ∧ (s.record 5).state = .active
        ∧ s.request 2 ≠ 0)
    ∧ (let s := asks [5, 3, 0] (withFive call base);
      s.Ready ∧ s.Names (s.request 0) (s.request 1) 5 ∧ (s.record 5).state = .active
        ∧ (s.record 5).owner = some .host)
    ∧ (let s := asks [5, 3] (withFive (closing .owner) base);
      s.Ready ∧ s.Names (s.request 0) (s.request 1) 5 ∧ (s.record 5).state ≠ .referred
        ∧ ¬((s.record 5).state = .closing ∧ (s.record 5).staged.map Staged.cause = some .lease)) := by
  decide +kernel

/-- A RETIRED record queried with acknowledge, at the last index. -/
theorem witness_QueryReportsThenAcknowledges :
    let s := asks [191, 1] (base.setRecord 191 { call with state := .retired })
    s.Ready ∧ (s.request 0).toNat = (191 : RecNo).val ∧ (s.request 1).getLsbD 0 = true
      ∧ (s.record 191).state = .retired := by decide +kernel

/-- The last position, the last start index with a filter, and the last link. -/
theorem witness_ReadingCommandsReportAndChangeNothing :
    (asks [1, 7, 39] base).Ready
      ∧ planeOf ((asks [1, 7, 39] base).request 0) = some .egress
      ∧ filterOf ((asks [5, 2, 7] base).request 1) ((asks [5, 2, 7] base).request 2)
        = some (.owner (.link 7))
      ∧ ((asks [7] base).request 0).toNat = (7 : LinkNo).val := by decide

/-- A record with everything to report, with a position and with a constant named; the referral of 12.2;
and both kinds of answer. -/
theorem witness_ResponseOctetsStandInTheirPlaces :
    (∀ src ∈ [Source.position 7 37, .constant 255],
      let r := { altering (.move src) .host with source := some src, stamp := some ⟨5006, 8⟩ };
      r.width ≤ 4 ∧ r.dests.length ≤ 4 ∧ (∀ g ∈ r.dests, g.link < 8 ∧ g.slot < 38)
        ∧ (∀ src ∈ r.source, src.named.1 < 8 ∧ src.named.2 < 38)
        ∧ ∀ c ∈ r.staged, c.change.named.1 < 8 ∧ c.change.named.2 < 38)
    ∧ referral.width ≤ 4 ∧ referral.sourceLink < 8 ∧ referral.sourceSlot < 38
    ∧ referral.dests.length ≤ 4 ∧ (∀ g ∈ referral.dests, g.link < 8 ∧ g.slot < 38)
    ∧ (some CircuitState.retired).map CircuitState.code = some 6
    ∧ (none : Option CircuitState) = none := by decide

/-- An unnamed plane, the first slot past the bearer slots, a claimed position, and the last bearer
position. -/
theorem witness_BarAndUnbarWriteOneEntry :
    1 < ((asks [2, 0, 0] base).request 0).toNat
      ∧ ¬((((asks [0, 7, 38] base).request 1).toNat < 8) ∧ ((asks [0, 7, 38] base).request 2).toNat < 38)
      ∧ ((base.setEntry .egress 7 37 (.claimed 5 .live)).entry .egress 7 37).isClaimed = true
      ∧ ((asks [1, 7, 37] base).entry .egress 7 37).isClaimed = false ∧ base.Ready := by
  decide +kernel

theorem witness_VerdictsEndAReferral :
    (let s := asks [3, 1] referred;
      s.Ready ∧ (s.request 0).toNat = (3 : LinkNo).val ∧ s.request 1 = 1
        ∧ s.referral 3 = some referral ∧ s.entriesOf referral.circuit = [] ∧ s.HasRoom)
    ∧ (let s := asks [3, 2] referred;
      s.Ready ∧ (s.request 0).toNat = (3 : LinkNo).val ∧ s.request 1 = 2
        ∧ s.referral 3 = some referral) := by decide +kernel

/-- With an AT_SUPERFRAME entry staged, and with none. -/
theorem witness_SetSuperframeSetsTheNumberAlone :
    (∃ e ∈ (base.setQueue [⟨5, .move, .atSuperframe 5010, 0, false⟩]).manager.queue,
        ∃ n, e.cutover = .atSuperframe n)
      ∧ (∀ e ∈ base.manager.queue, ∀ n, e.cutover ≠ .atSuperframe n) ∧ base.Ready :=
  ⟨⟨_, List.mem_singleton.mpr rfl, 5010, rfl⟩, by simp [base, Manager.reset], by decide⟩

/-! ## Witnesses: timing -/

theorem witness_RoleWritesActByTheState :
    base.timing.state = .freeRun ∧ State.reset.timing.state = .acquiring
      ∧ (slave .locked).timing.state ≠ .freeRun ∧ (slave .holdover).timing.state ≠ .acquiring := by
  decide

/-- Counts of 1, after a pulse out of step, and of 3. -/
theorem witness_ThreePulsesInARowLock :
    let s := slave .acquiring
    let u := { s with timing := { s.timing with consistency := 2, pulseAt := some 320 } }
    s.timing.role = .slave ∧ s.timing.state = .acquiring
      ∧ u.timing.role = .slave ∧ u.timing.state = .acquiring
      ∧ (1 = if u.timing.pulseAt.map (· + 320) = some 641 ∧ 1 ≤ u.timing.consistency then
          u.timing.consistency + 1 else 1)
      ∧ (3 = if u.timing.pulseAt.map (· + 320) = some 640 ∧ 1 ≤ u.timing.consistency then
          u.timing.consistency + 1 else 1) := by decide

/-- One bit period early, and one late. -/
theorem witness_PulsesOutOfPlaceAreIgnored :
    base.timing.role = .master ∧ (slave .locked).timing.role = .slave
      ∧ (slave .locked).timing.state = .locked ∧ 959 ≠ (slave .locked).timing.frameAt + 320
      ∧ (slave .holdover).timing.state = .holdover ∧ 961 ≠ (slave .holdover).timing.frameAt + 320 := by
  decide

/-- Each state of the hypothesis, by the row and by the pulse; and the three cases of the counts: the
wrap, a forced start, and neither. -/
theorem witness_FrameStartsAdvanceTheCounts :
    base.timing.state = .freeRun ∧ (slave .locked).timing.state = .locked
      ∧ (slave .holdover).timing.state = .holdover ∧ (slave .locked).timing.counter = 15
      ∧ (slave .locked).timing.role = .slave ∧ (slave .locked).timing.frameAt + 320 = 960
      ∧ (slave .locked).timing.clock ≤ (slave .locked).timing.frameAt + 320
      ∧ (let t := { base.timing with markerEnabled := true, counter := 14 }
        t.counter ≠ 15 ∧ t.markerEnabled = true ∧ t.windowOpen = true)
      ∧ base.timing.counter ≠ 15
      ∧ ¬(base.timing.markerEnabled = true ∧ true = true ∧ base.timing.windowOpen = true) := by
  decide

/-- The last bit periods of a frame, of slot 38 and of a bearer slot, with and without an edge on FRM,
and frames absent. -/
theorem witness_BitPeriodsCarryTheLines :
    (∀ n ∈ [0, 7, 303, 311, 319],
      let s := { base with timing := { base.timing with clock := n } };
      s.pending = [] ∧ s.NothingOutstanding ∧ (∀ k : LinkNo, s.handed k = none)
        ∧ s.timing.state ≠ .acquiring ∧ s.timing.frameAt + n = s.timing.clock ∧ n < 320)
    ∧ (let s := { slave .locked with
        timing := { (slave .locked).timing with frmBefore := false }
        pins := { base.pins with frm := true } };
      s.pending = [] ∧ s.NothingOutstanding ∧ (∀ k : LinkNo, s.handed k = none)
        ∧ (true = decide (s.timing.role = .slave ∧ s.pins.frm = true ∧ s.timing.frmBefore = false))
        ∧ s.timing.frameAt + 260 = s.timing.clock)
    ∧ State.reset.timing.state = .acquiring ∧ State.reset.pending = []
    ∧ State.reset.NothingOutstanding ∧ ∀ k : LinkNo, State.reset.handed k = none := by decide +kernel

theorem witness_SuperframeStartsDriveLeasesAndReferrals :
    (true = true ↔ false = true ∨ (slave .locked).timing.superframeNext (slave .locked).pins.sfm)
      ∧ (false = true ↔ false = true ∨ base.timing.superframeNext base.pins.sfm)
      ∧ (true = true ↔ true = true ∨ base.timing.superframeNext base.pins.sfm) := by decide

/-- LOCKED, HOLDOVER one short of the limit, and HOLDOVER at it. -/
theorem witness_PositionsPassedWithoutAPulse :
    (slave .locked).timing.state = .locked
      ∧ (let t := { (slave .holdover).timing with holdoverCount := 15 };
        t.state = .holdover ∧ t.holdoverCount + 1 ≤ t.holdoverLimit.toNat)
      ∧ (let t := { (slave .holdover).timing with holdoverCount := 16 };
        t.state = .holdover ∧ t.holdoverLimit.toNat < t.holdoverCount + 1)
      ∧ (slave .holdover).NothingOutstanding := by decide

/-! ## Witnesses: registers -/

/-- A link that is DISABLED and one that is not, and a pair presented before and after the arrival. -/
theorem witness_EnableWritesStopAndStartALink :
    ((after (.writeEnable0 7) base).link 7).state = .disabled ∧ (base.link 7).state ≠ .disabled
      ∧ (base.link 7).arrived = false := by decide +kernel

/-- A frame start in which each kind of program entry and the pair presented are sent; every command that
begins a frame; and links whose pair goes out as it stands. -/
theorem witness_FramesCarryTheOctetsOfTheFrameBefore :
    (let s := ((base.programGroup ⟨7, 36⟩ 1 (some (.position 7 37))).programGroup ⟨7, 37⟩ 1
        (some (.constant 9))).setLink 7 { base.link 7 with arrived := true };
      let u := after .applyDueChanges (after (.frameStart false false []) s);
      s.FrameBegins (.frameStart false false []) false [] 320 ∧ u.programEntry 7 36 = .ingress 7 37
        ∧ u.programEntry 7 37 = .constant 9 ∧ u.programEntry 7 0 = .noEntry
        ∧ (s.link 7).arrived = true ∧ s.timing.clock ≤ 320)
    ∧ (slave .locked).FrameBegins (.frameStart true false []) false [] 960
    ∧ (slave .holdover).FrameBegins (.frmPulse 960 false []) false [] 960
    ∧ (slave .holdover).FrameBegins (.flywheelFrameStart false []) false [] 960
    ∧ (slave .locked).FrameBegins (.frameStart false false []) false [] 960
    ∧ State.FrameBegins { base with timing := { Timing.reset with
        consistency := 2, pulseAt := some 320 } } (.frmPulse 640 false []) false [] 640
    ∧ State.reset.FrameBegins (.writeMaster []) false [] 0
    ∧ (State.reset.link 7).arrived = false ∧ (base.link 7).arrived = false := by
  refine ⟨⟨?_, ?_⟩, ?_, ?_, ?_, ?_, ?_, ?_, ?_⟩ <;> decide +kernel

/-- A snapshot made, at the last address and at EVENT_VECTOR; a flag set and enabled, the highest; and
none. -/
theorem witness_ReadsComeFromOneSnapshot :
    ((base.makeSnapshot 0x7F).port.snapshot).isSome = true ∧ (base.makeSnapshot 0x7F).port.next = 0x7F
      ∧ (base.makeSnapshot 0x39).port.next = 0x39 ∧ base.port.snapshot = none
      ∧ (let s := { base with events := ⟨0x1800, 0x1000⟩ };
        (s.events.flags &&& s.events.enables)[12] = true
          ∧ ∀ j < (12 : Fin 13), (s.events.flags &&& s.events.enables)[j] = false)
      ∧ base.events.flags &&& base.events.enables = 0 := by decide +kernel

/-- A write over the end of the window and a read, each with three bits of another octet, and no data. -/
theorem witness_TransactionsMakeTheirCommands :
    let stray := [true, false, true]
    stray.length < 8
      ∧ (List.zipIdx [1, 2] : List (Byte × Nat)).map (fun d =>
          Decode.hostWrite (BitVec.extractLsb' 0 7 (0x7F : Byte) + BitVec.ofNat 7 d.2) d.1)
        = [.registerWrite 0x7F 1, .registerWrite 0 2]
      ∧ (0x7F : Byte).getLsbD 7 = false ∧ (0xFF : Byte).getLsbD 7 = true
      ∧ (octetBits 0xFF ++ ([] : List Byte).flatMap octetBits ++ stray).length = 11 := by decide

/-- ENABLE as in force, on an enabled and on a disabled link; and the ends of each run of addresses whose
writes are ignored. -/
theorem witness_SettingWritesKeepTheirRanges :
    (3 : Byte).getLsbD 0 = decide ((base.link 7).state ≠ .disabled)
      ∧ (2 : Byte).getLsbD 0
        = decide (((after (.writeEnable0 7) base).link 7).state ≠ .disabled)
      ∧ (0x19 ≤ (0x19 : BitVec 7).toNat ∧ (0x33 : BitVec 7).toNat ≤ 0x33)
      ∧ (0x3E ≤ (0x3E : BitVec 7).toNat ∧ (0x43 : BitVec 7).toNat ≤ 0x43)
      ∧ (0x4A ≤ (0x4A : BitVec 7).toNat ∧ (0x4F : BitVec 7).toNat ≤ 0x4F)
      ∧ (0x58 ≤ (0x58 : BitVec 7).toNat ∧ (0x5F : BitVec 7).toNat ≤ 0x5F)
      ∧ 0x70 ≤ (0x70 : BitVec 7).toNat ∧ 0x70 ≤ (0x7F : BitVec 7).toNat := by decide +kernel

/-! ## Witnesses: the Circuit Manager -/

/-- A part in which record 5 has a change staged in the frame before the last frame start. -/
def due (r : Record) : State :=
  { withFive r base with manager := { (withFive r base).manager with
      frame := ⟨1, 3, 9, false⟩, applicationDue := true, tickDue := true } }

theorem due_record (r : Record) (j : RecNo) : (due r).record j = if 5 = j then r else {} := by
  rw [← base_record j]; exact withFive_record r base j

theorem due_nobodyWaits (r : Record) (h : r.remaining ≠ some 0) : (due r).NobodyWaits := by
  intro j
  rw [due_record]
  split
  · intro hh; exact absurd hh h
  · intro hh; cases hh

theorem due_queueMatches (r : Record)
    (h : r.state.holds (r.staged.map fun st => st.change.kind) = true) : (due r).QueueMatches :=
  queueMatches_withFive r base rfl base_record h

theorem markedDue_queueMatches (r : Record) (hr : r.staged.isSome = true)
    (h : r.state.holds (r.staged.map fun st => st.change.kind) = true) :
    ((due r).markAwaited 5).QueueMatches := by
  intro i
  obtain ⟨h1, h2⟩ := due_queueMatches r h i
  refine ⟨h1, ?_⟩
  rw [show ((due r).markAwaited 5).record i = (due r).record i from rfl, ← h2]
  cases e : r.staged with
  | none => simp [e] at hr
  | some st =>
    by_cases hi : 5 = i
    · subst hi; simp [State.entriesOf, State.markAwaited, State.setQueue, due, withFive, e]
    · simp [State.entriesOf, State.markAwaited, State.setQueue, due, withFive, e, hi]

/-- An awaited entry that is due, alone in the queue; and an entry made after the frame start. -/
theorem witness_DueChangesAreAppliedAndLeaveTheQueue :
    let s := (due (opening .host)).markAwaited 5
    s.manager.applicationDue = true ∧ s.QueueMatches ∧ s.NobodyWaits
      ∧ (∃ e ∈ s.manager.queue, s.due e = true ∧ e.awaited = true)
      ∧ s.manager.queue.countP QueueEntry.awaited = 1 ∧ base.manager.applicationDue = false
      ∧ base.manager.frame.tally = base.timing.tally ∧ base.Allows (.atSuperframe 1) := by
  intro s
  refine ⟨by decide +kernel, markedDue_queueMatches _ (by decide) (by decide),
    due_nobodyWaits _ (by decide), ?_, by decide +kernel, by decide, by decide,
    ⟨by decide, by decide⟩⟩
  exact ⟨⟨5, .activate, .nextFrame, 0, true⟩, by decide +kernel, by decide +kernel, rfl⟩

theorem witness_ActivateAndAddPutGroupsInForce :
    ((withFive (opening .host) base).record 5).staged = nextFrame .activate .host
      ∧ anyOverlap (opening .host).width (opening .host).dests = false
      ∧ ((withFive (altering (.add ⟨2, 7⟩) .host) base).record 5).staged
        = nextFrame (.add ⟨2, 7⟩) .host := by decide +kernel

theorem witness_DropMoveAndDeactivateGiveUpPositions :
    ((withFive (altering (.drop ⟨1, 4⟩) .host) base).record 5).staged
        = nextFrame (.drop ⟨1, 4⟩) .host
      ∧ ((withFive (altering (.move (.constant 7)) .host) base).record 5).staged
        = nextFrame (.move (.constant 7)) .host
      ∧ anyOverlap (opening .host).width (opening .host).dests = false
      ∧ ((withFive (closing .lease) base).record 5).staged = nextFrame .deactivate .lease := by
  decide +kernel

/-- A link with a request in process: with room, with three messages, with a full queue, and without a
session. -/
theorem witness_MessagesJoinTheOutboundQueue :
    ((referred.link 3).inProcess = some ⟨1, 0x12, none, .referred⟩)
      ∧ (referred.link 3).state = .up ∧ (referred.link 3).outbound.length < 4
      ∧ (List.replicate 3 [1]).length < 4 ∧ ¬(List.replicate 4 [1]).length < 4
      ∧ ¬((State.reset.link 3).state = .up ∨ (State.reset.link 3).state = .stalled) := by
  decide +kernel

/-- An OPENING and an ALTERING record whose lease is at 1, with its awaited entry in the queue; a tick at
which no lease runs out; and no tick handed on. -/
theorem witness_LeaseTicksCountDownAndExpire :
    (∀ r ∈ [opening .owner, altering (.add ⟨2, 7⟩) .host],
      let s := (due { r with lease := some ⟨30, 1⟩ }).markAwaited 5;
      s.manager.tickDue = true ∧ s.RunsOut 5 ∧ (s.record 5).state = r.state
        ∧ (∃ e ∈ s.manager.queue, s.RunsOut e.circuit ∧ e.awaited = true)
        ∧ s.manager.queue.countP QueueEntry.awaited = 1)
    ∧ ((due { opening .owner with lease := some ⟨30, 1⟩ }).markAwaited 5).QueueMatches
    ∧ ((due { altering (.add ⟨2, 7⟩) .host with lease := some ⟨30, 1⟩ }).markAwaited 5).QueueMatches
    ∧ (due { call with lease := some ⟨30, 1⟩ }).RunsOut 5
    ∧ base.runningOut = [] ∧ base.manager.tickDue = false :=
  ⟨by decide +kernel, markedDue_queueMatches _ (by decide) (by decide),
    markedDue_queueMatches _ (by decide) (by decide), by decide +kernel, by decide +kernel, by decide⟩

/-- A waiting record and room; a full queue; and no waiting record. -/
theorem witness_DeferredStagingServesTheLowestWaiter :
    (let s := withFive { call with lease := some ⟨30, 0⟩ } base;
      s.HasRoom ∧ (s.record 5).state = .active ∧ (s.record 5).remaining = some 0
        ∧ ∀ j < (5 : RecNo), (s.record j).state = .active → (s.record j).remaining ≠ some 0)
    ∧ 24 ≤ (base.setQueue (List.replicate 24 ⟨0, .add, .nextFrame, 0, false⟩)).manager.queue.length
    ∧ ∀ i : RecNo, (base.record i).state = .active → (base.record i).remaining ≠ some 0 := by
  refine ⟨⟨by decide, by decide +kernel, by decide +kernel, ?_⟩, by decide +kernel, ?_⟩
  · intro j hj
    rw [withFive_record, if_neg (Fin.ne_of_gt hj), base_record]
    decide
  · intro i; rw [base_record]; decide

/-- No timeout for the link; one that names a referral ended; and one that names the referral. -/
theorem witness_ReferralTimeoutsDenyTheirReferral :
    (∀ x ∈ ([⟨4, 5, 1⟩] : List Timeout), x.link ≠ 3)
      ∧ (∀ r ∈ referred.referral 3, ¬(r.circuit = 5 ∧ r.generation = 0))
      ∧ referred.referral 3 = some referral ∧ referral.circuit = 5 ∧ referral.generation = 1
      ∧ ([⟨4, 5, 1⟩, ⟨3, 5, 1⟩] : List Timeout) = [⟨4, 5, 1⟩] ++ ⟨3, 5, 1⟩ :: [] := by
  decide +kernel

/-! ## Witnesses: arrivals -/

/-- Link 7 of a running part, with these fields. -/
def link7 (l : Link) : State := base.setLink 7 l

/-- The case of each clause: frames absent, DISABLED, and ABSENT by the pair that the frame carried, the
last before UP and the one that brings UP. -/
theorem witness_ArrivalsBringALinkUp :
    State.reset.timing.state = .acquiring ∧ base.timing.state ≠ .acquiring
      ∧ ((link7 { enable := false, state := .disabled }).link 7).state = .disabled
      ∧ ((link7 {}).link 7).state = .absent ∧ ((link7 {}).link 7).presented.kind = .withdrawal
      ∧ ((link7 { presented := ⟨0xFF, 0xFF, .other⟩ }).link 7).presented.kind = .other
      ∧ ((link7 { presented := ⟨0xFF, 0xA2, .ready⟩, presence := 2 }).link 7).presence < 3
      ∧ 3 ≤ ((link7 { presented := ⟨0xFF, 0xA2, .ready⟩, presence := 3 }).link 7).presence
      ∧ (0xFF : Byte).extractLsb' 5 3 ≠ 5 ∧ (0xA2 : Byte).extractLsb' 5 3 = 5 := by decide +kernel

/-- From UP and from STALLED. -/
theorem witness_PresenceLossEndsTheSession :
    (let s := link7 { state := .up, loss := 3 };
      s.timing.state ≠ .acquiring ∧ (s.link 7).state = .up ∧ (s.link 7).loss = 3
        ∧ (0xC0 : Byte).extractLsb' 5 3 ≠ 5
        ∧ s.ArrivesInSession 7 0xA2 ∧ (s.link 7).onOffer = none)
    ∧ (let s := link7 { state := .stalled, loss := 3 };
      s.timing.state ≠ .acquiring ∧ (s.link 7).state = .stalled ∧ (s.link 7).loss = 3)
    ∧ (link7 { state := .stalled, loss := 2 }).ArrivesInSession 7 0xC0
    ∧ (let s := link7 { state := .up, loss := 2, outbound := [[1, 2]], onOffer := some 0
                        ackCount := 62 };
      s.ArrivesInSession 7 0xC0 ∧ (s.link 7).ackCount + 1 < s.settings.ackTimeout.toNat) := by
  decide +kernel

/-- With valid presence and no acknowledgement, with invalid presence, with the first refusal in a row, and
with a refusal that the latch shuts out. -/
theorem witness_AcknowledgeTimeoutStallsTheLink :
    (let s := link7 { state := .up, outbound := [[1, 2]], onOffer := some 0, ackCount := 63
                      loss := 2, refusalSeen := 1 };
      s.ArrivesInSession 7 0xA2 ∧ (s.link 7).state = .up ∧ (s.link 7).onOffer = some 0
        ∧ (s.link 7).StaysOnOffer 0xA2
        ∧ s.ArrivesInSession 7 0xFF ∧ (s.link 7).StaysOnOffer 0xFF
        ∧ s.settings.ackTimeout.toNat ≤ (s.link 7).ackCount + 1)
    ∧ (let s := link7 { state := .up, outbound := [[1, 2]], onOffer := some 0, ackCount := 63 };
      s.ArrivesInSession 7 0xA3 ∧ (s.link 7).StaysOnOffer 0xA3 ∧ (0xA3 : Byte).getLsbD 0 = true
        ∧ s.settings.ackTimeout.toNat ≤ (s.link 7).ackCount + 1)
    ∧ (let s := link7 { state := .up, outbound := [[1, 2]], onOffer := some 0, ackCount := 63
                        refusalLatch := true };
      s.ArrivesInSession 7 0xA3 ∧ (s.link 7).StaysOnOffer 0xA3
        ∧ s.settings.ackTimeout.toNat ≤ (s.link 7).ackCount + 1) := by decide +kernel

/-- At the timeout, one short of it with an unexpected SEQ repeated and with invalid presence, and with an
empty buffer while a refusal is shown. -/
theorem witness_AssemblyTimeoutRefusesTheMessage :
    (let s := link7 { state := .stalled, assembly := [1], assemblyCount := 31, loss := 2 };
      s.ArrivesInSession 7 0xA2 ∧ s.ArrivesInSession 7 0xFF ∧ (0xA2 : Byte).getLsbD 4 = false
        ∧ (0xFF : Byte).extractLsb' 5 3 ≠ 5
        ∧ (s.link 7).assembly ≠ [] ∧ s.settings.assemblyTimeout.toNat ≤ (s.link 7).assemblyCount + 1)
    ∧ (let s := link7 { state := .up, assembly := [1], assemblyCount := 30, loss := 2, run := 2
                        before := ⟨9, true, true, false⟩ };
      s.ArrivesInSession 7 0xBA ∧ s.ArrivesInSession 7 0xFF
        ∧ (0xBA : Byte).getLsbD 3 ≠ (s.link 7).expectedSeq ∧ 0 < (s.link 7).run
        ∧ (s.link 7).before = ⟨9, (0xBA : Byte).getLsbD 4, (0xBA : Byte).getLsbD 3,
          (0xBA : Byte).getLsbD 2⟩ ∧ (s.link 7).refusalDisplay = 0
        ∧ ¬s.settings.assemblyTimeout.toNat ≤ (s.link 7).assemblyCount + 1)
    ∧ (let s := link7 { state := .up, refusalDisplay := 2 };
      s.ArrivesInSession 7 0xA2 ∧ (s.link 7).assembly = [] ∧ 0 < (s.link 7).refusalDisplay) := by
  decide +kernel

/-- The acknowledgement of the last octet, the second refusal in a row, with and without an acknowledgement
of an octet that is not the last, and the acknowledge timeout. -/
theorem witness_HeldResultsTakeTheFirstRoom :
    let q : InProcess := ⟨1, 7, none, .held [9]⟩
    let rest : List (List Byte) := [[2], [3], [4]]
    let l : Link := { state := .up, outbound := [1, 2] :: rest, onOffer := some 1, inProcess := some q }
    rest.length ≤ 3 ∧ q.phase = .held [9] ∧ 1 + 1 = ([1, 2] : List Byte).length
      ∧ (let s := link7 l;
        s.ArrivesInSession 7 0xA0 ∧ (s.link 7).state = .up ∧ (s.link 7).outbound = [1, 2] :: rest
          ∧ (s.link 7).onOffer = some 1 ∧ (s.link 7).inProcess = some q ∧ (s.link 7).assembly = []
          ∧ (0xA0 : Byte).extractLsb' 5 3 = 5 ∧ (0xA0 : Byte).getLsbD 1 = (s.link 7).sendSeq)
      ∧ (let s := link7 { l with refusalSeen := 1 };
        s.ArrivesInSession 7 0xA3 ∧ (0xA3 : Byte).extractLsb' 5 3 = 5
          ∧ (0xA3 : Byte).getLsbD 0 = true ∧ (0xA3 : Byte).getLsbD 1 ≠ (s.link 7).sendSeq
          ∧ (s.link 7).refusalSeen = 1 ∧ (s.link 7).refusalLatch = false)
      ∧ (let s := link7 { l with refusalSeen := 1, onOffer := some 0 };
        s.ArrivesInSession 7 0xA1 ∧ (0xA1 : Byte).getLsbD 0 = true
          ∧ (0xA1 : Byte).getLsbD 1 = (s.link 7).sendSeq
          ∧ (s.link 7).onOffer = some 0 ∧ 0 + 1 < ([1, 2] : List Byte).length)
      ∧ (let s := link7 { l with ackCount := 63 };
        s.ArrivesInSession 7 0xA3 ∧ (s.link 7).StaysOnOffer 0xA3
          ∧ s.settings.ackTimeout.toNat ≤ (s.link 7).ackCount + 1) := by decide +kernel

/-- Nothing on offer with a message waiting; an octet that is not the last acknowledged, and one that is,
with and without a message behind; the second refusal, with another message behind, with and without an
acknowledgement; and an octet kept, with invalid presence, without an acknowledgement, and with a refusal
not yet recognised. -/
theorem witness_SendingOffersRepeatsAndDrops :
    let s := link7 { state := .up, outbound := [[1, 2], [3]], onOffer := some 0, refusalSeen := 1
                     ackCount := 62, loss := 2 }
    s.timing.state ≠ .acquiring ∧ (true = decide ((0xA0 : Byte).extractLsb' 5 3 = 5))
      ∧ (false = decide ((0xFF : Byte).extractLsb' 5 3 = 5)) ∧ (s.link 7).loss < 3
      ∧ (s.link 7).state = .up ∧ ((link7 { state := .stalled }).link 7).state = .stalled
      ∧ ((link7 { state := .up, outbound := [[1]] }).link 7).onOffer = none
      ∧ ((link7 { state := .up, outbound := [[1]] }).link 7).outbound = [1] :: []
      ∧ (s.link 7).onOffer = some 0 ∧ 0 + 1 < (s.link 7).head.length
      ∧ (0xA0 : Byte).getLsbD 1 = (s.link 7).sendSeq ∧ (0xA0 : Byte).getLsbD 0 = false
      ∧ (0xA3 : Byte).getLsbD 0 = true ∧ (0xA3 : Byte).getLsbD 1 ≠ (s.link 7).sendSeq
      ∧ (s.link 7).refusalSeen = 1 ∧ (s.link 7).refusalLatch = false
      ∧ (s.link 7).outbound.tail = [3] :: [] ∧ (s.link 7).head ≠ []
      ∧ (s.link 7).ackCount + 1 < s.settings.ackTimeout.toNat
      ∧ (s.link 7).StaysOnOffer 0xFF ∧ (s.link 7).StaysOnOffer 0xA2
      ∧ (0xA1 : Byte).getLsbD 0 = true
      ∧ ((link7 { state := .up, outbound := [[1]], onOffer := some 0 }).link 7).StaysOnOffer 0xA3
      ∧ (let l := (link7 { state := .up, outbound := [[1, 2], [3]], onOffer := some 1 }).link 7;
        1 + 1 = l.head.length ∧ l.inProcess = none ∧ l.outbound.tail = [3] :: [])
      ∧ (let l := (link7 { state := .up, outbound := [[3]], onOffer := some 0 }).link 7;
        0 + 1 = l.head.length ∧ l.outbound.tail = []) := by decide +kernel

/-- The run that reaches CONFIRM_COUNT, and one that is short; the last octet that the buffer takes, one
too many, and a message too short; a request in process; a FINAL octet that finishes a STATUS, and one
that finishes no request; and both counts at which a refusal is shown, with an eligible octet. -/
theorem witness_ConfirmedOctetsJoinTheMessage :
    (let s := link7 { state := .up, assembly := List.replicate 15 1, run := 1
                      before := ⟨5, true, false, false⟩ };
      s.timing.state ≠ .acquiring ∧ (s.link 7).state = .up ∧ (s.link 7).refusalDisplay = 0
        ∧ (0xB0 : Byte).extractLsb' 5 3 = 5 ∧ (0xB0 : Byte).getLsbD 4 = true
        ∧ (0xB0 : Byte).getLsbD 3 = (s.link 7).expectedSeq ∧ (0xB0 : Byte).getLsbD 2 = false
        ∧ (2 = if 0 < (s.link 7).run ∧ (s.link 7).before = ⟨5, true, (0xB0 : Byte).getLsbD 3, false⟩
          then min 3 ((s.link 7).run + 1) else 1)
        ∧ ¬2 < s.settings.confirmCount.toNat ∧ 1 < s.settings.confirmCount.toNat
        ∧ (s.link 7).assembly ≠ [] ∧ (s.link 7).assembly.length ≠ 16)
    ∧ (let l := (link7 { state := .up, inProcess := some ⟨1, 7, none, .handed⟩ }).link 7;
      l.assembly = [] ∧ l.inProcess.isSome = true ∧ ∀ q ∈ l.inProcess, ∀ m, q.phase ≠ .held m)
    ∧ ((link7 { assembly := List.replicate 16 1 }).link 7).assembly.length = 16
    ∧ ((link7 { assembly := [1] }).link 7).assembly.length < 2 ∧ (0xB4 : Byte).getLsbD 2 = true
    ∧ Decode.lineRequest ([6, 0x12, 5, 1] ++ [0xE2]) = some (.status 5 1)
    ∧ Decode.lineRequest ([6, 0x12, 5, 1] ++ [0xE3]) = none
    ∧ (let s := link7 { state := .up, refusalDisplay := 2, run := 2 };
      s.ArrivesInSession 7 0xB0 ∧ 0 < (s.link 7).refusalDisplay ∧ (s.link 7).assembly = [])
    ∧ (let s := link7 { state := .stalled, refusalDisplay := 1, loss := 2 };
      s.ArrivesInSession 7 0xFF ∧ 0 < (s.link 7).refusalDisplay ∧ (s.link 7).assembly = []) := by
  refine ⟨by decide +kernel, ⟨by decide +kernel, by decide +kernel, ?_⟩, by decide +kernel⟩
  intro q hq m h
  have e : ((link7 { state := .up, inProcess := some ⟨1, 7, none, .handed⟩ }).link 7).inProcess
      = some ⟨1, 7, none, .handed⟩ := by decide +kernel
  rw [e] at hq
  cases hq
  cases h

/-! ## Witnesses: line requests -/

/-- Link 3 has policy REFER. -/
def refer (s : State) : State := { s with referrals := { s.referrals with policy := 8 } }

/-- The widest OPEN to the last bearer slots, on an AUTO and on a REFER link. -/
theorem witness_LineOpensAreAcceptedOrReferred :
    let ds : List (Byte × Byte) := [(0, 34), (1, 34), (2, 34), (7, 34)]
    let q := LineRequest.openCircuit 7 34 4 true 255 ds
    let s := hands q base
    let dests := ds.map fun d => groupOf d.1 d.2
    s.handed 3 = some (0x12, q) ∧ (hands q (refer base)).handed 3 = some (0x12, q)
      ∧ 1 ≤ ds.length ∧ ds.length ≤ 4 ∧ (255 : Byte) ≠ 0
      ∧ sourceInRange (some (.position 7 34)) 4 = true
      ∧ (∀ g ∈ dests, g.link < 8 ∧ g.slot + 4 ≤ 38) ∧ anyOverlap 4 dests = false
      ∧ (s.manager.reach[3]).getLsbD 7 = true
      ∧ (∀ g ∈ dests, (s.manager.reach[3]).getLsbD g.link = true)
      ∧ s.AllOpen (inCircuit (some (.position 7 34)) dests 4) ∧ s.Allocates 0 ∧ s.entriesOf 0 = []
      ∧ s.HasRoom ∧ s.refers 3 = false ∧ (hands q (refer base)).refers 3 = true := by
  intro ds q s dests
  have hf : ∀ j, s.record j = {} := base_record
  refine ⟨by decide +kernel, by decide +kernel, by decide, by decide, by decide, by decide, by decide,
    by decide, by decide +kernel, by decide +kernel, ?_,
    .inl ⟨by rw [hf], fun j hj => absurd hj (by simp)⟩, by decide, by decide, by decide +kernel,
    by decide +kernel⟩
  intro p l r h
  have e : s.entry p l r = base.entry p l r := State.entry_congr rfl p l r
  rw [e, base_entry, if_pos]
  cases p <;> simp [inCircuit, inSource, inGroup, dests, ds, groupOf] at h <;> omega

theorem witness_LineAddAndDropStageWithAttention :
    (let s := hands (.add 5 3 7 34) (withFive { wide with owner := some (.link 3) } base);
      let g : Machine.Group := ⟨7, 34⟩
      s.handed 3 = some (0x12, .add 5 3 7 34) ∧ (s.record 5).dests.length < 4
        ∧ (∀ h ∈ (s.record 5).dests, g.overlaps h (s.record 5).width = false)
        ∧ s.AllOpen (egressGroup g (s.record 5).width) ∧ g = groupOf 7 34 ∧ s.Names 5 3 5
        ∧ (s.record 5).owner = some (.link 3) ∧ (s.record 5).state = .active
        ∧ g.slot + (s.record 5).width ≤ 38 ∧ (s.manager.reach[3]).getLsbD g.link = true ∧ s.HasRoom)
    ∧ (let s := hands (.drop 5 3 5 10) (withFive lineCall base);
      let g : Machine.Group := ⟨5, 10⟩
      s.handed 3 = some (0x12, .drop 5 3 5 10) ∧ 2 ≤ (s.record 5).dests.length
        ∧ g ∈ (s.record 5).dests ∧ g = groupOf 5 10 ∧ s.Names 5 3 5
        ∧ (s.record 5).owner = some (.link 3) ∧ (s.record 5).state = .active
        ∧ g.slot + (s.record 5).width ≤ 38 ∧ (s.manager.reach[3]).getLsbD g.link = true
        ∧ s.HasRoom) := by
  refine ⟨?_, by decide +kernel⟩
  intro s g
  have hr : s.record 5 = { wide with owner := some (.link 3) } := withFive_record _ base 5
  refine ⟨by decide +kernel, by rw [hr]; decide, by rw [hr]; decide, ?_, by decide, by decide +kernel,
    by rw [hr], by rw [hr]; rfl, by rw [hr]; decide, by decide +kernel, by decide +kernel⟩
  rw [hr]
  have := allOpen_withFive { wide with owner := some (.link 3) } [] (egressGroup g 4) (by
    intro p a q h
    cases p <;> simp [egressGroup, inGroup, g] at h
    omega)
  intro p l q h
  exact this p l q h

/-- From ACTIVE, and from OPENING with the entry awaited. -/
theorem witness_LineReleaseClosesOrRetires :
    (let s := hands (.release 5 3) (withFive lineCall base);
      s.handed 3 = some (0x12, .release 5 3) ∧ s.Names 5 3 5
        ∧ (s.record 5).owner = some (.link 3) ∧ (s.record 5).state = .active ∧ s.HasRoom)
    ∧ (let s := hands (.release 5 3) (withFive (opening .owner) base);
      s.handed 3 = some (0x12, .release 5 3) ∧ s.Names 5 3 5
        ∧ (s.record 5).owner = some (.link 3) ∧ (s.record 5).state = .opening ∧ s.NobodyWaits
        ∧ ∃ e ∈ (s.markAwaited 5).entriesOf 5, e.awaited = true)
    ∧ (let s := hands (.release 5 3) (twoWait (withFive (opening .owner) base));
      s.handed 3 = some (0x12, .release 5 3) ∧ s.Names 5 3 5
        ∧ (s.record 5).owner = some (.link 3) ∧ (s.record 5).state = .opening
        ∧ (s.record 6).remaining = some 0 ∧ (s.record 191).remaining = some 0) := by
  refine ⟨by decide +kernel, ?_, by decide +kernel⟩
  intro s
  exact ⟨by decide +kernel, by decide +kernel, by decide +kernel, by decide +kernel,
    nobodyWaits_withFive (opening .owner) [] (by decide), by decide +kernel⟩

theorem witness_LineRenewAndStatusReport :
    (let s := hands (.renew 5 3 255) (withFive lineCall base);
      s.handed 3 = some (0x12, .renew 5 3 255) ∧ s.Names 5 3 5
        ∧ (s.record 5).owner = some (.link 3) ∧ (s.record 5).state = .active)
    ∧ (let s := hands (.status 5 3) (withFive (closing .lease) base);
      s.handed 3 = some (0x12, .status 5 3) ∧ s.Names 5 3 5
        ∧ (s.record 5).owner = some (.link 3)) := by decide +kernel

/-- A request of each kind that fails a check, an unknown reference, and a request of another kind. -/
theorem witness_RefusedLineRequestsChangeTheirLinkAlone :
    let s := withFive { call with owner := some (.link 4) } base
    (hands (.openCircuit 0 0 0 false 1 [(0, 0)]) s).handed 3
        = some (0x12, .openCircuit 0 0 0 false 1 [(0, 0)])
      ∧ firstOutcome (s.openChecks (.line 3) false (lineOpenFields 0 0 0 false 1 [(0, 0)]))
        = .badFormat
      ∧ (hands (.add 5 3 0 0) s).handed 3 = some (0x12, .add 5 3 0 0)
      ∧ (hands (.drop 5 3 0 0) s).handed 3 = some (0x12, .drop 5 3 0 0)
      ∧ (hands (.release 5 3) s).handed 3 = some (0x12, .release 5 3)
      ∧ (hands (.renew 5 3 0) s).handed 3 = some (0x12, .renew 5 3 0)
      ∧ (hands (.status 5 3) s).handed 3 = some (0x12, .status 5 3)
      ∧ s.Names 5 3 5 ∧ firstOutcome [(s.record 5).ownership (.line 3)] = .notOwner
      ∧ firstOutcome (s.addChecks (.line 3) (groupOf 0 0) (some .nextFrame) (s.record 5)) = .notOwner
      ∧ firstOutcome (State.dropChecks (full s) (.line 4) (groupOf 5 10) (some .nextFrame)
        (s.record 5)) = .queueFull
      ∧ firstOutcome (s.releaseChecks (.line 3) (some .nextFrame) (s.record 5)) = .notOwner
      ∧ firstOutcome (Record.renewChecks (.line 4) 1 { call with
          owner := some (.link 4), state := .referred }) = .pending
      ∧ base.handed 3 = none := by decide +kernel

/-- Another link's circuit, and a request that names it. -/
theorem witness_LineRequestsLeaveOtherCircuitsAlone :
    let s := hands (.drop 5 3 5 10) (withFive { call with owner := some (.link 4) } base)
    s.NobodyWaits ∧ exec (.lineDrop 3) s = .next (after (.lineDrop 3) s)
      ∧ (s.record 5).state ≠ .free ∧ (s.record 5).state ≠ .retired
      ∧ (s.record 5).owner ≠ some (.link 3) :=
  ⟨nobodyWaits_withFive { call with owner := some (.link 4) } [] (by decide), rfl,
    by decide +kernel, by decide +kernel, by decide +kernel⟩

/-- The shortest and the longest OPEN, and a STATUS. -/
theorem witness_LineRequestsRoundTrip :
    (LineRequest.openCircuit 0 0 15 true 255 [(0, 0)]).wellFormed = true
      ∧ (LineRequest.openCircuit 0 0 0 false 0 (List.replicate 4 (255, 255))).wellFormed = true
      ∧ (LineRequest.status 191 255).wellFormed = true := by decide

/-! ## Witnesses: what always holds -/

/-- An ABANDON command waits. -/
def abandons (s : State) : State := { s with pending := [.abandon] }

theorem step_abandons (s : State) :
    step (abandons s) = .next (after .abandon { s with pending := [] }) := rfl

theorem base_controlSlotsFixed : base.ControlSlotsFixed := by
  intro n
  simp [base, Manager.reset, resetMap, Config.slotsPerFrame, Config.bearerSlots]

theorem base_attentionCounted : base.AttentionCounted := by
  simp [State.AttentionCounted, base, Manager.reset]

theorem witness_EveryStepKeepsCountsInRange :
    let s := abandons { slave .holdover with
      timing := { (slave .holdover).timing with holdoverCount := 16 } }
    s.SettingsInRange ∧ s.RoleMatches ∧ s.TimingCounts ∧ s.AbsenceIsIdle
      ∧ (∀ k : LinkNo, (s.link k).CountsInRange) ∧ s.QueueBounded ∧ s.AttentionCounted
      ∧ s.ControlSlotsFixed ∧ ∃ t, step s = .next t :=
  ⟨by decide, by decide, by decide, by decide, by decide +kernel, by decide, base_attentionCounted,
    base_controlSlotsFixed, _, step_abandons _⟩

theorem base_noReferral (k : LinkNo) : base.referral k = none := by
  simp [State.referral, base, State.reset]

theorem base_link (k : LinkNo) : base.link k = { state := .up, withdrawal := 0 } := by
  simp [State.link, base]

/-- The Circuit Manager of a part with no circuit but record 5 is in order. -/
theorem managerInOrder_withFive (r : Record)
    (h1 : r.state.holds (r.staged.map fun st => st.change.kind) = true) (h2 : r.state ≠ .referred)
    (h3 : r.remaining ≠ some 0) : (abandons (withFive r base)).ManagerInOrder := by
  have hr (j : RecNo) : (abandons (withFive r base)).record j = if 5 = j then r else {} := by
    rw [← base_record j]; exact withFive_record r base j
  have hq : (abandons (withFive r base)).manager.queue = (r.staged.map fun st =>
      QueueEntry.mk 5 st.change.kind st.cutover base.timing.tally false).toList := by
    unfold abandons withFive; cases r.staged <;> rfl
  have hn (k : LinkNo) : (abandons (withFive r base)).referral k = none := by
    rw [← base_noReferral k]; unfold abandons withFive; cases r.staged <;> rfl
  have hl (k : LinkNo) :
      (abandons (withFive r base)).link k = { state := .up, withdrawal := 0 } := by
    rw [← base_link k]; unfold abandons withFive; cases r.staged <;> rfl
  have ha : (abandons (withFive r base)).mailbox.awaiting = false := by
    unfold abandons withFive; cases r.staged <;> rfl
  refine ⟨?_, queueMatches_withFive r base rfl base_record h1, ?_, ⟨?_, ?_, ?_⟩, ?_, ?_⟩
  · rw [State.QueueBounded, hq]; cases r.staged <;> simp [Config.queueRoom]
  · rw [State.AwaitMatches, hq, ha]; cases r.staged <;> simp
  · intro k q hk; rw [hn] at hk; cases hk
  · intro i hi
    rw [hr] at hi
    split at hi
    · exact absurd hi h2
    · cases hi
  · intro k; rw [hn, hl]; decide
  · intro i hi
    rw [hr] at hi
    split at hi
    · exact absurd hi h3
    · cases hi
  · intro k; rw [hl]; decide

theorem witness_EveryStepKeepsTheManagerInOrder :
    (abandons (withFive (opening .owner) base)).ManagerInOrder
      ∧ ∃ t, step (abandons (withFive (opening .owner) base)) = .next t :=
  ⟨managerInOrder_withFive _ (by decide) (by decide) (by decide), _, step_abandons _⟩

theorem base_programEntry (l : Fin 8) (q : Fin 38) : base.programEntry l q = .noEntry := by
  rw [State.programEntry_eq _ l.isLt q.isLt]
  simp [base, Manager.reset]

/-- R31, R42: a DROP is staged of a destination of the record, at its link and first slot, and of no other
group. -/
theorem test_a_staged_drop_names_a_destination :
    let r : Record := { call with dests := [⟨1, 4⟩, ⟨5, 10⟩] }
    let drops (g : Group) : Record := { r with state := .altering, staged := nextFrame (.drop g) .host }
    (drops ⟨5, 10⟩).groupsApart = true ∧ (drops ⟨5, 11⟩).groupsApart = false
      ∧ (drops ⟨0, 10⟩).groupsApart = false := by decide

theorem witness_EveryStepKeepsSwitchingInOrder :
    (abandons base).SwitchingInOrder ∧ ∃ t, step (abandons base) = .next t := by
  have hr : ∀ i, (abandons base).record i = {} := base_record
  have hl : ∀ k, (abandons base).link k = { state := .up, withdrawal := 0 } := base_link
  have hn : ∀ k, (abandons base).referral k = none := base_noReferral
  have he (p : Plane) (l : Fin 8) (q : Fin 40) :
      (abandons base).entry p l q = if q.val < 38 then .openPos else .fixed := base_entry p l q
  refine ⟨⟨⟨by decide, ?_, by decide, ⟨?_, ?_, ?_⟩, ?_, ?_⟩, base_controlSlotsFixed, ?_, ?_, ?_⟩, _,
    step_abandons _⟩
  · intro i; rw [State.StagedMatches, hr]; exact ⟨rfl, rfl⟩
  · intro k q hk; rw [hn] at hk; cases hk
  · intro i hi; rw [hr] at hi; cases hi
  · intro k; rw [hn, hl]; decide
  · intro i hi; rw [hr] at hi; cases hi
  · intro k; rw [hl]; decide
  · intro i; rw [hr]; decide
  · intro i p l q; rw [hr, he]; split <;> rfl
  · intro l q
    have e := he .egress l ⟨q, by omega⟩
    rw [if_pos q.isLt] at e
    rw [show (abandons base).programEntry l q = .noEntry from base_programEntry l q, State.programOf,
      show (abandons base).entry .egress l q = .openPos from e]

end Sys2Proof.Tests
end

-- ==== Proofs: the link channels ====
section
/-! SUPPORT. What the link channels keep (07_control_slot_transfer.md; 08_line_messages.md): every
function of a channel, said once by what it does to the order of the channel's messages and to the
ranges of its counts. -/

namespace Sys2Proof.Machine

-- The proofs are elaborated one after another: many at once take the text past its memory limit.
set_option Elab.async false

/-! ## The order of one channel -/

/-- One link channel is in order: `State.LinksInOrder` says it of every link. -/
abbrev Link.InOrder (l : Link) : Prop :=
  l.EnableMatches ∧ l.SessionClear ∧ l.OfferMatches ∧ l.OneRequest
    ∧ l.outbound.length ≤ Config.outboundRoom ∧ l.assembly.length ≤ Config.longestMessage

/-- The request in process waits for the host's verdict (R154). -/
abbrev Link.AwaitsVerdict (l : Link) : Prop := l.inProcess.map InProcess.phase = some .referred

theorem Link.hasSession_iff (l : Link) :
    l.hasSession = true ↔ l.state = .up ∨ l.state = .stalled := by
  simp [Link.hasSession]

theorem Link.hasSession_false_iff (l : Link) :
    l.hasSession = false ↔ l.state = .disabled ∨ l.state = .absent := by
  cases h : l.state <;> simp [Link.hasSession, h]

/-- A message that is closed by its check has an octet (R150). -/
theorem withCheck_ne_nil (m : List Byte) : Decode.withCheck m ≠ [] := by
  simp [Decode.withCheck]

theorem Reply.result_ne_nil (tag : Byte) (r : Reply) : r.result tag ≠ [] := withCheck_ne_nil _

theorem Notice.message_ne_nil (n : Notice) (c x g : Byte) : n.message c x g ≠ [] := by
  cases n <;> exact withCheck_ne_nil _

/-- A link of which a request is in process, or a message waits, has a session (R133). -/
theorem Link.InOrder.session_of_inProcess {l : Link} (h : l.InOrder) (hp : l.inProcess ≠ none) :
    l.hasSession = true := by
  by_contra hs
  exact hp (h.2.1 (by simpa using hs)).1

theorem Link.not_awaitsVerdict_of_none {l : Link} (h : l.inProcess = none) : ¬l.AwaitsVerdict := by
  simp [Link.AwaitsVerdict, h]

/-! ## Messages that join and leave the outbound queue -/

/-- A message joins the outbound queue of a link with a session (R161). -/
theorem Link.InOrder.join {l : Link} (h : l.InOrder) (hs : l.hasSession = true) {m : List Byte}
    (hm : m ≠ []) (hr : l.outbound.length < Config.outboundRoom) :
    ({ l with outbound := l.outbound ++ [m] } : Link).InOrder := by
  obtain ⟨he, hc, ⟨ho, hn, hh⟩, h1, hq, ha⟩ := h
  refine ⟨he, ?_, ⟨?_, ?_, hh⟩, h1, ?_, ha⟩
  · intro h0; exact absurd (hs.symm.trans h0) (by simp)
  · intro j hj
    obtain ⟨hu, hne, hlt⟩ := ho j hj
    refine ⟨hu, by simp, ?_⟩
    cases hob : l.outbound with
    | nil => exact absurd hob hne
    | cons a rest => simpa [Link.head, hob] using hlt
  · intro x hx
    rcases List.mem_append.mp hx with hx | hx
    · exact hn x hx
    · rw [List.mem_singleton.mp hx]; exact hm
  · simp only [Config.outboundRoom, List.length_append, List.length_singleton] at hr ⊢
    omega

/-- The request in process leaves (R155). -/
theorem Link.InOrder.dropRequest {l : Link} (h : l.InOrder) :
    ({ l with inProcess := none } : Link).InOrder := by
  obtain ⟨he, hc, ⟨ho, hn, -⟩, -, hq, ha⟩ := h
  refine ⟨he, fun h0 => ?_, ⟨ho, hn, by simp⟩, by simp, hq, ha⟩
  obtain ⟨-, h2, h3, h4⟩ := hc h0
  exact ⟨rfl, h2, h3, h4⟩

/-- The head message leaves, and nothing is on offer (R136, R137). -/
theorem Link.InOrder.dropHead {l : Link} (h : l.InOrder) :
    ({ l with outbound := l.outbound.tail, onOffer := none } : Link).InOrder := by
  obtain ⟨he, hc, ⟨-, hn, hh⟩, h1, hq, ha⟩ := h
  refine ⟨he, fun h0 => ?_, ⟨by simp, fun m hm => hn m (List.mem_of_mem_tail hm), hh⟩, h1, ?_, ha⟩
  · obtain ⟨h1, h2, -, h4⟩ := hc h0
    exact ⟨h1, by simp [h2], rfl, h4⟩
  · simp only [List.length_tail, Config.outboundRoom] at hq ⊢
    omega

/-- A HELD RESULT that joins the queue (R161). -/
theorem Link.enterHeld_cases (l : Link) :
    l.enterHeld = l ∨ ∃ a b c m, l.inProcess = some ⟨a, b, c, .held m⟩
      ∧ l.outbound.length < Config.outboundRoom
      ∧ l.enterHeld = { l with outbound := l.outbound ++ [m], inProcess := none } := by
  unfold Link.enterHeld
  split
  · next a b c m h =>
    split
    · next hr => exact .inr ⟨a, b, c, m, h, hr, rfl⟩
    · exact .inl rfl
  · exact .inl rfl

theorem Link.InOrder.enterHeld {l : Link} (h : l.InOrder) : l.enterHeld.InOrder := by
  rcases l.enterHeld_cases with e | ⟨a, b, c, m, hp, hr, e⟩
  · rw [e]; exact h
  · rw [e]
    have hm : m ≠ [] := by
      rintro rfl
      exact h.2.2.1.2.2 (by simp [hp])
    exact (h.join (h.session_of_inProcess (by simp [hp])) hm hr).dropRequest

theorem Link.enterHeld_awaitsVerdict (l : Link) : l.enterHeld.AwaitsVerdict ↔ l.AwaitsVerdict := by
  rcases l.enterHeld_cases with e | ⟨a, b, c, m, hp, -, e⟩
  · rw [e]
  · rw [e]; simp [Link.AwaitsVerdict, hp]

/-- A RESULT placed on a link (R155). -/
theorem Link.InOrder.placeResult {l : Link} (h : l.InOrder) {m : List Byte} (hm : m ≠ []) :
    (l.placeResult m).InOrder := by
  rcases l.placeResult_cases m with ⟨-, e⟩ | ⟨hs, hr, e⟩ | ⟨-, -, e⟩
  · rw [e]; exact h.dropRequest
  · rw [e]; exact (h.join hs hm hr).dropRequest
  · rw [e]
    obtain ⟨he, hc, ⟨ho, hn, -⟩, h1, hq, ha⟩ := h
    refine ⟨he, fun h0 => ?_, ⟨ho, hn, ?_⟩, fun hp => h1 (by simpa using hp), hq, ha⟩
    · obtain ⟨g1, g2, g3, g4⟩ := hc h0
      exact ⟨by simp [g1], g2, g3, g4⟩
    · cases l.inProcess <;> simp [hm]

theorem Link.placeResult_not_awaitsVerdict (l : Link) (m : List Byte) :
    ¬(l.placeResult m).AwaitsVerdict := by
  rcases l.placeResult_cases m with ⟨-, e⟩ | ⟨-, -, e⟩ | ⟨-, -, e⟩ <;> rw [e]
  · simp [Link.AwaitsVerdict]
  · simp [Link.AwaitsVerdict]
  · cases l.inProcess <;> simp [Link.AwaitsVerdict]

@[simp] theorem Link.placeResult_arrived (l : Link) (m : List Byte) :
    (l.placeResult m).arrived = l.arrived := by
  rcases l.placeResult_cases m with ⟨-, e⟩ | ⟨-, -, e⟩ | ⟨-, -, e⟩ <;> rw [e]

theorem Link.CountsInRange.enterHeld {l : Link} (h : l.CountsInRange) :
    l.enterHeld.CountsInRange := by
  rcases l.enterHeld_cases with e | ⟨a, b, c, m, -, hr, e⟩
  · rw [e]; exact h
  · rw [e]
    refine ⟨?_, h.2⟩
    simp only [Config.outboundRoom, List.length_append, List.length_singleton] at hr ⊢
    omega

theorem Link.CountsInRange.placeResult {l : Link} (h : l.CountsInRange) (m : List Byte) :
    (l.placeResult m).CountsInRange := by
  rcases l.placeResult_cases m with ⟨-, e⟩ | ⟨-, hr, e⟩ | ⟨-, -, e⟩ <;> rw [e]
  · exact h
  · refine ⟨?_, h.2⟩
    simp only [List.length_append, List.length_singleton]
    omega
  · exact h

/-! ## Sending -/

/-- An acknowledgement puts the next octet on offer, or lets the head message leave (R136). -/
theorem Link.InOrder.acknowledge {l : Link} (h : l.InOrder) : l.acknowledge.InOrder := by
  unfold Link.acknowledge
  split
  · exact h
  · next j hj =>
    split
    · next hlt =>
      obtain ⟨he, hc, ⟨ho, hn, hh⟩, h1, hq, ha⟩ := h
      obtain ⟨hu, hne, -⟩ := ho j hj
      refine ⟨he, fun h0 => ?_, ⟨?_, hn, hh⟩, h1, hq, ha⟩
      · exact absurd (hc h0).2.1 hne
      · intro x hx
        obtain rfl : j + 1 = x := by simpa using hx
        exact ⟨hu, hne, hlt⟩
    · exact Link.InOrder.enterHeld (l := { l with
        sendSeq := !l.sendSeq, outbound := l.outbound.tail, onOffer := none }) h.dropHead

theorem Link.InOrder.seeRefusal {l : Link} (h : l.InOrder) (v r : Bool) :
    (l.seeRefusal v r).InOrder := by
  unfold Link.seeRefusal
  split
  · exact h
  · split
    · split <;> exact h
    · exact h

theorem Link.InOrder.dropRefused {l : Link} (h : l.InOrder) : l.dropRefused.InOrder := by
  unfold Link.dropRefused
  split
  · dsimp only
    split
    · exact Link.InOrder.enterHeld (l := { l with
        refusalSeen := 0, refusalLatch := true, outbound := l.outbound.tail, onOffer := none,
        ackCount := 0 }) h.dropHead
    · exact h
  · exact h

/-- Entry into STALLED from a session empties the queue (R139). -/
theorem Link.InOrder.stall {l : Link} (h : l.InOrder) (hs : l.hasSession = true) :
    l.stall.InOrder := by
  obtain ⟨he, hc, ⟨-, -, hh⟩, h1, -, ha⟩ := h
  refine Link.InOrder.enterHeld ⟨?_, ?_, ⟨by simp, by simp, hh⟩, h1, by simp, ha⟩
  · have hd : l.state ≠ .disabled := by
      rcases (Link.hasSession_iff l).mp hs with e | e <;> simp [e]
    simpa [Link.EnableMatches, hd] using he
  · intro h0; simp [Link.hasSession] at h0

theorem Link.InOrder.countAck {l : Link} (h : l.InOrder) (hs : l.hasSession = true) (t : Byte) :
    (l.countAck t).InOrder := by
  unfold Link.countAck
  dsimp only
  split
  · exact Link.InOrder.stall (l := { l with ackCount := l.ackCount + 1 }) h hs
  · exact h

theorem Link.InOrder.offerHead {l : Link} (h : l.InOrder) : l.offerHead.InOrder := by
  unfold Link.offerHead
  split
  · next hc =>
    obtain ⟨hu, -, hne⟩ := hc
    obtain ⟨he, hcl, ⟨-, hn, hh⟩, h1, hq, ha⟩ := h
    refine ⟨he, fun h0 => absurd (hcl h0).2.1 hne, ⟨?_, hn, hh⟩, h1, hq, ha⟩
    intro x hx
    obtain rfl : 0 = x := by simpa using hx
    refine ⟨hu, hne, ?_⟩
    cases hob : l.outbound with
    | nil => exact absurd hob hne
    | cons m rest =>
      have hm : m ≠ [] := hn m (by simp [hob])
      simpa [Link.head, hob] using List.length_pos_of_ne_nil hm
  · exact h

/-! What the steps of sending leave of a link's state and of the request in process. -/

@[simp] theorem Link.enterHeld_state (l : Link) : l.enterHeld.state = l.state := by
  rcases l.enterHeld_cases with e | ⟨a, b, c, m, -, -, e⟩ <;> rw [e]

@[simp] theorem Link.enterHeld_arrived (l : Link) : l.enterHeld.arrived = l.arrived := by
  rcases l.enterHeld_cases with e | ⟨a, b, c, m, -, -, e⟩ <;> rw [e]

/-- What no step of sending or receiving changes: whether the request in process waits for a
verdict, and whether an arrival has been handled. -/
structure Link.SameCourse (l l' : Link) : Prop where
  verdict : l'.AwaitsVerdict ↔ l.AwaitsVerdict
  arrived : l'.arrived = l.arrived

theorem Link.SameCourse.refl (l : Link) : l.SameCourse l := ⟨Iff.rfl, rfl⟩

theorem Link.SameCourse.trans {a b c : Link} (h : a.SameCourse b) (g : b.SameCourse c) :
    a.SameCourse c := ⟨g.verdict.trans h.verdict, g.arrived.trans h.arrived⟩

theorem Link.sameCourse_enterHeld {l m : Link} (hp : m.inProcess = l.inProcess)
    (ha : m.arrived = l.arrived) : l.SameCourse m.enterHeld :=
  ⟨by rw [Link.enterHeld_awaitsVerdict, Link.AwaitsVerdict, hp], by rw [Link.enterHeld_arrived, ha]⟩

theorem Link.sameCourse_acknowledge (l : Link) : l.SameCourse l.acknowledge := by
  unfold Link.acknowledge
  split
  · exact .refl l
  · split
    · exact ⟨Iff.rfl, rfl⟩
    · exact Link.sameCourse_enterHeld rfl rfl

theorem Link.sameCourse_seeRefusal (l : Link) (v r : Bool) : l.SameCourse (l.seeRefusal v r) := by
  unfold Link.seeRefusal
  split
  · exact ⟨Iff.rfl, rfl⟩
  · split
    · split <;> exact ⟨Iff.rfl, rfl⟩
    · exact ⟨Iff.rfl, rfl⟩

theorem Link.sameCourse_dropRefused (l : Link) : l.SameCourse l.dropRefused := by
  unfold Link.dropRefused
  split
  · dsimp only
    split
    · exact Link.sameCourse_enterHeld rfl rfl
    · exact ⟨Iff.rfl, rfl⟩
  · exact .refl l

theorem Link.sameCourse_countAck (l : Link) (t : Byte) : l.SameCourse (l.countAck t) := by
  unfold Link.countAck Link.stall
  dsimp only
  split
  · exact Link.sameCourse_enterHeld rfl rfl
  · exact ⟨Iff.rfl, rfl⟩

theorem Link.sameCourse_offerHead (l : Link) : l.SameCourse l.offerHead := by
  unfold Link.offerHead
  split <;> exact ⟨Iff.rfl, rfl⟩

/-- The ends of steps 2 to 5 (R134): what is left once acknowledgement and refusal are settled, with
the count of an octet that stays on offer where it does, and the next octet put on offer. -/
theorem Link.sendSteps_cases (l : Link) (t : Byte) (v a r : Bool) :
    (∃ m, (m = l ∨ m = l.acknowledge)
        ∧ l.sendSteps t v a r = (m.seeRefusal v r).dropRefused.offerHead)
      ∨ (l.onOffer.isSome = true
        ∧ ((l.seeRefusal v r).recognises && (l.seeRefusal v r).onOffer.isSome) = false
        ∧ l.sendSteps t v a r = ((l.seeRefusal v r).dropRefused.countAck t).offerHead) := by
  unfold Link.sendSteps
  by_cases hack : (v && l.onOffer.isSome && a == l.sendSeq) = true
  · exact .inl ⟨l.acknowledge, .inr rfl, by simp [hack]⟩
  · simp only [hack, Bool.false_eq_true, if_false]
    split
    · next hc =>
      simp only [Bool.not_false, Bool.and_true, Bool.and_eq_true, Bool.not_eq_true'] at hc
      exact .inr ⟨hc.1, hc.2, rfl⟩
    · exact .inl ⟨l, .inl rfl, rfl⟩

theorem Link.sameCourse_sendSteps (l : Link) (t : Byte) (v a r : Bool) :
    l.SameCourse (l.sendSteps t v a r) := by
  have hsettled : ∀ m : Link, m.SameCourse (m.seeRefusal v r).dropRefused := fun m =>
    (m.sameCourse_seeRefusal v r).trans (Link.sameCourse_dropRefused _)
  rcases l.sendSteps_cases t v a r with ⟨m, hm, e⟩ | ⟨-, -, e⟩ <;> rw [e]
  · refine Link.SameCourse.trans ?_ (Link.sameCourse_offerHead _)
    rcases hm with rfl | rfl
    · exact hsettled m
    · exact l.sameCourse_acknowledge.trans (hsettled _)
  · exact ((hsettled l).trans (Link.sameCourse_countAck _ t)).trans (Link.sameCourse_offerHead _)

@[simp] theorem Link.acknowledge_state (l : Link) : l.acknowledge.state = l.state := by
  unfold Link.acknowledge
  split
  · rfl
  · split <;> simp

@[simp] theorem Link.seeRefusal_state (l : Link) (v r : Bool) :
    (l.seeRefusal v r).state = l.state := by
  unfold Link.seeRefusal
  split
  · rfl
  · split
    · split <;> rfl
    · rfl

@[simp] theorem Link.seeRefusal_onOffer (l : Link) (v r : Bool) :
    (l.seeRefusal v r).onOffer = l.onOffer := by
  unfold Link.seeRefusal
  split
  · rfl
  · split
    · split <;> rfl
    · rfl

@[simp] theorem Link.dropRefused_state (l : Link) : l.dropRefused.state = l.state := by
  unfold Link.dropRefused
  split
  · dsimp only
    split <;> simp
  · rfl

@[simp] theorem Link.offerHead_state (l : Link) : l.offerHead.state = l.state := by
  unfold Link.offerHead
  split <;> rfl

theorem Link.countAck_hasSession {l : Link} (hs : l.hasSession = true) (t : Byte) :
    (l.countAck t).hasSession = true := by
  unfold Link.countAck
  dsimp only
  split
  · simp [Link.stall, Link.hasSession]
  · exact hs

theorem Link.InOrder.sendSteps {l : Link} (h : l.InOrder) (hs : l.hasSession = true) (t : Byte)
    (v a r : Bool) : (l.sendSteps t v a r).InOrder := by
  rcases l.sendSteps_cases t v a r with ⟨m, hm, e⟩ | ⟨-, -, e⟩ <;> rw [e]
  · have hm' : m.InOrder := by
      rcases hm with rfl | rfl
      · exact h
      · exact h.acknowledge
    exact (hm'.seeRefusal v r).dropRefused.offerHead
  · refine (((h.seeRefusal v r).dropRefused).countAck ?_ t).offerHead
    simpa [Link.hasSession] using hs

/-- Sending leaves a session a session: UP, or STALLED where the acknowledge count ran out (R138).
-/
theorem Link.sendSteps_hasSession {l : Link} (hs : l.hasSession = true) (t : Byte) (v a r : Bool) :
    (l.sendSteps t v a r).hasSession = true := by
  have hoffer : ∀ m : Link, m.hasSession = true → m.offerHead.hasSession = true := fun m hm => by
    simpa [Link.hasSession] using hm
  rcases l.sendSteps_cases t v a r with ⟨m, hm, e⟩ | ⟨-, -, e⟩ <;> rw [e] <;> refine hoffer _ ?_
  · have hst : m.state = l.state := by rcases hm with rfl | rfl <;> simp
    simpa [Link.hasSession, hst] using hs
  · exact Link.countAck_hasSession (by simpa [Link.hasSession] using hs) t

/-! ### The ranges of the counts while sending -/

theorem Link.CountsInRange.acknowledge {l : Link} (h : l.CountsInRange) :
    l.acknowledge.CountsInRange := by
  unfold Link.acknowledge
  split
  · exact h
  · obtain ⟨ho, ha, hw, hp, hpa, hl, hls, hk, hko, hr, hrun, hac, hd⟩ := h
    split
    · exact ⟨ho, ha, hw, hp, hpa, hl, hls, by simp, by simp, hr, hrun, hac, hd⟩
    · refine Link.CountsInRange.enterHeld
        ⟨?_, ha, hw, hp, hpa, hl, hls, hk, by simp, hr, hrun, hac, hd⟩
      simp only [List.length_tail]
      omega

/-- The count of refusals seen before a refusal is recognised: at most one above its range, and
every other count as it was (R137). -/
theorem Link.CountsInRange.seeRefusal {l : Link} (h : l.CountsInRange) (v r : Bool) :
    ({ l.seeRefusal v r with refusalSeen := 0 } : Link).CountsInRange
      ∧ (l.seeRefusal v r).refusalSeen ≤ 2 := by
  obtain ⟨ho, ha, hw, hp, hpa, hl, hls, hk, hko, hr, hrun, hac, hd⟩ := h
  have h0 : ({ l with refusalSeen := 0 } : Link).CountsInRange :=
    ⟨ho, ha, hw, hp, hpa, hl, hls, hk, hko, by simp, hrun, hac, hd⟩
  unfold Link.seeRefusal
  split
  · exact ⟨h0, by simp⟩
  · split
    · split
      · exact ⟨h0, by omega⟩
      · exact ⟨h0, by simp; omega⟩
    · exact ⟨h0, by simp⟩

/-- A recognised refusal sets its count back (R137). -/
theorem Link.countsInRange_dropRefused {l : Link}
    (h : ({ l with refusalSeen := 0 } : Link).CountsInRange) : l.dropRefused.CountsInRange := by
  obtain ⟨ho, ha, hw, hp, hpa, hl, hls, hk, hko, -, hrun, hac, hd⟩ := h
  unfold Link.dropRefused
  split
  · dsimp only
    split
    · refine Link.CountsInRange.enterHeld
        ⟨?_, ha, hw, hp, hpa, hl, hls, by simp, by simp, by simp, hrun, hac, hd⟩
      simp only [List.length_tail] at ho ⊢
      omega
    · exact ⟨ho, ha, hw, hp, hpa, hl, hls, hk, hko, by simp, hrun, hac, hd⟩
  · next hc =>
    have hlt : ¬Config.refusalFrames ≤ l.refusalSeen := by simpa [Link.recognises] using hc
    simp only [Config.refusalFrames, Nat.not_le] at hlt
    exact ⟨ho, ha, hw, hp, hpa, hl, hls, hk, hko, Nat.le_of_lt_succ hlt, hrun, hac, hd⟩

/-- An octet that stays on offer: its count ends in STALLED before it leaves its range (R138). -/
theorem Link.CountsInRange.countAck {l : Link} (h : l.CountsInRange) (hs : l.hasSession = true)
    (hoff : l.onOffer.isSome = true) (t : Byte) : (l.countAck t).CountsInRange := by
  obtain ⟨ho, ha, hw, hp, hpa, hl, hls, hk, hko, hr, hrun, hac, hd⟩ := h
  have h254 := hko hoff
  have ht := t.isLt
  unfold Link.countAck
  dsimp only
  split
  · refine Link.CountsInRange.enterHeld ⟨by simp, ha, hw, hp, by simp, hl, fun _ => hls hs, ?_,
      by simp, hr, hrun, hac, hd⟩
    simp only
    omega
  · next hc =>
    refine ⟨ho, ha, hw, hp, hpa, hl, hls, ?_, fun _ => ?_, hr, hrun, hac, hd⟩ <;>
      simp only at hc ⊢ <;>
      omega

theorem Link.CountsInRange.offerHead {l : Link} (h : l.CountsInRange) :
    l.offerHead.CountsInRange := by
  unfold Link.offerHead
  split
  · obtain ⟨ho, ha, hw, hp, hpa, hl, hls, -, -, hr, hrun, hac, hd⟩ := h
    exact ⟨ho, ha, hw, hp, hpa, hl, hls, by simp, by simp, hr, hrun, hac, hd⟩
  · exact h

/-- Where a refusal is not recognised, or nothing is on offer, what is on offer stays (R137). -/
theorem Link.dropRefused_onOffer {l : Link} (h : (l.recognises && l.onOffer.isSome) = false) :
    l.dropRefused.onOffer = l.onOffer := by
  unfold Link.dropRefused
  split
  · next hr =>
    simp only [hr, Bool.true_and] at h
    dsimp only
    rw [if_neg (by simp [h])]
  · rfl

theorem Link.CountsInRange.sendSteps {l : Link} (h : l.CountsInRange) (hs : l.hasSession = true)
    (t : Byte) (v a r : Bool) : (l.sendSteps t v a r).CountsInRange := by
  have hsettled : ∀ m : Link, m.CountsInRange → (m.seeRefusal v r).dropRefused.CountsInRange :=
    fun m hm => Link.countsInRange_dropRefused (hm.seeRefusal v r).1
  rcases l.sendSteps_cases t v a r with ⟨m, hm, e⟩ | ⟨hoff, hdrop, e⟩ <;> rw [e] <;>
    refine Link.CountsInRange.offerHead ?_
  · rcases hm with rfl | rfl
    · exact hsettled _ h
    · exact hsettled _ h.acknowledge
  · refine (hsettled l h).countAck (by simpa [Link.hasSession] using hs) ?_ t
    rw [Link.dropRefused_onOffer hdrop, Link.seeRefusal_onOffer]
    exact hoff

/-! ## Receiving -/

theorem Link.InOrder.refuseMessage {l : Link} (h : l.InOrder) : l.refuseMessage.InOrder := by
  obtain ⟨he, hc, ho, -, hq, -⟩ := h
  refine ⟨he, fun h0 => ?_, ho, fun _ => rfl, hq, by simp [Link.refuseMessage]⟩
  obtain ⟨g1, g2, g3, -⟩ := hc h0
  exact ⟨g1, g2, g3, rfl⟩

/-- A finished message goes into process where none was (R141, R142). -/
theorem Link.InOrder.finishMessage {l : Link} (h : l.InOrder) (hs : l.hasSession = true)
    (msg : List Byte) : (l.finishMessage msg).InOrder := by
  obtain ⟨he, hc, ⟨ho, hn, -⟩, -, hq, -⟩ := h
  have hsess : ∀ q : InProcess, q.phase = .handed →
      ({ l with assembly := [], inProcess := some q } : Link).InOrder := fun q hph =>
    ⟨he, fun h0 => absurd (hs.symm.trans h0) (by simp), ⟨ho, hn, by simp [hph]⟩, fun _ => rfl, hq,
      by simp⟩
  unfold Link.finishMessage
  dsimp only
  split
  · exact hsess _ rfl
  · exact (hsess _ rfl).placeResult (Reply.result_ne_nil _ _)

theorem Link.finishMessage_not_awaitsVerdict (l : Link) (msg : List Byte) :
    ¬(l.finishMessage msg).AwaitsVerdict := by
  unfold Link.finishMessage
  dsimp only
  split
  · simp [Link.AwaitsVerdict]
  · exact Link.placeResult_not_awaitsVerdict _ _

@[simp] theorem Link.finishMessage_arrived (l : Link) (msg : List Byte) :
    (l.finishMessage msg).arrived = l.arrived := by
  unfold Link.finishMessage
  dsimp only
  split <;> simp

theorem Link.CountsInRange.finishMessage {l : Link} (h : l.CountsInRange) (msg : List Byte) :
    (l.finishMessage msg).CountsInRange := by
  obtain ⟨ho, -, h⟩ := h
  have hnew : ∀ q : InProcess,
      ({ l with assembly := [], inProcess := some q } : Link).CountsInRange := fun _ =>
    ⟨ho, by simp, h⟩
  unfold Link.finishMessage
  dsimp only
  split
  · exact hnew _
  · exact (hnew _).placeResult _

/-- An octet is taken where no request is in process and the message has room for it (R141 to R143).
-/
theorem Link.InOrder.takeOctet {l : Link} (h : l.InOrder) (hs : l.hasSession = true)
    (hp : l.inProcess = none) (hr : l.assembly.length ≠ Config.longestMessage) (c : Byte)
    (q f : Bool) : (l.takeOctet c q f).InOrder := by
  obtain ⟨he, hc, ho, h1, hq, ha⟩ := h
  have hnew : ({ l with
      assembly := l.assembly ++ [c], receiveAck := q, expectedSeq := !l.expectedSeq,
      assemblyCount := 0 } : Link).InOrder := by
    refine ⟨he, fun h0 => absurd (hs.symm.trans h0) (by simp), ho, by simp [hp], hq, ?_⟩
    simp only [Config.longestMessage, List.length_append, List.length_singleton] at hr ha ⊢
    omega
  unfold Link.takeOctet
  dsimp only
  split
  · exact hnew.finishMessage hs _
  · exact hnew

theorem Link.sameCourse_takeOctet (l : Link) (hp : l.inProcess = none) (c : Byte) (q f : Bool) :
    l.SameCourse (l.takeOctet c q f) := by
  unfold Link.takeOctet
  dsimp only
  split
  · exact ⟨iff_of_false (Link.finishMessage_not_awaitsVerdict _ _)
      (Link.not_awaitsVerdict_of_none hp), by simp⟩
  · exact ⟨Iff.rfl, rfl⟩

theorem Link.CountsInRange.takeOctet {l : Link} (h : l.CountsInRange)
    (hr : l.assembly.length ≠ Config.longestMessage) (c : Byte) (q f : Bool) :
    (l.takeOctet c q f).CountsInRange := by
  obtain ⟨ho, ha, hw, hp, hpa, hl, hls, hk, hko, hrs, hrun, hac, hd⟩ := h
  have hnew : ({ l with
      assembly := l.assembly ++ [c], receiveAck := q, expectedSeq := !l.expectedSeq,
      assemblyCount := 0 } : Link).CountsInRange := by
    refine ⟨ho, ?_, hw, hp, hpa, hl, hls, hk, hko, hrs, hrun, by simp, hd⟩
    simp only [Config.longestMessage, List.length_append, List.length_singleton] at hr ⊢
    omega
  unfold Link.takeOctet
  dsimp only
  split
  · exact hnew.finishMessage _
  · exact hnew

theorem Link.nextRun_le (l : Link) (v d : Bool) (x : Shown) : l.nextRun v d x ≤ 3 := by
  unfold Link.nextRun
  split
  · omega
  · split <;> omega

/-- The channel in step 6 before the octet is looked at: run, previous arrival and display written
(R140, R145). -/
def Link.noteArrival (valid : Bool) (shown : Shown) (l : Link) : Link :=
  { l with
    run := l.nextRun valid (decide (0 < l.refusalDisplay)) shown
    before := shown
    refusalDisplay := l.refusalDisplay - 1 }

/-- The four ends of step 6 (R141 to R145): the arrival is noted and no more, the message is
refused, an octet is taken, or the assembly count goes up short of its end. -/
theorem Link.receiveStep_cases (cfg : Settings) (v : Bool) (x : Shown) (l : Link) :
    l.receiveStep cfg v x = l.noteArrival v x
      ∨ (∃ n, l.receiveStep cfg v x =
          ({ l.noteArrival v x with assemblyCount := n } : Link).refuseMessage)
      ∨ (¬(l.assembly = [] ∧ l.inProcess.isSome = true)
          ∧ l.assembly.length ≠ Config.longestMessage
          ∧ l.receiveStep cfg v x = (l.noteArrival v x).takeOctet x.channel x.seq x.final)
      ∨ (l.assemblyCount + 1 < cfg.assemblyTimeout.toNat
          ∧ l.receiveStep cfg v x =
              { l.noteArrival v x with assemblyCount := l.assemblyCount + 1 }) := by
  unfold Link.receiveStep
  dsimp only
  split
  · split
    · exact .inl rfl
    · split
      · exact .inl rfl
      · next hproc =>
        split
        · exact .inr (.inl ⟨_, rfl⟩)
        · next hlen =>
          split
          · exact .inr (.inl ⟨_, rfl⟩)
          · exact .inr (.inr (.inl ⟨hproc, hlen, rfl⟩))
  · split
    · exact .inl rfl
    · split
      · exact .inr (.inl ⟨_, rfl⟩)
      · next hlt => exact .inr (.inr (.inr ⟨Nat.lt_of_not_le hlt, rfl⟩))

theorem Link.InOrder.receiveStep {l : Link} (h : l.InOrder) (hs : l.hasSession = true)
    (cfg : Settings) (v : Bool) (x : Shown) : (l.receiveStep cfg v x).InOrder := by
  have hn : (l.noteArrival v x).InOrder := h
  rcases l.receiveStep_cases cfg v x with e | ⟨n, e⟩ | ⟨hp, hr, e⟩ | ⟨-, e⟩ <;> rw [e]
  · exact hn
  · exact Link.InOrder.refuseMessage (l := { l.noteArrival v x with assemblyCount := n }) hn
  · refine hn.takeOctet hs ?_ hr _ _ _
    by_contra hne
    have hsome : l.inProcess.isSome = true := Option.isSome_iff_ne_none.mpr hne
    exact hp ⟨h.2.2.2.1 hsome, hsome⟩
  · exact hn

theorem Link.InOrder.sameCourse_receiveStep {l : Link} (h : l.InOrder) (cfg : Settings) (v : Bool)
    (x : Shown) : l.SameCourse (l.receiveStep cfg v x) := by
  rcases l.receiveStep_cases cfg v x with e | ⟨n, e⟩ | ⟨hp, -, e⟩ | ⟨-, e⟩ <;> rw [e]
  · exact ⟨Iff.rfl, rfl⟩
  · exact ⟨Iff.rfl, rfl⟩
  · refine Link.SameCourse.trans (b := l.noteArrival v x) ⟨Iff.rfl, rfl⟩
      (Link.sameCourse_takeOctet _ ?_ _ _ _)
    by_contra hne
    have hsome : l.inProcess.isSome = true := Option.isSome_iff_ne_none.mpr hne
    exact hp ⟨h.2.2.2.1 hsome, hsome⟩
  · exact ⟨Iff.rfl, rfl⟩

theorem Link.CountsInRange.noteArrival {l : Link} (h : l.CountsInRange) (v : Bool) (x : Shown) :
    (l.noteArrival v x).CountsInRange := by
  obtain ⟨ho, ha, hw, hp, hpa, hl, hls, hk, hko, hr, -, hac, hd⟩ := h
  exact ⟨ho, ha, hw, hp, hpa, hl, hls, hk, hko, hr, l.nextRun_le _ _ _, hac,
    (Nat.sub_le _ _).trans hd⟩

theorem Link.CountsInRange.receiveStep {l : Link} (h : l.CountsInRange) (cfg : Settings) (v : Bool)
    (x : Shown) : (l.receiveStep cfg v x).CountsInRange := by
  have hn := h.noteArrival v x
  rcases l.receiveStep_cases cfg v x with e | ⟨n, e⟩ | ⟨-, hr, e⟩ | ⟨hlt, e⟩ <;> rw [e]
  · exact hn
  · obtain ⟨ho, -, hw, hp, hpa, hl, hls, hk, hko, hrs, -, -, -⟩ := hn
    exact ⟨ho, by simp [Link.refuseMessage], hw, hp, hpa, hl, hls, hk, hko, hrs,
      by simp [Link.refuseMessage], by simp [Link.refuseMessage],
      by simp [Link.refuseMessage, Config.refusalShown]⟩
  · exact hn.takeOctet hr _ _ _
  · obtain ⟨ho, ha, hw, hp, hpa, hl, hls, hk, hko, hrs, hrun, -, hd⟩ := hn
    have := cfg.assemblyTimeout.isLt
    exact ⟨ho, ha, hw, hp, hpa, hl, hls, hk, hko, hrs, hrun, by simp only; omega, hd⟩

/-! ## A whole arrival in a session -/

/-- What stands of a link, whatever becomes of it: its messages stay in order, its counts in range,
and its course the same. -/
structure Link.Keeps (l l' : Link) : Prop where
  inOrder : l.InOrder → l'.InOrder
  counts : l.CountsInRange → l'.CountsInRange
  verdict : l.InOrder → (l'.AwaitsVerdict ↔ l.AwaitsVerdict)
  arrived : l.arrived = l'.arrived

theorem Link.Keeps.refl (l : Link) : l.Keeps l := ⟨id, id, fun _ => Iff.rfl, rfl⟩

theorem Link.Keeps.trans {a b c : Link} (h : a.Keeps b) (g : b.Keeps c) : a.Keeps c :=
  ⟨fun ha => g.inOrder (h.inOrder ha), fun ha => g.counts (h.counts ha),
    fun ha => (g.verdict (h.inOrder ha)).trans (h.verdict ha), h.arrived.trans g.arrived⟩

/-- What the Circuit Manager's order asks of a change of one link. -/
def Link.KeepsOrder (l l' : Link) : Prop :=
  l.InOrder → l'.InOrder ∧ (l'.AwaitsVerdict ↔ l.AwaitsVerdict)

theorem Link.Keeps.order {l l' : Link} (h : l.Keeps l') : l.KeepsOrder l' :=
  fun hl => ⟨h.inOrder hl, h.verdict hl⟩

theorem Link.takeOctet_arrived (l : Link) (c : Byte) (q f : Bool) :
    (l.takeOctet c q f).arrived = l.arrived := by
  unfold Link.takeOctet
  dsimp only
  split <;> simp

theorem Link.receiveStep_arrived (l : Link) (cfg : Settings) (v : Bool) (x : Shown) :
    (l.receiveStep cfg v x).arrived = l.arrived := by
  rcases l.receiveStep_cases cfg v x with e | ⟨n, e⟩ | ⟨-, -, e⟩ | ⟨-, e⟩ <;> rw [e]
  · rfl
  · rfl
  · rw [Link.takeOctet_arrived]; rfl
  · rfl

/-- Steps 2 to 5 of an arrival, in UP and in STALLED (R134, R139). -/
theorem Link.keeps_sent {l : Link} (hs : l.hasSession = true) (t : Byte) (v a r : Bool) :
    l.Keeps (if l.state = .up then l.sendSteps t v a r else (l.seeRefusal v r).dropRefused)
      ∧ (if l.state = .up then l.sendSteps t v a r
          else (l.seeRefusal v r).dropRefused).hasSession = true := by
  split
  · have hc := l.sameCourse_sendSteps t v a r
    exact ⟨⟨fun h => h.sendSteps hs _ _ _ _, fun h => h.sendSteps hs _ _ _ _, fun _ => hc.verdict,
      hc.arrived.symm⟩, Link.sendSteps_hasSession hs _ _ _ _⟩
  · have hc := (l.sameCourse_seeRefusal v r).trans (Link.sameCourse_dropRefused _)
    exact ⟨⟨fun h => (h.seeRefusal v r).dropRefused,
      fun h => Link.countsInRange_dropRefused (h.seeRefusal v r).1, fun _ => hc.verdict,
      hc.arrived.symm⟩, by simpa [Link.hasSession] using hs⟩

/-- Step 6 of an arrival (R140 to R145). -/
theorem Link.keeps_receiveStep {l : Link} (hs : l.hasSession = true) (cfg : Settings) (v : Bool)
    (x : Shown) : l.Keeps (l.receiveStep cfg v x) :=
  ⟨fun h => h.receiveStep hs _ _ _, fun h => h.receiveStep _ _ _,
    fun h => (h.sameCourse_receiveStep _ _ _).verdict, (l.receiveStep_arrived _ _ _).symm⟩

/-- An arrival that a session outlives (R134). -/
theorem Link.keeps_sessionSteps {l : Link} (hs : l.hasSession = true) (cfg : Settings) (v : Bool)
    (chan shake : Byte) : l.Keeps (l.sessionSteps cfg v chan shake) := by
  obtain ⟨hk, hsess⟩ := Link.keeps_sent hs cfg.ackTimeout v (shake.getLsbD 1) (shake.getLsbD 0)
  exact hk.trans (Link.keeps_receiveStep hsess cfg v _)

/-! ## Other changes of a channel -/

/-- A RESULT for a request that no referral holds (R155). -/
theorem Link.keeps_placeResult {l : Link} (hv : ¬l.AwaitsVerdict) {m : List Byte} (hm : m ≠ []) :
    l.Keeps (l.placeResult m) :=
  ⟨fun h => h.placeResult hm, fun h => h.placeResult m,
    fun _ => iff_of_false (l.placeResult_not_awaitsVerdict m) hv, (l.placeResult_arrived m).symm⟩

/-- A notice joins the outbound queue, or is lost (R160, R162). -/
theorem State.keeps_notify (s : State) (k j : LinkNo) (n : Notice) (x g : Byte) :
    (s.link j).Keeps ((s.notify k n x g).link j) := by
  rw [State.link_notify]
  split
  · next hkj =>
    subst hkj
    split
    · next hs =>
      split
      · next hr =>
        have hr' : (s.link k).outbound.length < Config.outboundRoom := hr
        refine ⟨fun h => h.join hs (n.message_ne_nil _ _ _) hr', fun h => ⟨?_, h.2⟩,
          fun _ => Iff.rfl,
          rfl⟩
        simp only [List.length_append, List.length_singleton]
        omega
      · exact ⟨id, id, fun _ => Iff.rfl, rfl⟩
    · exact ⟨id, id, fun _ => Iff.rfl, rfl⟩
  · exact .refl _

theorem State.keeps_notifyOwner (s : State) (o : Option Owner) (j : LinkNo) (n : Notice)
    (i : RecNo) (g : Byte) : (s.link j).Keeps ((s.notifyOwner o n i g).link j) := by
  unfold State.notifyOwner
  split
  · exact s.keeps_notify _ _ _ _ _
  · exact .refl _

/-- A link cleared of its session has no request and no message (R133). -/
theorem Link.InOrder.clear {l : Link} (h : l.InOrder) : l.clear.InOrder :=
  ⟨h.1, fun _ => ⟨rfl, rfl, rfl, rfl⟩, ⟨by simp [Link.clear], by simp [Link.clear],
    by simp [Link.clear]⟩, by simp [Link.clear], by simp [Link.clear], by simp [Link.clear]⟩

/-- Entry into ABSENT of a link whose session is clear (R131). -/
theorem Link.inOrder_enterAbsent {l : Link} (he : l.enable = true) (hp : l.inProcess = none)
    (ho : l.outbound = []) (hf : l.onOffer = none) (ha : l.assembly = []) :
    l.enterAbsent.InOrder := by
  refine ⟨?_, fun _ => ⟨hp, ho, hf, ha⟩, ⟨?_, ?_, ?_⟩, ?_, ?_, ?_⟩ <;>
    simp [Link.enterAbsent, he, hp, ho, hf, ha, Link.EnableMatches]

theorem Link.countsInRange_enterUp {l : Link} (ho : l.outbound.length ≤ 4) (hw : l.withdrawal ≤ 4)
    (hp : l.presence ≤ 4) : l.enterUp.CountsInRange :=
  ⟨ho, by simp [Link.enterUp], hw, hp, by simp [Link.enterUp], by simp [Link.enterUp],
    by simp [Link.enterUp], by simp [Link.enterUp], by simp [Link.enterUp],
    by simp [Link.enterUp], by simp [Link.enterUp], by simp [Link.enterUp],
    by simp [Link.enterUp]⟩

/-- Entry into UP with the presence count that brings it about (R131). -/
theorem Link.keeps_enterUp {l : Link} (hst : l.state = .absent) :
    l.Keeps { l with presence := l.presence + 1 }.enterUp := by
  refine ⟨fun h => ?_, fun h => ?_, fun _ => Iff.rfl, rfl⟩
  · obtain ⟨hp, ho, -, -⟩ := h.2.1 ((Link.hasSession_false_iff l).mpr (.inr hst))
    have he := h.1
    refine ⟨?_, ?_, ⟨?_, ?_, ?_⟩, ?_, ?_, ?_⟩ <;>
      simp_all [Link.enterUp, Link.EnableMatches, Link.hasSession]
  · obtain ⟨ho, -, hw, -, hp, -⟩ := h
    exact Link.countsInRange_enterUp ho hw (Nat.succ_le_succ (hp hst))

/-- The items of R129 at their reset values, on an enabled link or on a disabled one. -/
theorem Link.inOrder_resetItems (l : Link) (b : Bool) (st : LinkState) (n : Bool)
    (hb : b = false ↔ st = .disabled) :
    ({ l.resetItems with enable := b, state := st, noticeLost := n } : Link).InOrder := by
  refine ⟨hb, fun _ => ⟨rfl, rfl, rfl, rfl⟩, ⟨?_, ?_, ?_⟩, ?_, ?_, ?_⟩ <;> simp [Link.resetItems]

end Sys2Proof.Machine
end

-- ==== Proofs: operations on one circuit ====
section
/-! SUPPORT. What an operation on one circuit leaves alone: every other record with its claims and
its queue entry, the Timing Unit, the settings, the referrals, and the order of the links. The
relation `State.ActsOn` says it once; it holds of every operation of a circuit and of any number of
them. -/

namespace Sys2Proof.Machine

-- The proofs are elaborated one after another: many at once take the text past its memory limit.
set_option Elab.async false

/-! ## The count of attention -/

/-- Writing one record counts its old mark out and its new mark in (R16). -/
theorem countP_attention_setRecord (s : State) (i : RecNo) (r : Record) :
    (s.setRecord i r).manager.table.toList.countP Record.attention
        + (if (s.record i).attention then 1 else 0)
      = s.manager.table.toList.countP Record.attention + (if r.attention then 1 else 0) := by
  have hi : i.val < s.manager.table.toList.length := by simp
  have hset : (s.setRecord i r).manager.table.toList = s.manager.table.toList.set i r := by
    simp [State.setRecord, Vector.toList_set]
  have hget : s.manager.table.toList[i.val] = s.record i := by simp [State.record]
  rw [hset, List.countP_set hi, hget]
  by_cases ha : (s.record i).attention = true
  · have hpos : 0 < s.manager.table.toList.countP Record.attention :=
      List.countP_pos_iff.mpr ⟨_, List.getElem_mem hi, by rw [hget]; exact ha⟩
    simp only [ha, if_true]
    omega
  · simp [ha]

theorem State.AttentionCounted.setRecord {s : State} (h : s.AttentionCounted) {i : RecNo}
    {r : Record} (hr : r.attention = (s.record i).attention) :
    (s.setRecord i r).AttentionCounted := by
  have hc := countP_attention_setRecord s i r
  rw [hr] at hc
  unfold State.AttentionCounted at h ⊢
  rw [State.setRecord_manager_attentionCount]
  omega

theorem State.AttentionCounted.setAttention {s : State} (h : s.AttentionCounted) (i : RecNo) :
    (s.setAttention i).AttentionCounted := by
  unfold State.setAttention
  split
  · exact h
  · next ha =>
    have hc := countP_attention_setRecord s i { s.record i with attention := true }
    simp only [ha, Bool.false_eq_true, if_false, if_true] at hc
    unfold State.AttentionCounted at h ⊢
    simp only [State.raise_manager, State.setRecord_manager_attentionCount] at hc ⊢
    omega

theorem State.AttentionCounted.clearAttention {s : State} (h : s.AttentionCounted) (i : RecNo) :
    (s.clearAttention i).AttentionCounted := by
  unfold State.clearAttention
  split
  · next ha =>
    have hc := countP_attention_setRecord s i { s.record i with attention := false }
    simp only [ha, if_true, Bool.false_eq_true, if_false] at hc
    unfold State.AttentionCounted at h ⊢
    simp only [State.setRecord_manager_attentionCount] at hc ⊢
    omega
  · exact h

/-! ## The relation -/

/-- An entry of the map that record i may claim or gives up: OPEN, or claimed by it already (R19).
-/
def PosEntry.FreeFor (i : RecNo) (e : PosEntry) : Prop := e = .openPos ∨ ∃ ph, e = .claimed i ph

/-- A step from one state to another has acted on record i alone. The mailbox, the egress program,
and what the Switch Path and the Host Port hold, are left open. -/
structure State.ActsOn (i : RecNo) (s t : State) : Prop where
  records : ∀ j, j ≠ i → t.record j = s.record j
  entries : ∀ j, j ≠ i → t.entriesOf j = s.entriesOf j
  claims : ∀ (p : Plane) (l : Fin 8) (q : Fin 40), t.entry p l q = s.entry p l q
    ∨ ((s.entry p l q).FreeFor i ∧ (t.entry p l q).FreeFor i)
  attention : s.AttentionCounted → t.AttentionCounted
  links : ∀ k, (s.link k).Keeps (t.link k)
  referrals : t.referrals = s.referrals
  timing : t.timing = s.timing
  settings : t.settings = s.settings
  application : t.manager.applicationDue = s.manager.applicationDue
  tick : t.manager.tickDue = s.manager.tickDue
  timeouts : t.manager.timeouts = s.manager.timeouts

variable {s t u : State} {i j : RecNo}

theorem State.ActsOn.refl (i : RecNo) (s : State) : s.ActsOn i s where
  records _ _ := rfl
  entries _ _ := rfl
  claims _ _ _ := .inl rfl
  attention := id
  links _ := .refl _
  referrals := rfl
  timing := rfl
  settings := rfl
  application := rfl
  tick := rfl
  timeouts := rfl

theorem State.ActsOn.trans (h : s.ActsOn i t) (g : t.ActsOn i u) : s.ActsOn i u where
  records j hj := (g.records j hj).trans (h.records j hj)
  entries j hj := (g.entries j hj).trans (h.entries j hj)
  claims p l q := by
    rcases h.claims p l q with e | ⟨a, b⟩ <;> rcases g.claims p l q with e' | ⟨a', b'⟩
    · exact .inl (e'.trans e)
    · exact .inr ⟨e ▸ a', b'⟩
    · exact .inr ⟨a, e'.symm ▸ b⟩
    · exact .inr ⟨a, b'⟩
  attention hs := g.attention (h.attention hs)
  links k := (h.links k).trans (g.links k)
  referrals := g.referrals.trans h.referrals
  timing := g.timing.trans h.timing
  settings := g.settings.trans h.settings
  application := g.application.trans h.application
  tick := g.tick.trans h.tick
  timeouts := g.timeouts.trans h.timeouts

/-- What leaves the Circuit Manager, the referrals, the Timing Unit and the settings as they are,
and keeps the links in order, acts on any record. -/
theorem State.ActsOn.of_sameManager (hm : t.manager = s.manager)
    (hl : ∀ k, (s.link k).Keeps (t.link k)) (hr : t.referrals = s.referrals)
    (ht : t.timing = s.timing) (hs : t.settings = s.settings) : s.ActsOn i t where
  records j _ := State.record_congr (by rw [hm]) j
  entries j _ := by simp only [State.entriesOf, hm]
  claims p l q := .inl (State.entry_congr (by rw [hm]) p l q)
  attention h := by
    unfold State.AttentionCounted at h ⊢
    rw [hm]; exact h
  links := hl
  referrals := hr
  timing := ht
  settings := hs
  application := by rw [hm]
  tick := by rw [hm]
  timeouts := by rw [hm]

/-! ### The operations that records are written by -/

theorem State.actsOn_setRecord (s : State) (i : RecNo) (r : Record)
    (hr : r.attention = (s.record i).attention) : s.ActsOn i (s.setRecord i r) :=
  { State.ActsOn.refl i s with
    records := fun j hj => by rw [State.record_setRecord, if_neg (Ne.symm hj)]
    attention := fun h => h.setRecord hr }

theorem State.actsOn_setAttention (s : State) (i : RecNo) : s.ActsOn i (s.setAttention i) := by
  have e := s.setAttention_eq i
  refine { State.ActsOn.refl i s with
    records := fun j hj => by rw [State.record_setAttention, if_neg (Ne.symm hj)]
    entries := fun j hj => ?_
    claims := fun p l q => .inl (State.entry_congr ?_ p l q)
    attention := fun h => h.setAttention i
    links := fun k => ?_
    referrals := ?_
    timing := ?_
    settings := ?_
    application := ?_
    tick := ?_
    timeouts := ?_ }
  · simp only [State.entriesOf]; rw [e]
  · rw [e]
  · rw [State.link_congr (t := s.setAttention i) (s := s) (by rw [e])]; exact .refl _
  all_goals rw [e]

theorem State.actsOn_clearAttention (s : State) (i : RecNo) : s.ActsOn i (s.clearAttention i) := by
  have e := s.clearAttention_eq i
  refine { State.ActsOn.refl i s with
    records := fun j hj => by rw [State.record_clearAttention, if_neg (Ne.symm hj)]
    entries := fun j hj => ?_
    claims := fun p l q => .inl (State.entry_congr ?_ p l q)
    attention := fun h => h.clearAttention i
    links := fun k => ?_
    referrals := ?_
    timing := ?_
    settings := ?_
    application := ?_
    tick := ?_
    timeouts := ?_ }
  · simp only [State.entriesOf]; rw [e]
  · rw [e]
  · rw [State.link_congr (t := s.clearAttention i) (s := s) (by rw [e])]; exact .refl _
  all_goals rw [e]

/-! ### The operations on the position map and the egress program -/

/-- An update of the map that leaves an entry as it is, or finds it free for record i and leaves it
so. -/
theorem State.actsOn_updateMap (s : State) (i : RecNo) (f : Plane → Nat → Nat → PosEntry → PosEntry)
    (hf : ∀ p l q e, f p l q e = e ∨ (e.FreeFor i ∧ (f p l q e).FreeFor i)) :
    s.ActsOn i (s.updateMap f) :=
  { State.ActsOn.refl i s with
    claims := fun p l q => by
      rw [State.entry_updateMap s f l.isLt q.isLt]
      exact hf p l q _ }

theorem State.actsOn_claim (s : State) (i : RecNo) (picks : Plane → Nat → Nat → Bool) :
    s.ActsOn i (s.claim i picks) := by
  refine s.actsOn_updateMap i _ fun p l q e => ?_
  split
  · next h => exact .inr ⟨.inl h.1, .inr ⟨_, rfl⟩⟩
  · exact .inl rfl

theorem State.actsOn_rephase (s : State) (i : RecNo) (picks : Plane → Nat → Nat → Bool)
    (old : Phase) (new : PosEntry) (hn : new.FreeFor i) : s.ActsOn i
      (s.rephase i picks old new) := by
  refine s.actsOn_updateMap i _ fun p l q e => ?_
  split
  · next h => exact .inr ⟨.inr ⟨_, h.1⟩, hn⟩
  · exact .inl rfl

theorem State.actsOn_releaseClaims (s : State) (i : RecNo) : s.ActsOn i (s.releaseClaims i) := by
  refine s.actsOn_updateMap i _ fun p l q e => ?_
  cases e with
  | claimed j ph =>
    by_cases hj : j = i
    · subst hj
      exact .inr ⟨.inr ⟨_, rfl⟩, .inl (if_pos rfl)⟩
    · exact .inl (if_neg hj)
  | _ => exact .inl rfl

theorem PosEntry.freeFor_open (i : RecNo) : PosEntry.FreeFor i .openPos := .inl rfl

theorem PosEntry.freeFor_claimed (i : RecNo) (ph : Phase) : PosEntry.FreeFor i (.claimed i ph) :=
  .inr ⟨ph, rfl⟩

theorem State.actsOn_withdrawClaims (s : State) (i : RecNo) : s.ActsOn i (s.withdrawClaims i) :=
  (s.actsOn_rephase i _ _ _ (.inl rfl)).trans (State.actsOn_rephase _ i _ _ _ (.inr ⟨_, rfl⟩))

theorem State.actsOn_updateProgram (s : State) (i : RecNo)
    (f : Nat → Nat → ProgramEntry → ProgramEntry) : s.ActsOn i (s.updateProgram f) :=
  { State.ActsOn.refl i s with }

theorem State.actsOn_programAll (i : RecNo) (ds : List Group) (w : Nat) (src : Option Source) :
    ∀ s : State, s.ActsOn i (s.programAll ds w src) := by
  induction ds with
  | nil => exact fun s => .refl i s
  | cons g rest ih => exact fun s => (s.actsOn_updateProgram i _).trans (ih _)

theorem State.actsOn_clearAll (i : RecNo) (ds : List Group) (w : Nat) :
    ∀ s : State, s.ActsOn i (s.clearAll ds w) := by
  induction ds with
  | nil => exact fun s => .refl i s
  | cons g rest ih => exact fun s => (s.actsOn_updateProgram i _).trans (ih _)

/-! ### The operations on the change queue -/

theorem State.actsOn_setQueue (s : State) (i : RecNo) (q : List QueueEntry)
    (hq : ∀ j, j ≠ i → (q.filter fun e => e.circuit = j) = s.entriesOf j) :
    s.ActsOn i (s.setQueue q) :=
  { State.ActsOn.refl i s with entries := hq }

theorem State.actsOn_stage (s : State) (i : RecNo) (ch : Change) (cu : Cutover) (ca : Cause) :
    s.ActsOn i (s.stage i ch cu ca) :=
  (s.actsOn_setRecord i { s.record i with staged := some ⟨ch, cu, ca⟩ } rfl).trans
    (State.actsOn_setQueue _ i _ fun j hj => by
      simp [State.entriesOf, List.filter_append, Ne.symm hj])

theorem State.actsOn_removeEntry (s : State) (i : RecNo) : s.ActsOn i (s.removeEntry i) := by
  refine s.actsOn_setQueue i _ fun j hj => ?_
  rw [List.filter_filter, State.entriesOf]
  refine List.filter_congr fun e _ => ?_
  by_cases he : e.circuit = j
  · simp [he, hj]
  · simp [he]

theorem State.actsOn_rewriteEntry (s : State) (i : RecNo) : s.ActsOn i (s.rewriteEntry i) := by
  refine s.actsOn_setQueue i _ fun j hj => ?_
  rw [State.entriesOf]
  induction s.manager.queue with
  | nil => rfl
  | cons e rest ih =>
    rw [List.map_cons, List.filter_cons, List.filter_cons, ih]
    by_cases he : e.circuit = i
    · simp [he, Ne.symm hj]
    · simp [he]

/-! ### The operations on the mailbox and on the links -/

theorem State.actsOn_completeWithdrawn (s : State) (i j : RecNo) (st : CircuitState) :
    s.ActsOn i (s.completeWithdrawn j st) := .of_sameManager rfl (fun _ => .refl _) rfl rfl rfl

/-- A notice for an owner writes a link and an event flag at most (R160, R162). -/
theorem State.notifyOwner_eq (s : State) (o : Option Owner) (n : Notice) (i : RecNo) (g : Byte) :
    s.notifyOwner o n i g = { s with
      links := (s.notifyOwner o n i g).links
      events := { s.events with flags := (s.notifyOwner o n i g).events.flags } } := by
  unfold State.notifyOwner
  split
  · exact s.notify_eq _ _ _ _
  · rfl

theorem State.actsOn_notifyOwner (s : State) (i : RecNo) (o : Option Owner) (n : Notice) (j : RecNo)
    (g : Byte) : s.ActsOn i (s.notifyOwner o n j g) := by
  refine .of_sameManager ?_ (fun k => s.keeps_notifyOwner o k n j g) ?_ ?_ ?_ <;>
    rw [State.notifyOwner_eq]

end Sys2Proof.Machine
end

-- ==== Proofs: what each operation writes ====
section
/-! SUPPORT. What the shared operations write and leave of five things that statements about
circuits read: the records, the phase in which a record claims a position, the egress program, the
change queue and the mailbox. The lemmas about what is left all hold by computation. -/

namespace Sys2Proof.Machine

-- The proofs are elaborated one after another: many at once take the text past its memory limit.
set_option Elab.async false

/-- The phase in which a record claims a position, none where it does not (R19). -/
def State.phase (s : State) (i : RecNo) (p : Plane) (l q : Nat) : Option Phase :=
  (s.entry p l q).phaseOf i

variable (s : State)

/-! ## What is left -/

/-! ### claim -/

@[simp] theorem State.record_claim (i : RecNo) (picks : Plane → Nat → Nat → Bool) (j : RecNo) :
    (s.claim i picks).record j = s.record j := rfl
@[simp] theorem State.programEntry_claim (i : RecNo) (picks : Plane → Nat → Nat → Bool)
    (l q' : Nat) : (s.claim i picks).programEntry l q' = s.programEntry l q' := rfl
@[simp] theorem State.queue_claim (i : RecNo) (picks : Plane → Nat → Nat → Bool) :
    (s.claim i picks).manager.queue = s.manager.queue := rfl
@[simp] theorem State.mailbox_claim (i : RecNo) (picks : Plane → Nat → Nat → Bool) :
    (s.claim i picks).mailbox = s.mailbox := rfl

/-! ### rephase -/

@[simp] theorem State.record_rephase (i : RecNo) (picks : Plane → Nat → Nat → Bool) (a : Phase)
    (b : PosEntry) (j : RecNo) :
    (s.rephase i picks a b).record j = s.record j := rfl
@[simp] theorem State.programEntry_rephase (i : RecNo) (picks : Plane → Nat → Nat → Bool)
    (a : Phase) (b : PosEntry)
    (l q' : Nat) : (s.rephase i picks a b).programEntry l q' = s.programEntry l q' := rfl
@[simp] theorem State.queue_rephase (i : RecNo) (picks : Plane → Nat → Nat → Bool) (a : Phase)
    (b : PosEntry) :
    (s.rephase i picks a b).manager.queue = s.manager.queue := rfl
@[simp] theorem State.mailbox_rephase (i : RecNo) (picks : Plane → Nat → Nat → Bool) (a : Phase)
    (b : PosEntry) :
    (s.rephase i picks a b).mailbox = s.mailbox := rfl

/-! ### releaseClaims -/

@[simp] theorem State.record_releaseClaims (i : RecNo) (j : RecNo) :
    (s.releaseClaims i).record j = s.record j := rfl
@[simp] theorem State.programEntry_releaseClaims (i : RecNo)
    (l q' : Nat) : (s.releaseClaims i).programEntry l q' = s.programEntry l q' := rfl
@[simp] theorem State.queue_releaseClaims (i : RecNo) :
    (s.releaseClaims i).manager.queue = s.manager.queue := rfl
@[simp] theorem State.mailbox_releaseClaims (i : RecNo) :
    (s.releaseClaims i).mailbox = s.mailbox := rfl

/-! ### withdrawClaims -/

@[simp] theorem State.record_withdrawClaims (i : RecNo) (j : RecNo) :
    (s.withdrawClaims i).record j = s.record j := rfl
@[simp] theorem State.programEntry_withdrawClaims (i : RecNo)
    (l q' : Nat) : (s.withdrawClaims i).programEntry l q' = s.programEntry l q' := rfl
@[simp] theorem State.queue_withdrawClaims (i : RecNo) :
    (s.withdrawClaims i).manager.queue = s.manager.queue := rfl
@[simp] theorem State.mailbox_withdrawClaims (i : RecNo) :
    (s.withdrawClaims i).mailbox = s.mailbox := rfl

/-! ### programGroup -/

@[simp] theorem State.record_programGroup (g : Group) (w : Nat) (src : Option Source) (j : RecNo) :
    (s.programGroup g w src).record j = s.record j := rfl
@[simp] theorem State.phase_programGroup (g : Group) (w : Nat) (src : Option Source) (j : RecNo)
    (p : Plane)
    (l q' : Nat) : (s.programGroup g w src).phase j p l q' = s.phase j p l q' := rfl
@[simp] theorem State.queue_programGroup (g : Group) (w : Nat) (src : Option Source) :
    (s.programGroup g w src).manager.queue = s.manager.queue := rfl
@[simp] theorem State.mailbox_programGroup (g : Group) (w : Nat) (src : Option Source) :
    (s.programGroup g w src).mailbox = s.mailbox := rfl

/-! ### clearGroup -/

@[simp] theorem State.record_clearGroup (g : Group) (w : Nat) (j : RecNo) :
    (s.clearGroup g w).record j = s.record j := rfl
@[simp] theorem State.phase_clearGroup (g : Group) (w : Nat) (j : RecNo) (p : Plane)
    (l q' : Nat) : (s.clearGroup g w).phase j p l q' = s.phase j p l q' := rfl
@[simp] theorem State.queue_clearGroup (g : Group) (w : Nat) :
    (s.clearGroup g w).manager.queue = s.manager.queue := rfl
@[simp] theorem State.mailbox_clearGroup (g : Group) (w : Nat) :
    (s.clearGroup g w).mailbox = s.mailbox := rfl

/-! ### setQueue -/

@[simp] theorem State.record_setQueue (q : List QueueEntry) (j : RecNo) :
    (s.setQueue q).record j = s.record j := rfl

/-! ### removeEntry -/

@[simp] theorem State.record_removeEntry (i : RecNo) (j : RecNo) :
    (s.removeEntry i).record j = s.record j := rfl
@[simp] theorem State.phase_removeEntry (i : RecNo) (j : RecNo) (p : Plane)
    (l q' : Nat) : (s.removeEntry i).phase j p l q' = s.phase j p l q' := rfl
@[simp] theorem State.programEntry_removeEntry (i : RecNo)
    (l q' : Nat) : (s.removeEntry i).programEntry l q' = s.programEntry l q' := rfl
@[simp] theorem State.mailbox_removeEntry (i : RecNo) :
    (s.removeEntry i).mailbox = s.mailbox := rfl

/-! ### rewriteEntry -/

@[simp] theorem State.record_rewriteEntry (i : RecNo) (j : RecNo) :
    (s.rewriteEntry i).record j = s.record j := rfl
@[simp] theorem State.phase_rewriteEntry (i : RecNo) (j : RecNo) (p : Plane)
    (l q' : Nat) : (s.rewriteEntry i).phase j p l q' = s.phase j p l q' := rfl
@[simp] theorem State.programEntry_rewriteEntry (i : RecNo)
    (l q' : Nat) : (s.rewriteEntry i).programEntry l q' = s.programEntry l q' := rfl

/-! ### setRecord -/

@[simp] theorem State.phase_setRecord (i : RecNo) (r : Record) (j : RecNo) (p : Plane)
    (l q' : Nat) : (s.setRecord i r).phase j p l q' = s.phase j p l q' := rfl
@[simp] theorem State.programEntry_setRecord (i : RecNo) (r : Record)
    (l q' : Nat) : (s.setRecord i r).programEntry l q' = s.programEntry l q' := rfl

/-! ### setCircuitState -/

@[simp] theorem State.phase_setCircuitState (i : RecNo) (st : CircuitState) (j : RecNo) (p : Plane)
    (l q' : Nat) : (s.setCircuitState i st).phase j p l q' = s.phase j p l q' := rfl
@[simp] theorem State.programEntry_setCircuitState (i : RecNo) (st : CircuitState)
    (l q' : Nat) : (s.setCircuitState i st).programEntry l q' = s.programEntry l q' := rfl
@[simp] theorem State.mailbox_setCircuitState (i : RecNo) (st : CircuitState) :
    (s.setCircuitState i st).mailbox = s.mailbox := rfl

/-! ### stage -/

@[simp] theorem State.phase_stage (i : RecNo) (ch : Change) (cu : Cutover) (ca : Cause)
    (j : RecNo) (p : Plane)
    (l q' : Nat) : (s.stage i ch cu ca).phase j p l q' = s.phase j p l q' := rfl
@[simp] theorem State.programEntry_stage (i : RecNo) (ch : Change) (cu : Cutover) (ca : Cause)
    (l q' : Nat) : (s.stage i ch cu ca).programEntry l q' = s.programEntry l q' := rfl

/-! ### completeWithdrawn -/

@[simp] theorem State.record_completeWithdrawn (i : RecNo) (st : CircuitState) (j : RecNo) :
    (s.completeWithdrawn i st).record j = s.record j := rfl

/-! ### raise -/

@[simp] theorem State.record_raise (c : Nat) (j : RecNo) :
    (s.raise c).record j = s.record j := rfl

/-! ### complete -/

@[simp] theorem State.record_complete (c : OutcomeCode) (j : RecNo) :
    (s.complete c).record j = s.record j := rfl

/-! ### setResponse -/

@[simp] theorem State.record_setResponse (v : Vector Byte 24) (j : RecNo) :
    (s.setResponse v).record j = s.record j := rfl

/-! ### setAttention and clearAttention -/

@[simp] theorem State.entry_setAttention (i : RecNo) (p : Plane) (l q : Nat) :
    (s.setAttention i).entry p l q = s.entry p l q :=
  State.entry_congr (by rw [State.setAttention_eq]) p l q
@[simp] theorem State.phase_setAttention (i j : RecNo) (p : Plane) (l q : Nat) :
    (s.setAttention i).phase j p l q = s.phase j p l q := by simp [State.phase]
@[simp] theorem State.programEntry_setAttention (i : RecNo) (l q : Nat) :
    (s.setAttention i).programEntry l q = s.programEntry l q :=
  State.programEntry_congr (by rw [State.setAttention_eq]) l q
@[simp] theorem State.queue_setAttention (i : RecNo) :
    (s.setAttention i).manager.queue = s.manager.queue := by rw [State.setAttention_eq]
@[simp] theorem State.mailbox_setAttention (i : RecNo) :
    (s.setAttention i).mailbox = s.mailbox := by rw [State.setAttention_eq]
@[simp] theorem State.entry_clearAttention (i : RecNo) (p : Plane) (l q : Nat) :
    (s.clearAttention i).entry p l q = s.entry p l q :=
  State.entry_congr (by rw [State.clearAttention_eq]) p l q
@[simp] theorem State.phase_clearAttention (i j : RecNo) (p : Plane) (l q : Nat) :
    (s.clearAttention i).phase j p l q = s.phase j p l q := by simp [State.phase]
@[simp] theorem State.programEntry_clearAttention (i : RecNo) (l q : Nat) :
    (s.clearAttention i).programEntry l q = s.programEntry l q :=
  State.programEntry_congr (by rw [State.clearAttention_eq]) l q
@[simp] theorem State.queue_clearAttention (i : RecNo) :
    (s.clearAttention i).manager.queue = s.manager.queue := by rw [State.clearAttention_eq]
@[simp] theorem State.mailbox_clearAttention (i : RecNo) :
    (s.clearAttention i).mailbox = s.mailbox := by rw [State.clearAttention_eq]

/-! ### attend -/

@[simp] theorem State.phase_attend (who : Requester) (i j : RecNo) (p : Plane) (l q : Nat) :
    (s.attend who i).phase j p l q = s.phase j p l q := by
  cases who <;> simp [State.attend]
@[simp] theorem State.programEntry_attend (who : Requester) (i : RecNo) (l q : Nat) :
    (s.attend who i).programEntry l q = s.programEntry l q := by
  cases who <;> simp [State.attend]
@[simp] theorem State.queue_attend (who : Requester) (i : RecNo) :
    (s.attend who i).manager.queue = s.manager.queue := by
  cases who <;> simp [State.attend]
@[simp] theorem State.mailbox_attend (who : Requester) (i : RecNo) :
    (s.attend who i).mailbox = s.mailbox := by
  cases who <;> simp [State.attend]

/-! ### notifyOwner -/

@[simp] theorem State.manager_notifyOwner (o : Option Owner) (n : Notice) (i : RecNo) (g : Byte) :
    (s.notifyOwner o n i g).manager = s.manager := by rw [State.notifyOwner_eq]
@[simp] theorem State.mailbox_notifyOwner (o : Option Owner) (n : Notice) (i : RecNo) (g : Byte) :
    (s.notifyOwner o n i g).mailbox = s.mailbox := by rw [State.notifyOwner_eq]
@[simp] theorem State.record_notifyOwner (o : Option Owner) (n : Notice) (i : RecNo) (g : Byte)
    (j : RecNo) : (s.notifyOwner o n i g).record j = s.record j :=
  State.record_congr (by simp) j
@[simp] theorem State.phase_notifyOwner (o : Option Owner) (n : Notice) (i : RecNo) (g : Byte)
    (j : RecNo) (p : Plane) (l q : Nat) :
    (s.notifyOwner o n i g).phase j p l q = s.phase j p l q := by
  exact congrArg (PosEntry.phaseOf j) (State.entry_congr (by simp) p l q)
@[simp] theorem State.programEntry_notifyOwner (o : Option Owner) (n : Notice) (i : RecNo)
    (g : Byte)
    (l q : Nat) : (s.notifyOwner o n i g).programEntry l q = s.programEntry l q :=
  State.programEntry_congr (by simp) l q

/-! ### programAll and clearAll -/

/-- Writing the program of some groups changes the egress program alone (R63, R66). -/
theorem State.programAll_eq (ds : List Group) (w : Nat) (src : Option Source) : ∀ s : State,
    s.programAll ds w src = { s with manager := { s.manager with
      program := (s.programAll ds w src).manager.program } } := by
  induction ds with
  | nil => exact fun _ => rfl
  | cons g rest ih => exact fun s => (ih (s.programGroup g w src)).trans rfl

/-- Clearing the program of some groups changes the egress program alone (R67). -/
theorem State.clearAll_eq (ds : List Group) (w : Nat) : ∀ s : State,
    s.clearAll ds w = { s with manager := { s.manager with
      program := (s.clearAll ds w).manager.program } } := by
  induction ds with
  | nil => exact fun _ => rfl
  | cons g rest ih => exact fun s => (ih (s.clearGroup g w)).trans rfl

@[simp] theorem State.record_programAll (ds : List Group) (w : Nat) (src : Option Source)
    (j : RecNo) : (s.programAll ds w src).record j = s.record j := by
  rw [State.programAll_eq]; rfl
@[simp] theorem State.phase_programAll (ds : List Group) (w : Nat) (src : Option Source)
    (j : RecNo) (p : Plane) (l q : Nat) :
    (s.programAll ds w src).phase j p l q = s.phase j p l q := by
  rw [State.programAll_eq]; rfl
@[simp] theorem State.queue_programAll (ds : List Group) (w : Nat) (src : Option Source) :
    (s.programAll ds w src).manager.queue = s.manager.queue := by rw [State.programAll_eq]
@[simp] theorem State.mailbox_programAll (ds : List Group) (w : Nat) (src : Option Source) :
    (s.programAll ds w src).mailbox = s.mailbox := by rw [State.programAll_eq]
@[simp] theorem State.record_clearAll (ds : List Group) (w : Nat) (j : RecNo) :
    (s.clearAll ds w).record j = s.record j := by
  rw [State.clearAll_eq]; rfl
@[simp] theorem State.queue_clearAll (ds : List Group) (w : Nat) :
    (s.clearAll ds w).manager.queue = s.manager.queue := by rw [State.clearAll_eq]
@[simp] theorem State.mailbox_clearAll (ds : List Group) (w : Nat) :
    (s.clearAll ds w).mailbox = s.mailbox := by rw [State.clearAll_eq]

/-! ## What is written -/

/-- Staging a change writes the staged change field of one record (R58). -/
@[simp] theorem State.record_stage (i : RecNo) (ch : Change) (cu : Cutover) (ca : Cause)
    (j : RecNo) : (s.stage i ch cu ca).record j =
      if i = j then { s.record i with staged := some ⟨ch, cu, ca⟩ } else s.record j :=
  s.record_setRecord i j _

@[simp] theorem State.record_setCircuitState (i : RecNo) (st : CircuitState) (j : RecNo) :
    (s.setCircuitState i st).record j =
      if i = j then { s.record i with state := st } else s.record j :=
  s.record_setRecord i j _

/-- An accepted request of the owning line unit sets attention, a host's does not (R14). -/
@[simp] theorem State.record_attend (who : Requester) (i j : RecNo) :
    (s.attend who i).record j =
      if i = j ∧ who ≠ .host then { s.record j with attention := true } else s.record j := by
  cases who with
  | host => simp [State.attend]
  | line k => simp [State.attend, State.record_setAttention]

theorem PosEntry.phaseOf_eq_some (i : RecNo) (e : PosEntry) (ph : Phase) :
    e.phaseOf i = some ph ↔ e = .claimed i ph := by
  cases e with
  | claimed j ph' => by_cases h : j = i <;> simp [PosEntry.phaseOf, h]
  | _ => simp [PosEntry.phaseOf]

@[simp] theorem PosEntry.phaseOf_openPos (i : RecNo) : PosEntry.phaseOf i .openPos = none := rfl

@[simp] theorem PosEntry.phaseOf_claimed (i : RecNo) (ph : Phase) :
    PosEntry.phaseOf i (.claimed i ph) = some ph := by simp [PosEntry.phaseOf]

theorem State.phase_eq_some (i : RecNo) (p : Plane) (l q : Nat) (ph : Phase) :
    s.phase i p l q = some ph ↔ s.entry p l q = .claimed i ph :=
  PosEntry.phaseOf_eq_some i _ ph

/-- Claiming makes a record's OPEN positions JOINING (R19). -/
@[simp] theorem State.phase_claim (i : RecNo) (picks : Plane → Nat → Nat → Bool) (p : Plane)
    (l : Fin 8) (q : Fin 40) :
    (s.claim i picks).phase i p l q =
      if s.entry p l q = .openPos ∧ picks p l q = true then some .joining else s.phase i p l q := by
  rw [State.phase, State.entry_claim s i picks l.isLt q.isLt]
  split <;> simp [State.phase]

/-- A change of phase, seen by the record whose claims change (R19). -/
@[simp] theorem State.phase_rephase (i : RecNo) (picks : Plane → Nat → Nat → Bool) (a : Phase)
    (b : PosEntry) (p : Plane) (l : Fin 8) (q : Fin 40) :
    (s.rephase i picks a b).phase i p l q =
      if s.phase i p l q = some a ∧ picks p l q = true then b.phaseOf i else s.phase i p l q := by
  simp only [State.phase_eq_some]
  rw [State.phase, State.entry_rephase s i picks a b l.isLt q.isLt]
  split <;> rfl

/-- After a release a record claims nothing (R11, R12). -/
@[simp] theorem State.phase_releaseClaims (i : RecNo) (p : Plane) (l : Fin 8) (q : Fin 40) :
    (s.releaseClaims i).phase i p l q = none := by
  rw [State.phase, State.entry_releaseClaims s i l.isLt q.isLt]
  cases s.entry p l q with
  | claimed j ph => by_cases h : j = i <;> simp [PosEntry.phaseOf, h]
  | _ => rfl

/-- The claim changes of an acceptance reversed: JOINING is given up, LEAVING is LIVE again (R70).
-/
@[simp] theorem State.phase_withdrawClaims (i : RecNo) (p : Plane) (l : Fin 8) (q : Fin 40) :
    (s.withdrawClaims i).phase i p l q =
      match s.phase i p l q with
      | some .joining => none
      | some .leaving => some .live
      | ph => ph := by
  simp only [State.withdrawClaims, State.phase_rephase, everywhere, and_true,
    PosEntry.phaseOf_openPos, PosEntry.phaseOf_claimed]
  rcases s.phase i p l q with _ | ph
  · simp
  · cases ph <;> simp

/-! ### Entry into FREE and RETIRED -/

@[simp] theorem State.phase_freeRecord (i : RecNo) (p : Plane) (l : Fin 8) (q : Fin 40) :
    (s.freeRecord i).phase i p l q = none := by
  simp [State.freeRecord]
@[simp] theorem State.programEntry_freeRecord (i : RecNo) (l q : Nat) :
    (s.freeRecord i).programEntry l q = s.programEntry l q := by
  simp [State.freeRecord]
@[simp] theorem State.queue_freeRecord (i : RecNo) :
    (s.freeRecord i).manager.queue = s.manager.queue := by
  simp [State.freeRecord]
@[simp] theorem State.mailbox_freeRecord (i : RecNo) :
    (s.freeRecord i).mailbox = s.mailbox := by
  simp [State.freeRecord]
@[simp] theorem State.phase_retireRecord (i : RecNo) (c : RetireCause) (p : Plane) (l : Fin 8)
    (q : Fin 40) : (s.retireRecord i c).phase i p l q = none := by
  simp [State.retireRecord]
@[simp] theorem State.programEntry_retireRecord (i : RecNo) (c : RetireCause) (l q : Nat) :
    (s.retireRecord i c).programEntry l q = s.programEntry l q := by
  simp [State.retireRecord]
@[simp] theorem State.queue_retireRecord (i : RecNo) (c : RetireCause) :
    (s.retireRecord i c).manager.queue = s.manager.queue := by
  simp [State.retireRecord]
@[simp] theorem State.mailbox_retireRecord (i : RecNo) (c : RetireCause) :
    (s.retireRecord i c).mailbox = s.mailbox := by
  simp [State.retireRecord]

end Sys2Proof.Machine
end

-- ==== Proofs: what stands of the Circuit Manager and of the switching ====
section
/-! SUPPORT. The standing properties of the Circuit Manager and of the switching, taken apart record
by record: an operation on one circuit keeps them as soon as it keeps them for that circuit. -/

namespace Sys2Proof.Machine

-- The proofs are elaborated one after another: many at once take the text past its memory limit.
set_option Elab.async false

variable {s t : State} {i : RecNo}

/-! ## The Circuit Manager, leases apart -/

/-- `State.ManagerInOrder` without what it says of leases, which a step restores last (R75). -/
structure State.Core (s : State) : Prop where
  bounded : s.QueueBounded
  queue : s.QueueMatches
  await : s.AwaitMatches
  referral : s.ReferralMatches
  links : s.LinksInOrder

/-- What the referrals read of a record: owner and generation while it is REFERRED (R168). -/
def Record.verdictView (r : Record) : Option (Option Owner × Byte) :=
  if r.state = .referred then some (r.owner, r.generation) else none

theorem Record.verdictView_of_ne {r : Record} (h : r.state ≠ .referred) : r.verdictView = none :=
  if_neg h

theorem Record.state_of_verdictView {r r' : Record} (h : r.verdictView = r'.verdictView)
    (hr : r.state = .referred) :
    r'.state = .referred ∧ r'.owner = r.owner ∧ r'.generation = r.generation := by
  by_cases hr' : r'.state = .referred
  · simp only [Record.verdictView, hr, hr', if_true, Option.some.injEq, Prod.mk.injEq] at h
    exact ⟨hr', h.1.symm, h.2.symm⟩
  · simp [Record.verdictView, hr, hr'] at h

/-- The referrals match as long as what they read stays (R168). -/
theorem State.ReferralMatches.congr (hs : s.ReferralMatches)
    (hrec : ∀ i, (t.record i).verdictView = (s.record i).verdictView)
    (href : ∀ k, (t.referral k).map (fun r => (r.circuit, r.generation))
      = (s.referral k).map (fun r => (r.circuit, r.generation)))
    (hl : ∀ k, (t.link k).AwaitsVerdict ↔ (s.link k).AwaitsVerdict) : t.ReferralMatches := by
  obtain ⟨hnames, hnamed, hproc⟩ := hs
  refine ⟨fun k r hr => ?_, fun i hi => ?_, fun k => ?_⟩
  · have hk := href k
    rw [Option.mem_def.mp hr] at hk
    obtain ⟨r', hr', he⟩ := Option.map_eq_some_iff.mp hk.symm
    obtain ⟨hc, hg⟩ := Prod.mk.inj he
    obtain ⟨h1, h2, h3⟩ := hnames k r' hr'
    rw [hc] at h1 h2 h3
    obtain ⟨g1, g2, g3⟩ := Record.state_of_verdictView (hrec r.circuit).symm h1
    exact ⟨g1, g2.trans h2, (g3.trans h3).trans hg⟩
  · obtain ⟨g1, -, -⟩ := Record.state_of_verdictView (hrec i) hi
    obtain ⟨k, hk⟩ := hnamed i g1
    refine ⟨k, ?_⟩
    have := congrArg (Option.map Prod.fst) (href k)
    simpa [Option.map_map, Function.comp_def, hk] using this
  · rw [show ((t.link k).inProcess.map InProcess.phase = some .referred)
      ↔ ((s.link k).inProcess.map InProcess.phase = some .referred) from hl k, hproc k]
    have := congrArg Option.isSome (href k)
    simp only [Option.isSome_map] at this
    rw [this]

/-- What the change queue reads of a record: its state, and the kind and cutover staged (R57). -/
def Record.queueView (r : Record) : CircuitState × Option (ChangeKind × Cutover) :=
  (r.state, r.staged.map fun st => (st.change.kind, st.cutover))

theorem State.stagedMatches_iff (s : State) (i : RecNo) :
    s.StagedMatches i ↔
      (s.record i).queueView.1.holds ((s.record i).queueView.2.map Prod.fst) = true
        ∧ (s.entriesOf i).map (fun e => (e.kind, e.cutover)) = (s.record i).queueView.2.toList := by
  simp [State.StagedMatches, Record.queueView, Option.map_map, Function.comp_def]

theorem State.StagedMatches.congr (h : s.StagedMatches i)
    (hr : (t.record i).queueView = (s.record i).queueView) (he : t.entriesOf i = s.entriesOf i) :
    t.StagedMatches i := by
  rw [State.stagedMatches_iff] at h ⊢
  rw [hr, he]; exact h

/-- An operation on one circuit keeps the Circuit Manager in order as soon as it keeps that circuit
and the mailbox in order, the queue within its bound, and what a referral reads. -/
theorem State.Core.of_actsOn (hs : s.Core) (h : s.ActsOn i t)
    (hv : (t.record i).verdictView = (s.record i).verdictView) (hb : t.QueueBounded)
    (hm : t.StagedMatches i) (ha : t.AwaitMatches) : t.Core where
  bounded := hb
  queue j := by
    by_cases hj : j = i
    · exact hj ▸ hm
    · exact (hs.queue j).congr (by rw [h.records j hj]) (h.entries j hj)
  await := ha
  referral := by
    refine hs.referral.congr (fun j => ?_) (fun k => ?_) fun k => (h.links k).verdict (hs.links k)
    · by_cases hj : j = i
      · exact hj ▸ hv
      · rw [h.records j hj]
    · rw [State.referral, State.referral, h.referrals]
  links k := (h.links k).inOrder (hs.links k)

/-! ### The three ways of a queue entry -/

theorem CircuitState.holds_some (st : CircuitState) (k : ChangeKind) :
    st.holds (some k) = true ↔ (st = .opening ∧ k = .activate)
      ∨ (st = .altering ∧ (k = .add ∨ k = .drop ∨ k = .move)) ∨
        (st = .closing ∧ k = .deactivate) := by
  cases st <;> cases k <;> simp [CircuitState.holds]

/-- In FREE, REFERRED, ACTIVE and RETIRED nothing is staged, and no entry names the record (R6,
R57). -/
theorem State.StagedMatches.unstaged (h : s.StagedMatches i)
    (hst : (s.record i).state = .free ∨ (s.record i).state = .referred
      ∨ (s.record i).state = .active ∨ (s.record i).state = .retired) :
    (s.record i).staged = none ∧ s.entriesOf i = [] := by
  obtain ⟨h1, h2⟩ := h
  have hn : (s.record i).staged = none := by
    cases hs : (s.record i).staged with
    | none => rfl
    | some st =>
      rw [hs] at h1
      rcases hst with e | e | e | e <;> rw [e] at h1 <;> simp [CircuitState.holds] at h1
  refine ⟨hn, ?_⟩
  rw [hn] at h2
  simpa using h2

theorem State.StagedMatches.staged_of_altering (h : s.StagedMatches i)
    (hst : (s.record i).state = .altering) :
    ∃ st, (s.record i).staged = some st
      ∧ ((∃ g, st.change = .add g) ∨ (∃ g, st.change = .drop g)
        ∨ ∃ src, st.change = .move src) := by
  have h1 := h.1
  rw [hst] at h1
  cases hs : (s.record i).staged with
  | none => simp [hs, CircuitState.holds] at h1
  | some st =>
    refine ⟨st, rfl, ?_⟩
    cases hc : st.change <;> simp [hs, hc, Change.kind, CircuitState.holds] at h1 ⊢

/-- A change is staged: its entry joins the queue (R58). -/
theorem State.stagedMatches_join {ch : Change} {cu : Cutover} {ca : Cause} {e : QueueEntry}
    (hno : s.entriesOf i = []) (hr : (t.record i).staged = some ⟨ch, cu, ca⟩)
    (hst : (t.record i).state.holds (some ch.kind) = true)
    (hq : t.manager.queue = s.manager.queue ++ [e])
    (he : e.circuit = i ∧ e.kind = ch.kind ∧ e.cutover = cu) : t.StagedMatches i := by
  obtain ⟨h1, h2, h3⟩ := he
  have hent : t.entriesOf i = [e] := by
    rw [State.entriesOf, hq, List.filter_append, show s.manager.queue.filter _ = [] from hno]
    simp [h1]
  refine ⟨by simpa [hr] using hst, ?_⟩
  simp [hent, hr, h2, h3]

/-- The entry of a record leaves the queue, and nothing stays staged on it. -/
theorem State.stagedMatches_leave (hr : (t.record i).staged = none)
    (hst : (t.record i).state.holds none = true)
    (hq : t.manager.queue = s.manager.queue.filter fun e => e.circuit ≠ i) : t.StagedMatches i := by
  refine ⟨by simpa [hr] using hst, ?_⟩
  have hent : t.entriesOf i = [] := by
    rw [State.entriesOf, hq, List.filter_filter]
    simp
  simp [hent, hr]

theorem State.AwaitMatches.join (h : s.AwaitMatches) {e : QueueEntry} (he : e.awaited = false)
    (hq : t.manager.queue = s.manager.queue ++ [e])
    (hm : t.mailbox.awaiting = s.mailbox.awaiting) : t.AwaitMatches := by
  unfold State.AwaitMatches at h ⊢
  rw [hq, hm, List.countP_append, h]
  simp [he]

theorem State.AwaitMatches.congr (h : s.AwaitMatches) (hq : t.manager.queue = s.manager.queue)
    (hm : t.mailbox.awaiting = s.mailbox.awaiting) : t.AwaitMatches := by
  unfold State.AwaitMatches at h ⊢
  rw [hq, hm]; exact h

theorem QueueEntry.isAwaited_eq (s : State) (i : RecNo) :
    s.isAwaited i = decide (0 < (s.entriesOf i).countP QueueEntry.awaited) := by
  rw [State.isAwaited, State.entriesOf, Bool.eq_iff_iff]
  simp only [List.any_eq_true, Bool.and_eq_true, decide_eq_true_eq, List.countP_pos_iff,
    List.mem_filter]
  constructor
  · rintro ⟨e, he, hc, ha⟩; exact ⟨e, ⟨he, hc⟩, ha⟩
  · rintro ⟨e, ⟨he, hc⟩, ha⟩; exact ⟨e, he, hc, ha⟩

/-- The awaited marks are those of one record's entries and those of the others (R57). -/
theorem State.countP_awaited (s : State) (i : RecNo) :
    s.manager.queue.countP QueueEntry.awaited
      = (s.entriesOf i).countP QueueEntry.awaited
        + (s.manager.queue.filter fun e => e.circuit ≠ i).countP QueueEntry.awaited := by
  rw [State.entriesOf]
  induction s.manager.queue with
  | nil => rfl
  | cons e rest ih =>
    by_cases he : e.circuit = i <;> simp only [List.countP_cons, List.filter_cons, he, ih, ne_eq,
      not_true_eq_false, not_false_eq_true, decide_true, decide_false, if_true, if_false,
      Bool.false_eq_true] <;> omega

/-- The marks on the entries of all other records, where the mailbox goes on waiting or stops as the
record's own entry was not awaited or was (R69, R74). -/
theorem State.AwaitMatches.without (h : s.AwaitMatches) (i : RecNo) :
    (s.manager.queue.filter fun e => e.circuit ≠ i).countP QueueEntry.awaited
      = if (s.mailbox.awaiting && !s.isAwaited i) = true then 1 else 0 := by
  have hc := s.countP_awaited i
  rw [show s.manager.queue.countP QueueEntry.awaited = _ from h] at hc
  rw [QueueEntry.isAwaited_eq]
  generalize (s.entriesOf i).countP QueueEntry.awaited = a at hc ⊢
  cases hm : s.mailbox.awaiting with
  | false => simp only [hm, Bool.false_eq_true, if_false, Bool.false_and] at hc ⊢; omega
  | true =>
    simp only [hm, if_true, Bool.true_and] at hc ⊢
    by_cases ha : 0 < a
    · simp only [ha, decide_true, Bool.not_true, Bool.false_eq_true, if_false]; omega
    · simp only [ha, decide_false, Bool.not_false, if_true]; omega

theorem State.AwaitMatches.leave (h : s.AwaitMatches)
    (hq : t.manager.queue = s.manager.queue.filter fun e => e.circuit ≠ i)
    (hm : t.mailbox.awaiting = (s.mailbox.awaiting && !s.isAwaited i)) : t.AwaitMatches := by
  unfold State.AwaitMatches
  rw [hq, hm]
  exact h.without i

/-! ## Leases -/

/-- Where a lease of a record may stand at 0 (R5, R75). -/
def Record.LeasePlaced (r : Record) : Prop :=
  r.remaining = some 0 → r.state = .retired
    ∨ (r.state = .closing ∧ r.staged.map Staged.cause = some .lease) ∨ r.state = .active

theorem Record.waits_iff (r : Record) :
    r.waits = true ↔ r.state = .active ∧ r.remaining = some 0 := by
  cases h : r.lease <;> simp [Record.waits, Record.remaining, h]

/-- Leases stand at 0 where they may, and a record waits for deferred staging only where the queue
is full but for so many entries (R75, R117). -/
structure State.LeasesWithin (n : Nat) (s : State) : Prop where
  placed : ∀ i, (s.record i).LeasePlaced
  waiting : ∀ i, (s.record i).waits = true → Config.queueRoom ≤ s.manager.queue.length + n

theorem State.leasesMatch_iff (hb : s.QueueBounded) : s.LeasesMatch ↔ s.LeasesWithin 0 := by
  have hb' : s.manager.queue.length ≤ Config.queueRoom := hb
  constructor
  · intro h
    refine ⟨fun i h0 => ?_, fun i hw => ?_⟩
    · rcases h i h0 with e | e | e
      · exact .inl e
      · exact .inr (.inl e)
      · exact .inr (.inr e.1)
    · obtain ⟨ha, h0⟩ := (Record.waits_iff _).mp hw
      rcases h i h0 with e | e | e
      · rw [ha] at e; cases e
      · rw [ha] at e; cases e.1
      · exact (e.2).ge
  · rintro ⟨hp, hw⟩ i h0
    rcases hp i h0 with e | e | e
    · exact .inl e
    · exact .inr (.inl e)
    · have := hw i ((Record.waits_iff _).mpr ⟨e, h0⟩)
      exact .inr (.inr ⟨e, by omega⟩)

theorem State.managerInOrder_iff : s.ManagerInOrder ↔ s.Core ∧ s.LeasesWithin 0 := by
  constructor
  · rintro ⟨h1, h2, h3, h4, h5, h6⟩
    exact ⟨⟨h1, h2, h3, h4, h6⟩, (State.leasesMatch_iff h1).mp h5⟩
  · rintro ⟨⟨h1, h2, h3, h4, h6⟩, h5⟩
    exact ⟨h1, h2, h3, h4, (State.leasesMatch_iff h1).mpr h5, h6⟩

theorem Record.leasePlaced_of_lease {r : Record} (h : r.remaining ≠ some 0) : r.LeasePlaced :=
  fun h0 => absurd h0 h

/-- An operation on one circuit keeps leases where they may stand, if it keeps that circuit's there
and makes no new record wait. -/
theorem State.LeasesWithin.of_actsOn {n m : Nat} (hs : s.LeasesWithin n) (h : s.ActsOn i t)
    (hp : (t.record i).LeasePlaced)
    (hw : (t.record i).waits = true → (s.record i).waits = true)
    (hlen : s.manager.queue.length + n ≤ t.manager.queue.length + m) : t.LeasesWithin m where
  placed j := by
    by_cases hj : j = i
    · exact hj ▸ hp
    · rw [h.records j hj]; exact hs.placed j
  waiting j hj := by
    have : (s.record j).waits = true := by
      by_cases hij : j = i
      · subst hij; exact hw hj
      · rwa [h.records j hij] at hj
    exact (hs.waiting j this).trans hlen

/-! ## The switching -/

/-- A claim in this phase carries octets: LIVE or LEAVING (R20, R76). -/
def carries : Option Phase → Bool
  | some .live | some .leaving => true
  | _ => false

/-- What the egress program names for a position of a circuit's destinations (R63). -/
def Record.programAt (r : Record) (l q : Nat) : ProgramEntry :=
  match r.dests.find? fun g => inGroup g r.width l q with
  | some g => sourceEntry r.source (q - g.slot)
  | none => .noEntry

/-- What `State.SwitchingInOrder` says beside the Circuit Manager's own order. -/
structure State.Switching (s : State) : Prop where
  fixed : s.ControlSlotsFixed
  apart : s.GroupsApart
  claims : s.ClaimsMatch
  program : s.ProgramMatches

theorem State.switchingInOrder_iff : s.SwitchingInOrder ↔ s.ManagerInOrder ∧ s.Switching :=
  ⟨fun ⟨h0, h1, h2, h3, h4⟩ => ⟨h0, h1, h2, h3, h4⟩, fun ⟨h0, h1, h2, h3, h4⟩ =>
    ⟨h0, h1, h2, h3, h4⟩⟩

/-- Slots 38 and 39 are FIXED and no other slot is, position by position (R17, R18). -/
theorem State.controlSlotsFixed_iff : s.ControlSlotsFixed ↔
    ∀ (p : Plane) (l : Fin 8) (q : Fin 40), s.entry p l q = .fixed ↔ 38 ≤ q.val := by
  constructor
  · intro h p l q
    rw [State.entry_eq s l.isLt q.isLt]
    have := h ⟨positionPlace p l q, positionPlace_lt l.isLt q.isLt⟩
    simp only [Config.bearerSlots, Config.slotsPerFrame, positionPlace_slot q.isLt] at this
    exact this
  · intro h n
    have hn := n.isLt
    have := h (placePlane n) ⟨n % 320 / 40, by omega⟩ ⟨n % 40, by omega⟩
    rw [State.entry_eq s (by simp only; omega) (by simp only; omega)] at this
    have hplace : positionPlace (placePlane n) (n % 320 / 40) (n % 40) = n := by
      unfold placePlane
      split <;> simp only [positionPlace, Config.slotsPerFrame] <;> omega
    simp only [hplace] at this
    exact this

theorem State.ControlSlotsFixed.of_actsOn (hs : s.ControlSlotsFixed) (h : s.ActsOn i t) :
    t.ControlSlotsFixed := by
  rw [State.controlSlotsFixed_iff] at hs ⊢
  intro p l q
  rw [← hs p l q]
  rcases h.claims p l q with e | ⟨a, b⟩
  · rw [e]
  · constructor
    · intro hf; rcases b with e | ⟨ph, e⟩ <;> rw [hf] at e <;> cases e
    · intro hf; rcases a with e | ⟨ph, e⟩ <;> rw [hf] at e <;> cases e

/-- The program of a position, by the claim that it carries (R76). -/
theorem State.programOf_of_phase {l q : Nat} {ph : Phase} (h : s.phase i .egress l q = some ph) :
    s.programOf l q = if carries (some ph) then (s.record i).programAt l q else .noEntry := by
  rw [State.phase_eq_some] at h
  cases ph with
  | joining => simp [State.programOf, h, carries]
  | live => simp only [State.programOf, h, carries, Record.programAt, if_true] <;> rfl
  | leaving => simp only [State.programOf, h, carries, Record.programAt, if_true] <;> rfl

theorem State.programOf_of_noPhase {l q : Nat} (h : ∀ j, s.phase j .egress l q = none) :
    s.programOf l q = .noEntry := by
  unfold State.programOf
  split
  · next j he => exact absurd ((s.phase_eq_some j _ _ _ _).mpr he) (by simp [h j])
  · next j he => exact absurd ((s.phase_eq_some j _ _ _ _).mpr he) (by simp [h j])
  · rfl

/-- A position is claimed by one record at most (R17). -/
theorem State.phase_unique {j : RecNo} {p : Plane} {l q : Nat} {ph : Phase} (hj : j ≠ i)
    (h : s.phase j p l q = some ph) : s.phase i p l q = none := by
  rw [State.phase_eq_some] at h
  simp [State.phase, h, PosEntry.phaseOf, hj]

/-- Where no other record claims a position, its program entry follows one record (R76). -/
theorem State.programOf_of_alone {l q : Nat} (h : ∀ j, j ≠ i → s.phase j .egress l q = none) :
    s.programOf l q =
      if carries (s.phase i .egress l q) then (s.record i).programAt l q else .noEntry := by
  cases hi : s.phase i .egress l q with
  | some ph => exact State.programOf_of_phase hi
  | none =>
    refine State.programOf_of_noPhase fun j => ?_
    by_cases hj : j = i
    · exact hj ▸ hi
    · exact h j hj

/-- The claims of other records are left by an operation on record i. -/
theorem State.ActsOn.phase_of_ne (h : s.ActsOn i t) {j : RecNo} (hj : j ≠ i) (p : Plane) (l : Fin 8)
    (q : Fin 40) : t.phase j p l q = s.phase j p l q := by
  have hfree : ∀ e : PosEntry, e.FreeFor i → e.phaseOf j = none := by
    rintro e (rfl | ⟨ph, rfl⟩)
    · rfl
    · simp [PosEntry.phaseOf, Ne.symm hj]
  unfold State.phase
  rcases h.claims p l q with e | ⟨a, b⟩
  · rw [e]
  · rw [hfree _ a, hfree _ b]

/-- An operation on one circuit keeps the switching in order as soon as it keeps that circuit's
groups, claims and program entries in order, and leaves the other program entries. -/
theorem State.Switching.of_actsOn (hs : s.Switching) (h : s.ActsOn i t)
    (hg : (t.record i).groupsApart = true)
    (hc : ∀ (p : Plane) (l : Fin 8) (q : Fin 40), t.phase i p l q = (t.record i).phaseAt p l q)
    (hp : ∀ (l : Fin 8) (q : Fin 38), t.programEntry l q =
      if carries (t.phase i .egress l q) then (t.record i).programAt l q
      else if carries (s.phase i .egress l q) then .noEntry else s.programEntry l q) :
    t.Switching where
  fixed := hs.fixed.of_actsOn h
  apart j := by
    by_cases hj : j = i
    · exact hj ▸ hg
    · rw [h.records j hj]; exact hs.apart j
  claims j p l q := by
    by_cases hj : j = i
    · subst hj; exact hc p l q
    · rw [h.records j hj]
      exact (h.phase_of_ne hj p l q).trans (hs.claims j p l q)
  program l q := by
    have hne : ∀ j, j ≠ i → t.phase j .egress l q = s.phase j .egress l q := fun j hj =>
      h.phase_of_ne hj .egress l ⟨q, by omega⟩
    rw [hp l q, hs.program l q]
    by_cases hother : ∃ j ph, j ≠ i ∧ t.phase j .egress l q = some ph
    · -- another record claims the position, and keeps it
      obtain ⟨j, ph, hj, ht⟩ := hother
      have hsj : s.phase j .egress l q = some ph := (hne j hj).symm.trans ht
      rw [State.phase_unique hj ht, State.phase_unique hj hsj, State.programOf_of_phase ht,
        State.programOf_of_phase hsj, h.records j hj]
      simp [carries]
    · have ht : ∀ j, j ≠ i → t.phase j .egress l q = none := fun j hj => by
        by_contra hsome
        obtain ⟨ph, hph⟩ := Option.ne_none_iff_exists'.mp hsome
        exact hother ⟨j, ph, hj, hph⟩
      rw [State.programOf_of_alone ht,
        State.programOf_of_alone fun j hj => (hne j hj).symm.trans (ht j hj)]
      split
      · rfl
      · split <;> simp_all

/-- The same, where the egress program is left as it is: the claims that carry octets are the same
before and after, and the circuit names the same source for them. -/
theorem State.Switching.of_sameProgram (hs : s.Switching) (h : s.ActsOn i t)
    (hg : (t.record i).groupsApart = true)
    (hc : ∀ (p : Plane) (l : Fin 8) (q : Fin 40), t.phase i p l q = (t.record i).phaseAt p l q)
    (hp : ∀ l q, t.programEntry l q = s.programEntry l q)
    (hcar : ∀ (l : Fin 8) (q : Fin 40),
      carries (t.phase i .egress l q) = carries (s.phase i .egress l q))
    (hat : ∀ (l : Fin 8) (q : Fin 40), carries (s.phase i .egress l q) = true →
      (t.record i).programAt l q = (s.record i).programAt l q) : t.Switching := by
  refine hs.of_actsOn h hg hc fun l q => ?_
  have hcar' : carries (t.phase i .egress l q) = carries (s.phase i .egress l q) :=
    hcar l ⟨q, by omega⟩
  rw [hp, hcar']
  split
  · next hs' =>
    rw [hat l ⟨q, by omega⟩ hs', hs.program l q]
    cases hph : s.phase i .egress l q with
    | none => simp [hph, carries] at hs'
    | some ph => rw [State.programOf_of_phase hph, if_pos (hph ▸ hs')]
  · rfl

end Sys2Proof.Machine
end

-- ==== Proofs: each operation on one circuit ====
section
/-! SUPPORT. Each operation on one circuit, said once: that it acts on that circuit alone, the
record and the claims that it leaves, what becomes of the change queue and of the egress program. -/

namespace Sys2Proof.Machine

-- The proofs are elaborated one after another: many at once take the text past its memory limit.
set_option Elab.async false

variable (s : State) (i : RecNo)

/-! ## The parts of an operation -/

theorem State.actsOn_setCircuitState (st : CircuitState) : s.ActsOn i (s.setCircuitState i st) :=
  s.actsOn_setRecord i { s.record i with state := st } rfl

theorem State.actsOn_attend (who : Requester) : s.ActsOn i (s.attend who i) := by
  cases who with
  | host => exact .refl i s
  | line k => exact s.actsOn_setAttention i

theorem State.actsOn_freeRecord : s.ActsOn i (s.freeRecord i) :=
  ((s.actsOn_releaseClaims i).trans (State.actsOn_clearAttention _ i)).trans
    (State.actsOn_setRecord _ i _ (by simp [State.record_clearAttention]))

theorem State.actsOn_retireRecord (c : RetireCause) : s.ActsOn i (s.retireRecord i c) :=
  ((s.actsOn_releaseClaims i).trans (State.actsOn_setRecord _ i _ (by rfl))).trans
    (State.actsOn_setAttention _ i)

/-! ## Acceptance -/

theorem State.actsOn_allocate (o : Owner) (f : OpenFields) (st : CircuitState) :
    s.ActsOn i (s.allocate i o f st) :=
  ((s.actsOn_clearAttention i).trans (State.actsOn_setRecord _ i _
    (by simp [State.record_clearAttention]))).trans (State.actsOn_claim _ i _)

/-- The record that allocation makes (R10). -/
def allocated (g : Byte) (o : Owner) (f : OpenFields) (st : CircuitState) : Record where
  generation := g + 1
  state := st
  owner := some o
  source := f.source
  width := f.width
  dests := f.dests
  lease := if f.lease = 0 then none else some ⟨f.lease, f.lease⟩
  tag := f.tag

@[simp] theorem State.record_allocate (o : Owner) (f : OpenFields) (st : CircuitState) (j : RecNo) :
    (s.allocate i o f st).record j =
      if i = j then allocated (s.record i).generation o f st else s.record j := by
  simp only [State.allocate, State.record_claim, State.record_setRecord,
    State.record_clearAttention]
  split <;> simp [allocated]

@[simp] theorem State.queue_allocate (o : Owner) (f : OpenFields) (st : CircuitState) :
    (s.allocate i o f st).manager.queue = s.manager.queue := by simp [State.allocate]

@[simp] theorem State.mailbox_allocate (o : Owner) (f : OpenFields) (st : CircuitState) :
    (s.allocate i o f st).mailbox = s.mailbox := by simp [State.allocate]

@[simp] theorem State.programEntry_allocate (o : Owner) (f : OpenFields) (st : CircuitState)
    (l q : Nat) : (s.allocate i o f st).programEntry l q = s.programEntry l q := by
  simp [State.allocate]

@[simp] theorem State.phase_allocate (o : Owner) (f : OpenFields) (st : CircuitState) (p : Plane)
    (l : Fin 8) (q : Fin 40) : (s.allocate i o f st).phase i p l q =
      if s.entry p l q = .openPos ∧ inCircuit f.source f.dests f.width p l q = true then
        some .joining
      else s.phase i p l q := by
  simp only [State.allocate, State.phase_claim, State.phase_setRecord, State.phase_clearAttention]
  congr 2
  exact congrArg (· = _) (State.entry_clearAttention s i p l q)

/-- An operation that stages a change on one circuit, and nothing else in the queue or the mailbox
(R58). -/
structure State.Stages (i : RecNo) (ch : Change) (cu : Cutover) (ca : Cause) (s t : State) : Prop
    where
  acts : s.ActsOn i t
  queue : t.manager.queue = s.manager.queue ++ [⟨i, ch.kind, cu, s.timing.tally, false⟩]
  mailbox : t.mailbox = s.mailbox
  staged : (t.record i).staged = some ⟨ch, cu, ca⟩

theorem State.stages_acceptOpen (who : Requester) (f : OpenFields) :
    s.Stages i .activate (f.cutover.getD .nextFrame) who.cause (s.acceptOpen i who f) where
  acts := ((s.actsOn_allocate i _ _ _).trans (State.actsOn_stage _ i _ _ _)).trans
    (State.actsOn_attend _ i who)
  queue := by
    simp only [State.acceptOpen, State.queue_attend, State.queue_stage, State.queue_allocate,
      (s.actsOn_allocate i _ _ _).timing]
  mailbox := by simp [State.acceptOpen]
  staged := by simp only [State.acceptOpen, State.record_attend]; split <;> simp

theorem State.stages_acceptAdd (who : Requester) (g : Group) (cu : Cutover) :
    s.Stages i (.add g) cu who.cause (s.acceptAdd i who g cu) where
  acts := (((s.actsOn_claim i _).trans (State.actsOn_stage _ i _ _ _)).trans
    (State.actsOn_setCircuitState _ i _)).trans (State.actsOn_attend _ i who)
  queue := by simp only [State.acceptAdd, State.queue_attend]; rfl
  mailbox := by simp [State.acceptAdd]
  staged := by simp only [State.acceptAdd, State.record_attend]; split <;> simp

theorem State.stages_acceptDrop (who : Requester) (g : Group) (cu : Cutover) :
    s.Stages i (.drop g) cu who.cause (s.acceptDrop i who g cu) where
  acts := (((s.actsOn_rephase i _ _ _ (PosEntry.freeFor_claimed i _)).trans
    (State.actsOn_stage _ i _ _ _)).trans
    (State.actsOn_setCircuitState _ i _)).trans (State.actsOn_attend _ i who)
  queue := by simp only [State.acceptDrop, State.queue_attend]; rfl
  mailbox := by simp [State.acceptDrop]
  staged := by simp only [State.acceptDrop, State.record_attend]; split <;> simp

theorem State.stages_acceptMove (src : Source) (cu : Cutover) :
    s.Stages i (.move src) cu .host (s.acceptMove i src cu) where
  acts := (((s.actsOn_claim i _).trans (State.actsOn_rephase _ i _ _ _
    (PosEntry.freeFor_claimed i _))).trans
    (State.actsOn_stage _ i _ _ _)).trans (State.actsOn_setCircuitState _ i _)
  queue := rfl
  mailbox := rfl
  staged := by simp [State.acceptMove]

theorem State.stages_releaseActive (who : Requester) (cu : Cutover) :
    s.Stages i .deactivate cu who.cause (s.releaseActive i who cu) where
  acts := (((s.actsOn_rephase i _ _ _ (PosEntry.freeFor_claimed i _)).trans
    (State.actsOn_stage _ i _ _ _)).trans
    (State.actsOn_setCircuitState _ i _)).trans (State.actsOn_attend _ i who)
  queue := by simp only [State.releaseActive, State.queue_attend]; rfl
  mailbox := by simp [State.releaseActive]
  staged := by simp only [State.releaseActive, State.record_attend]; split <;> simp

theorem State.stages_stageExpiry : s.Stages i .deactivate .nextFrame .lease (s.stageExpiry i) where
  acts := ((s.actsOn_rephase i _ _ _ (PosEntry.freeFor_claimed i _)).trans
    (State.actsOn_stage _ i _ _ _)).trans
    (State.actsOn_setRecord _ i _ (by rfl))
  queue := rfl
  mailbox := rfl
  staged := by simp [State.stageExpiry]

/-! ### The records that acceptance leaves -/

theorem State.record_acceptOpen (who : Requester) (f : OpenFields) :
    (s.acceptOpen i who f).record i = { allocated (s.record i).generation who.owner f .opening with
      staged := some ⟨.activate, f.cutover.getD .nextFrame, who.cause⟩
      attention := decide (who ≠ .host) } := by
  cases who <;> simp [State.acceptOpen, allocated]

theorem State.record_acceptAdd (who : Requester) (g : Group) (cu : Cutover) :
    (s.acceptAdd i who g cu).record i = { s.record i with
      state := .altering
      staged := some ⟨.add g, cu, who.cause⟩
      attention := (s.record i).attention || decide (who ≠ .host) } := by
  cases who <;> simp [State.acceptAdd]

theorem State.record_acceptDrop (who : Requester) (g : Group) (cu : Cutover) :
    (s.acceptDrop i who g cu).record i = { s.record i with
      state := .altering
      staged := some ⟨.drop g, cu, who.cause⟩
      attention := (s.record i).attention || decide (who ≠ .host) } := by
  cases who <;> simp [State.acceptDrop]

theorem State.record_acceptMove (src : Source) (cu : Cutover) :
    (s.acceptMove i src cu).record i =
      { s.record i with state := .altering, staged := some ⟨.move src, cu, .host⟩ } := by
  simp [State.acceptMove]

theorem State.record_releaseActive (who : Requester) (cu : Cutover) :
    (s.releaseActive i who cu).record i = { s.record i with
      state := .closing
      staged := some ⟨.deactivate, cu, who.cause⟩
      attention := (s.record i).attention || decide (who ≠ .host) } := by
  cases who <;> simp [State.releaseActive]

theorem State.record_stageExpiry :
    (s.stageExpiry i).record i =
      { s.record i with state := .closing, staged := some ⟨.deactivate, .nextFrame, .lease⟩ } := by
  simp [State.stageExpiry]

theorem State.actsOn_acceptRenew (v : Byte) : s.ActsOn i (s.acceptRenew i v) :=
  s.actsOn_setRecord i _ rfl

theorem State.record_acceptRenew (v : Byte) :
    (s.acceptRenew i v).record i =
      { s.record i with lease := if v = 0 then none else some ⟨v, v⟩ } := by
  simp [State.acceptRenew]

theorem State.actsOn_acceptAdopt : s.ActsOn i (s.acceptAdopt i) :=
  (s.actsOn_setRecord i _ (by rfl)).trans (State.actsOn_notifyOwner _ i _ _ _ _)

theorem State.record_acceptAdopt :
    (s.acceptAdopt i).record i = { s.record i with
      owner := some .host
      lease := none
      staged := (s.record i).staged.map fun st =>
        if st.cause = Cause.owner then { st with cause := .host } else st } := by
  simp [State.acceptAdopt]

/-! ## Endings -/

/-- An OPENING record ended by the host, before deferred staging (R45, R71). -/
def State.freeOpening (s : State) : State :=
  ((s.removeEntry i).freeRecord i).notifyOwner (s.record i).owner .retiredHost i
    (s.record i).generation

theorem State.hostEndsOpening_eq : s.hostEndsOpening i = (s.freeOpening i).serveWaiting 1 := rfl

/-- The mailbox completes with WITHDRAWN where the entry of a record was awaited (R74). -/
def State.withdrawn (awaited : Bool) (st : CircuitState) (s : State) : State :=
  if awaited then s.completeWithdrawn i st else s

/-- An OPENING record released by its line unit, before deferred staging (R45, R72). -/
def State.retireOpening (s : State) : State :=
  ((s.removeEntry i).retireRecord i .lineRelease).withdrawn i (s.isAwaited i) .retired

theorem State.lineEndsOpening_eq : s.lineEndsOpening i = (s.retireOpening i).serveWaiting 1 := rfl

theorem State.expireOpening_eq : s.expireOpening i =
    (((s.removeEntry i).retireRecord i .leaseExpired).notifyOwner (s.record i).owner .retiredLease i
      (s.record i).generation).withdrawn i (s.isAwaited i) .retired := rfl

/-- A line owner hears of the host's end of its own change (R71). -/
def State.tellCancelled (r : Record) (s : State) : State :=
  match r.staged with
  | some st => if st.cause = Cause.owner then s.notifyOwner r.owner .changed i r.generation else s
  | none => s

/-- An alteration or a release cancelled, before deferred staging (R46, R70). -/
def State.cancelled (s : State) : State :=
  (((s.withdrawClaims i).removeEntry i).setRecord i
    { s.record i with state := .active, staged := none }).tellCancelled i (s.record i)

theorem State.cancelChange_eq : s.cancelChange i = (s.cancelled i).serveWaiting 1 := rfl

theorem State.expireAltering_eq : s.expireAltering i =
    ((((s.withdrawClaims i).rephase i everywhere .live
      (.claimed i .leaving)).rewriteEntry i).setRecord
      i { s.record i with
          state := .closing, staged := some ⟨.deactivate, .nextFrame, .lease⟩ }).withdrawn
        i (s.isAwaited i) .closing := rfl

theorem State.actsOn_withdrawn (j : RecNo) (b : Bool) (st : CircuitState) :
    s.ActsOn i (s.withdrawn j b st) := by
  unfold State.withdrawn
  split
  · exact s.actsOn_completeWithdrawn i j st
  · exact .refl i s

theorem State.withdrawn_manager (b : Bool) (st : CircuitState) :
    (s.withdrawn i b st).manager = s.manager := by
  unfold State.withdrawn
  split <;> rfl

/-- The mailbox stops waiting where the entry was awaited, and goes on where it was not (R69, R74).
-/
theorem State.withdrawn_awaiting (b : Bool) (st : CircuitState) :
    (s.withdrawn i b st).mailbox.awaiting = (s.mailbox.awaiting && !b) := by
  unfold State.withdrawn
  cases b
  · simp
  · simp only [if_true, Bool.not_true, Bool.and_false]; rfl

@[simp] theorem State.record_withdrawn (b : Bool) (st : CircuitState) (j : RecNo) :
    (s.withdrawn i b st).record j = s.record j :=
  State.record_congr (by rw [State.withdrawn_manager]) j
@[simp] theorem State.phase_withdrawn (b : Bool) (st : CircuitState) (j : RecNo) (p : Plane)
    (l q : Nat) : (s.withdrawn i b st).phase j p l q = s.phase j p l q :=
  congrArg (PosEntry.phaseOf j) (State.entry_congr (by rw [State.withdrawn_manager]) p l q)
@[simp] theorem State.programEntry_withdrawn (b : Bool) (st : CircuitState) (l q : Nat) :
    (s.withdrawn i b st).programEntry l q = s.programEntry l q :=
  State.programEntry_congr (by rw [State.withdrawn_manager]) l q

theorem State.tellCancelled_eq (r : Record) :
    (s.tellCancelled i r).manager = s.manager ∧ (s.tellCancelled i r).mailbox = s.mailbox := by
  unfold State.tellCancelled
  split
  · split
    · exact ⟨s.manager_notifyOwner _ _ _ _, s.mailbox_notifyOwner _ _ _ _⟩
    · exact ⟨rfl, rfl⟩
  · exact ⟨rfl, rfl⟩

theorem State.actsOn_tellCancelled (r : Record) : s.ActsOn i (s.tellCancelled i r) := by
  unfold State.tellCancelled
  split
  · split
    · exact s.actsOn_notifyOwner i _ _ _ _
    · exact .refl i s
  · exact .refl i s

/-- An operation that takes the entry of one circuit out of the queue and leaves nothing staged on
it; a mailbox that awaited the entry has completed. -/
structure State.Leaves (i : RecNo) (s t : State) : Prop where
  acts : s.ActsOn i t
  queue : t.manager.queue = s.manager.queue.filter fun e => e.circuit ≠ i
  awaiting : t.mailbox.awaiting = (s.mailbox.awaiting && !s.isAwaited i)
  staged : (t.record i).staged = none
  state : (t.record i).state.holds none = true

@[simp] theorem State.queue_removeEntry :
    (s.removeEntry i).manager.queue = s.manager.queue.filter fun e => e.circuit ≠ i := rfl

theorem State.isAwaited_of_ready (ha : s.AwaitMatches) (h : s.Ready) (i : RecNo) :
    s.isAwaited i = false := by
  have h0 : s.manager.queue.countP QueueEntry.awaited = 0 := by
    rw [show s.manager.queue.countP QueueEntry.awaited = _ from ha,
      show s.mailbox.awaiting = false from h]
    rfl
  have := s.countP_awaited i
  rw [QueueEntry.isAwaited_eq]
  simp only [decide_eq_false_iff_not]
  omega

theorem State.actsOn_freeOpening : s.ActsOn i (s.freeOpening i) :=
  ((s.actsOn_removeEntry i).trans (State.actsOn_freeRecord _ i)).trans
    (State.actsOn_notifyOwner _ i _ _ _ _)

theorem State.queue_freeOpening : (s.freeOpening i).manager.queue
    = s.manager.queue.filter fun e => e.circuit ≠ i := by
  simp [State.freeOpening]

theorem State.leaves_freeOpening (ha : s.isAwaited i = false) : s.Leaves i (s.freeOpening i) where
  acts := s.actsOn_freeOpening i
  queue := s.queue_freeOpening i
  awaiting := by simp [State.freeOpening, ha]
  staged := by simp [State.freeOpening, State.record_freeRecord]
  state := by simp [State.freeOpening, State.record_freeRecord, CircuitState.holds]

theorem State.leaves_retireOpening : s.Leaves i (s.retireOpening i) where
  acts := ((s.actsOn_removeEntry i).trans (State.actsOn_retireRecord _ i _)).trans
    (State.actsOn_withdrawn _ i _ _ _)
  queue := by simp [State.retireOpening, State.withdrawn_manager]
  awaiting := by simp [State.retireOpening, State.withdrawn_awaiting]
  staged := by simp [State.retireOpening, State.record_retireRecord]
  state := by simp [State.retireOpening, State.record_retireRecord, CircuitState.holds]

theorem State.leaves_expireOpening : s.Leaves i (s.expireOpening i) where
  acts := (((s.actsOn_removeEntry i).trans (State.actsOn_retireRecord _ i _)).trans
    (State.actsOn_notifyOwner _ i _ _ _ _)).trans (State.actsOn_withdrawn _ i _ _ _)
  queue := by simp [State.expireOpening_eq, State.withdrawn_manager]
  awaiting := by simp [State.expireOpening_eq, State.withdrawn_awaiting]
  staged := by simp [State.expireOpening_eq, State.record_retireRecord]
  state := by simp [State.expireOpening_eq, State.record_retireRecord, CircuitState.holds]

@[simp] theorem State.record_tellCancelled (r : Record) (j : RecNo) :
    (s.tellCancelled i r).record j = s.record j :=
  State.record_congr (by rw [(s.tellCancelled_eq i r).1]) j
@[simp] theorem State.phase_tellCancelled (r : Record) (j : RecNo) (p : Plane) (l q : Nat) :
    (s.tellCancelled i r).phase j p l q = s.phase j p l q :=
  congrArg (PosEntry.phaseOf j) (State.entry_congr (by rw [(s.tellCancelled_eq i r).1]) p l q)
@[simp] theorem State.programEntry_tellCancelled (r : Record) (l q : Nat) :
    (s.tellCancelled i r).programEntry l q = s.programEntry l q :=
  State.programEntry_congr (by rw [(s.tellCancelled_eq i r).1]) l q

theorem State.record_cancelled :
    (s.cancelled i).record i = { s.record i with state := .active, staged := none } := by
  simp [State.cancelled]

theorem State.actsOn_cancelled : s.ActsOn i (s.cancelled i) :=
  (((s.actsOn_withdrawClaims i).trans (State.actsOn_removeEntry _ i)).trans
    (State.actsOn_setRecord _ i _ (by rfl))).trans (State.actsOn_tellCancelled _ i _)

theorem State.queue_cancelled : (s.cancelled i).manager.queue
    = s.manager.queue.filter fun e => e.circuit ≠ i := by
  simp [State.cancelled, (State.tellCancelled_eq _ i _).1]

theorem State.leaves_cancelled (ha : s.isAwaited i = false) : s.Leaves i (s.cancelled i) where
  acts := s.actsOn_cancelled i
  queue := s.queue_cancelled i
  awaiting := by simp [State.cancelled, (State.tellCancelled_eq _ i _).2, ha]
  staged := by rw [State.record_cancelled]
  state := by rw [State.record_cancelled]; rfl

theorem State.actsOn_expireAltering : s.ActsOn i (s.expireAltering i) := by
  rw [State.expireAltering_eq]
  exact ((((s.actsOn_withdrawClaims i).trans (State.actsOn_rephase _ i _ _ _
    (PosEntry.freeFor_claimed i _))).trans (State.actsOn_rewriteEntry _ i)).trans
    (State.actsOn_setRecord _ i _ (by rfl))).trans (State.actsOn_withdrawn _ i _ _ _)

theorem State.record_expireAltering :
    (s.expireAltering i).record i =
      { s.record i with state := .closing, staged := some ⟨.deactivate, .nextFrame, .lease⟩ } := by
  simp [State.expireAltering_eq]

theorem State.actsOn_expire : s.ActsOn i (s.expire i) := by
  unfold State.expire
  split
  · exact (s.leaves_expireOpening i).acts
  · exact s.actsOn_expireAltering i
  · exact .refl i s

/-! ## Application -/

theorem State.actsOn_tellAltered (r : Record) (c : Cause) : s.ActsOn i (s.tellAltered r c i) := by
  unfold State.tellAltered
  split
  · exact s.actsOn_notifyOwner i _ _ _ _
  · exact .refl i s

theorem State.tellAltered_eq (r : Record) (c : Cause) :
    (s.tellAltered r c i).manager = s.manager ∧ (s.tellAltered r c i).mailbox = s.mailbox := by
  unfold State.tellAltered
  split
  · exact ⟨s.manager_notifyOwner _ _ _ _, s.mailbox_notifyOwner _ _ _ _⟩
  · exact ⟨rfl, rfl⟩

@[simp] theorem State.record_tellAltered (r : Record) (c : Cause) (j : RecNo) :
    (s.tellAltered r c i).record j = s.record j :=
  State.record_congr (by rw [(s.tellAltered_eq i r c).1]) j
@[simp] theorem State.phase_tellAltered (r : Record) (c : Cause) (j : RecNo) (p : Plane)
    (l q : Nat) : (s.tellAltered r c i).phase j p l q = s.phase j p l q :=
  congrArg (PosEntry.phaseOf j) (State.entry_congr (by rw [(s.tellAltered_eq i r c).1]) p l q)
@[simp] theorem State.programEntry_tellAltered (r : Record) (c : Cause) (l q : Nat) :
    (s.tellAltered r c i).programEntry l q = s.programEntry l q :=
  State.programEntry_congr (by rw [(s.tellAltered_eq i r c).1]) l q

/-- An operation that applies the staged change of one circuit: the queue and the mailbox are left
to the application step (R62, R69). -/
structure State.Applies (i : RecNo) (s t : State) : Prop where
  acts : s.ActsOn i t
  queue : t.manager.queue = s.manager.queue
  mailbox : t.mailbox = s.mailbox

theorem State.applies_applyActivate (f : FrameInfo) : s.Applies i (s.applyActivate i f) where
  acts := (((s.actsOn_rephase i _ _ _ (PosEntry.freeFor_claimed i _)).trans
    (State.actsOn_programAll i _ _ _ _)).trans
    (State.actsOn_setRecord _ i _ (by simp))).trans (State.actsOn_notifyOwner _ i _ _ _ _)
  queue := by simp [State.applyActivate]
  mailbox := by simp [State.applyActivate]

theorem State.applies_applyAdd (g : Group) (c : Cause) : s.Applies i (s.applyAdd i g c) where
  acts := (((s.actsOn_rephase i _ _ _ (PosEntry.freeFor_claimed i _)).trans
    (State.actsOn_updateProgram _ i _)).trans
    (State.actsOn_setRecord _ i _ (by rfl))).trans (State.actsOn_tellAltered _ i _ _)
  queue := by simp [State.applyAdd, (State.tellAltered_eq _ i _ _).1]
  mailbox := by simp [State.applyAdd, (State.tellAltered_eq _ i _ _).2]

theorem State.applies_applyDrop (g : Group) (c : Cause) : s.Applies i (s.applyDrop i g c) where
  acts := (((s.actsOn_rephase i _ _ _ (PosEntry.freeFor_open i)).trans
    (State.actsOn_updateProgram _ i _)).trans
    (State.actsOn_setRecord _ i _ (by rfl))).trans (State.actsOn_tellAltered _ i _ _)
  queue := by simp [State.applyDrop, (State.tellAltered_eq _ i _ _).1]
  mailbox := by simp [State.applyDrop, (State.tellAltered_eq _ i _ _).2]

theorem State.applies_applyMove (src : Source) (c : Cause) : s.Applies i (s.applyMove i src c) where
  acts := ((((s.actsOn_rephase i _ _ _ (PosEntry.freeFor_open i)).trans
    (State.actsOn_rephase _ i _ _ _ (PosEntry.freeFor_claimed i _))).trans
    (State.actsOn_programAll i _ _ _ _)).trans
    (State.actsOn_setRecord _ i _ (by simp))).trans (State.actsOn_tellAltered _ i _ _)
  queue := by simp [State.applyMove, (State.tellAltered_eq _ i _ _).1]
  mailbox := by simp [State.applyMove, (State.tellAltered_eq _ i _ _).2]

theorem State.applies_applyDeactivate (c : Cause) : s.Applies i (s.applyDeactivate i c) := by
  have h0 := State.actsOn_clearAll i (s.record i).dests (s.record i).width s
  cases c with
  | host =>
    exact ⟨(h0.trans (State.actsOn_freeRecord _ i)).trans (State.actsOn_notifyOwner _ i _ _ _ _),
      by simp [State.applyDeactivate], by simp [State.applyDeactivate]⟩
  | owner =>
    exact ⟨h0.trans (State.actsOn_retireRecord _ i _), by simp [State.applyDeactivate],
      by simp [State.applyDeactivate]⟩
  | lease =>
    exact ⟨(h0.trans (State.actsOn_retireRecord _ i _)).trans
        (State.actsOn_notifyOwner _ i _ _ _ _),
      by simp [State.applyDeactivate], by simp [State.applyDeactivate]⟩

theorem State.Applies.refl : s.Applies i s := ⟨.refl i s, rfl, rfl⟩

theorem State.applies_applyChange (f : FrameInfo) : s.Applies i (s.applyChange i f) := by
  unfold State.applyChange
  split
  · exact .refl s i
  · next st _ =>
    cases st.change with
    | activate => exact s.applies_applyActivate i f
    | add g => exact s.applies_applyAdd i g _
    | drop g => exact s.applies_applyDrop i g _
    | move src => exact s.applies_applyMove i src _
    | deactivate => exact s.applies_applyDeactivate i _

theorem State.record_applyActivate (f : FrameInfo) :
    (s.applyActivate i f).record i = { s.record i with
      state := .active, staged := none, stamp := some ⟨f.number, f.counter⟩ } := by
  simp [State.applyActivate]

theorem State.record_applyAdd (g : Group) (c : Cause) :
    (s.applyAdd i g c).record i = { s.record i with
      state := .active, staged := none, dests := (s.record i).dests ++ [g] } := by
  simp [State.applyAdd]

theorem State.record_applyDrop (g : Group) (c : Cause) :
    (s.applyDrop i g c).record i = { s.record i with
      state := .active, staged := none
      dests := (s.record i).dests.filter fun h => h ≠ g } := by
  simp [State.applyDrop]

theorem State.record_applyMove (src : Source) (c : Cause) :
    (s.applyMove i src c).record i = { s.record i with
      state := .active, staged := none, source := some src } := by
  simp [State.applyMove]

/-- A DEACTIVATE takes the record to FREE or to RETIRED, by its cause (R67). -/
theorem State.record_applyDeactivate (c : Cause) :
    (s.applyDeactivate i c).record i = { generation := (s.record i).generation }
      ∨ ∃ rc, (s.applyDeactivate i c).record i = { s.record i with
          state := .retired, staged := none, retireCause := some rc, attention := true } := by
  cases c with
  | host => exact .inl (by simp [State.applyDeactivate, State.record_freeRecord])
  | owner => exact .inr ⟨.lineRelease, by simp [State.applyDeactivate, State.record_retireRecord]⟩
  | lease => exact .inr ⟨.leaseExpired, by simp [State.applyDeactivate, State.record_retireRecord]⟩

/-- The application of an entry: of its record's change, then of the wait for it (R69). -/
theorem State.actsOn_applyEntry (f : FrameInfo) (e : QueueEntry) :
    s.ActsOn e.circuit (s.applyEntry f e) := by
  refine (s.applies_applyChange e.circuit f).acts.trans ?_
  unfold State.applyEntry
  dsimp only
  split
  · exact .of_sameManager rfl (fun _ => .refl _) rfl rfl rfl
  · exact .refl _ _

theorem State.manager_applyEntry (f : FrameInfo) (e : QueueEntry) :
    (s.applyEntry f e).manager = (s.applyChange e.circuit f).manager := by
  unfold State.applyEntry
  dsimp only
  split <;> rfl

theorem State.record_applyEntry (f : FrameInfo) (e : QueueEntry) (j : RecNo) :
    (s.applyEntry f e).record j = (s.applyChange e.circuit f).record j :=
  State.record_congr (by rw [State.manager_applyEntry]) j

theorem State.awaiting_applyEntry (f : FrameInfo) (e : QueueEntry) :
    (s.applyEntry f e).mailbox.awaiting = (s.mailbox.awaiting && !e.awaited) := by
  have h := (s.applies_applyChange e.circuit f).mailbox
  unfold State.applyEntry
  dsimp only
  split
  · next he => simp only [he, Bool.not_true, Bool.and_false]; rfl
  · next he => simp [h, he]

end Sys2Proof.Machine
end

-- ==== Proofs: the Circuit Manager stays in order ====
section
/-! SUPPORT. The Circuit Manager stays in order through each of its operations (R6, R57, R69, R75,
R186): through one that stages a change, one that takes an entry out of the queue, one that leaves
the queue alone; then through deferred staging, the application step and the lease tick. -/

namespace Sys2Proof.Machine

-- The proofs are elaborated one after another: many at once take the text past its memory limit.
set_option Elab.async false

variable {s t : State} {i : RecNo}

/-- A property that a function keeps is kept by its fold over a list. -/
theorem foldl_keeps {α β : Type} {P : β → Prop} {f : β → α → β} (h : ∀ u a, P u → P (f u a)) :
    ∀ (l : List α) (u : β), P u → P (l.foldl f u)
  | [], _, hu => hu
  | a :: l, u, hu => foldl_keeps h l (f u a) (h u a hu)

/-! ## The three ways of a queue entry -/

theorem CircuitState.ne_referred_of_holds {st : CircuitState} {k : ChangeKind}
    (h : st.holds (some k) = true) : st ≠ .referred := by
  rintro rfl; simp [CircuitState.holds] at h

theorem State.Core.of_stages {ch : Change} {cu : Cutover} {ca : Cause} (hs : s.Core)
    (h : s.Stages i ch cu ca t) (hroom : s.HasRoom) (hno : s.entriesOf i = [])
    (hv : (s.record i).state ≠ .referred) (hst : (t.record i).state.holds (some ch.kind) = true) :
    t.Core := by
  refine hs.of_actsOn h.acts ?_ ?_ (State.stagedMatches_join hno h.staged hst h.queue
    ⟨rfl, rfl, rfl⟩)
    (hs.await.join rfl h.queue (by rw [h.mailbox]))
  · rw [Record.verdictView_of_ne hv, Record.verdictView_of_ne
      (CircuitState.ne_referred_of_holds hst)]
  · simp only [State.QueueBounded, h.queue, List.length_append, List.length_singleton,
      Config.queueRoom]
    exact hroom

theorem State.Core.of_leaves (hs : s.Core) (h : s.Leaves i t) (hv : (s.record i).state ≠ .referred)
    (hv' : (t.record i).state ≠ .referred) : t.Core := by
  refine hs.of_actsOn h.acts ?_ ?_ (State.stagedMatches_leave h.staged h.state h.queue)
    (hs.await.leave h.queue h.awaiting)
  · rw [Record.verdictView_of_ne hv, Record.verdictView_of_ne hv']
  · rw [State.QueueBounded, h.queue]
    exact (List.length_filter_le _ _).trans hs.bounded

theorem State.entriesOf_congr (hq : t.manager.queue = s.manager.queue) (i : RecNo) :
    t.entriesOf i = s.entriesOf i := by rw [State.entriesOf, State.entriesOf, hq]

theorem State.Core.of_keeps (hs : s.Core) (h : s.ActsOn i t)
    (hq : t.manager.queue = s.manager.queue) (hm : t.mailbox.awaiting = s.mailbox.awaiting)
    (hqv : (t.record i).queueView = (s.record i).queueView)
    (hv : (t.record i).verdictView = (s.record i).verdictView) : t.Core :=
  hs.of_actsOn h hv (by rw [State.QueueBounded, hq]; exact hs.bounded)
    ((hs.queue i).congr hqv (State.entriesOf_congr hq i)) (hs.await.congr hq hm)

/-- What stands while any number of records change in what neither the queue nor a referral reads.
-/
theorem State.Core.of_views (hs : s.Core) (hq : t.manager.queue = s.manager.queue)
    (hm : t.mailbox.awaiting = s.mailbox.awaiting)
    (hl : ∀ k, (s.link k).KeepsOrder (t.link k))
    (hr : ∀ k, (t.referral k).map (fun r => (r.circuit, r.generation))
      = (s.referral k).map (fun r => (r.circuit, r.generation)))
    (hqv : ∀ i, (t.record i).queueView = (s.record i).queueView)
    (hv : ∀ i, (t.record i).verdictView = (s.record i).verdictView) : t.Core where
  bounded := by rw [State.QueueBounded, hq]; exact hs.bounded
  queue i := (hs.queue i).congr (hqv i) (State.entriesOf_congr hq i)
  await := hs.await.congr hq hm
  referral := hs.referral.congr hv hr fun k => (hl k (hs.links k)).2
  links k := (hl k (hs.links k)).1

/-- A record with an entry in the queue is in OPENING, ALTERING or CLOSING (R6, R57). -/
theorem State.StagedMatches.of_entry (h : s.StagedMatches i) {e : QueueEntry}
    (he : e ∈ s.entriesOf i) : (s.record i).staged ≠ none ∧ s.entriesOf i = [e] := by
  obtain ⟨-, h2⟩ := h
  cases hst : (s.record i).staged with
  | none =>
    rw [hst] at h2
    have : s.entriesOf i = [] := by simpa using h2
    rw [this] at he; cases he
  | some st =>
    rw [hst] at h2
    have hlen : (s.entriesOf i).length = 1 := by simpa using congrArg List.length h2
    obtain ⟨x, hx⟩ := List.length_eq_one_iff.mp hlen
    rw [hx] at he ⊢
    rw [List.mem_singleton.mp he]
    exact ⟨by simp, rfl⟩

/-! ## Deferred staging -/

theorem State.hasRoom_of_queueHasRoom (h : s.queueHasRoom = true) : s.HasRoom := by
  exact of_decide_eq_true h

theorem State.firstRecord_some {p : Record → Bool} (h : s.firstRecord p = some i) :
    p (s.record i) = true := by
  simpa using List.find?_some h

theorem State.firstRecord_none {p : Record → Bool} (h : s.firstRecord p = none) (i : RecNo) :
    p (s.record i) = false := by
  have := List.find?_eq_none.mp h i (List.mem_finRange i)
  simpa using this

/-- A property that staging an expiry on a waiting record keeps is kept by deferred staging (R75).
-/
theorem State.serveWaiting_keeps {P : State → Prop}
    (h : ∀ u i, P u → u.HasRoom → (u.record i).waits = true → P (u.stageExpiry i)) :
    ∀ (n : Nat) (u : State), P u → P (u.serveWaiting n)
  | 0, _, hu => hu
  | n + 1, u, hu => by
    simp only [State.serveWaiting]
    split
    · next hroom =>
      split
      · next i hi =>
        exact serveWaiting_keeps h n _ (h u i hu (State.hasRoom_of_queueHasRoom hroom)
          (State.firstRecord_some hi))
      · exact hu
    · exact hu

/-- An expiry is staged on an ACTIVE record (R75, R116). -/
theorem State.Core.stageExpiry (hs : s.Core) (hroom : s.HasRoom)
    (hw : (s.record i).waits = true) : (s.stageExpiry i).Core := by
  have hact := ((Record.waits_iff _).mp hw).1
  refine hs.of_stages (s.stages_stageExpiry i) hroom
    ((hs.queue i).unstaged (.inr (.inr (.inl hact)))).2 (by simp [hact]) ?_
  simp [State.record_stageExpiry, Change.kind, CircuitState.holds]

theorem State.LeasesWithin.stageExpiry {n : Nat} (hs : s.LeasesWithin (n + 1)) :
    (s.stageExpiry i).LeasesWithin n := by
  refine hs.of_actsOn (s.stages_stageExpiry i).acts ?_ ?_ ?_
  · rw [State.record_stageExpiry]
    exact fun _ => .inr (.inl ⟨rfl, rfl⟩)
  · rw [State.record_stageExpiry]
    simp [Record.waits]
  · rw [(s.stages_stageExpiry i).queue, List.length_append, List.length_singleton]
    omega

/-- Deferred staging for as many entries as have left the queue leaves nobody waiting while there is
room (R75). -/
theorem State.LeasesWithin.serveWaiting : ∀ (n : Nat) {s : State}, s.LeasesWithin n →
    (s.serveWaiting n).LeasesWithin 0
  | 0, _, h => h
  | n + 1, s, h => by
    simp only [State.serveWaiting]
    split
    · split
      · next i _ => exact State.LeasesWithin.serveWaiting n (h.stageExpiry (i := i))
      · next hnone =>
        exact ⟨h.placed, fun i hi => absurd hi (by simp [State.firstRecord_none hnone i])⟩
    · next hfull =>
      have hfull' : ¬s.manager.queue.length < Config.queueRoom := by
        simpa [State.queueHasRoom] using hfull
      exact ⟨h.placed, fun i _ => by omega⟩

theorem State.ManagerInOrder.of_serveWaiting {n : Nat} (hc : s.Core) (hl : s.LeasesWithin n) :
    (s.serveWaiting n).ManagerInOrder :=
  State.managerInOrder_iff.mpr
    ⟨State.serveWaiting_keeps (fun _ _ hu hroom hw => hu.stageExpiry hroom hw) n s hc,
      hl.serveWaiting n⟩

/-! ## Endings -/

/-- An ending that leaves the queue one entry shorter is followed by deferred staging (R45, R46,
R75). -/
theorem State.ManagerInOrder.of_leaves (hs : s.ManagerInOrder) (h : s.Leaves i t)
    (hv : (s.record i).state ≠ .referred) (hv' : (t.record i).state ≠ .referred)
    (hp : (t.record i).LeasePlaced) (hw : (t.record i).waits = false) :
    (t.serveWaiting 1).ManagerInOrder := by
  obtain ⟨hc, hl⟩ := State.managerInOrder_iff.mp hs
  refine .of_serveWaiting (hc.of_leaves h hv hv') (hl.of_actsOn h.acts hp (by simp [hw]) ?_)
  have hsplit := List.length_eq_length_filter_add (l := s.manager.queue) fun e => e.circuit = i
  have hone : (s.entriesOf i).length ≤ 1 := by
    have := congrArg List.length (hc.queue i).2
    rw [List.length_map] at this
    rw [this]
    cases (s.record i).staged <;> simp
  have hfilter : (s.manager.queue.filter fun e => !decide (e.circuit = i))
      = s.manager.queue.filter fun e => e.circuit ≠ i := by simp
  rw [h.queue, ← hfilter]
  have : (s.manager.queue.filter fun e => decide (e.circuit = i)).length ≤ 1 := hone
  omega

theorem State.record_freeOpening : (s.freeOpening i).record i =
    { generation := (s.record i).generation } := by
  simp [State.freeOpening, State.record_freeRecord]

theorem State.record_retireOpening : (s.retireOpening i).record i = { s.record i with
    state := .retired, staged := none, retireCause := some .lineRelease, attention := true } := by
  simp [State.retireOpening, State.record_retireRecord]

theorem State.ManagerInOrder.hostEndsOpening (hs : s.ManagerInOrder) (hr : s.Ready)
    (hst : (s.record i).state = .opening) : (s.hostEndsOpening i).ManagerInOrder := by
  obtain ⟨hc, -⟩ := State.managerInOrder_iff.mp hs
  rw [State.hostEndsOpening_eq]
  refine hs.of_leaves (s.leaves_freeOpening i (s.isAwaited_of_ready hc.await hr i)) (by simp [hst])
    ?_ ?_ ?_ <;> rw [State.record_freeOpening]
  · simp
  · exact Record.leasePlaced_of_lease (by simp [Record.remaining])
  · simp [Record.waits]

theorem State.ManagerInOrder.lineEndsOpening (hs : s.ManagerInOrder)
    (hst : (s.record i).state = .opening) : (s.lineEndsOpening i).ManagerInOrder := by
  rw [State.lineEndsOpening_eq]
  refine hs.of_leaves (s.leaves_retireOpening i) (by simp [hst]) ?_ ?_ ?_ <;>
    rw [State.record_retireOpening]
  · simp
  · exact fun _ => .inl rfl
  · simp [Record.waits]

/-- In ALTERING, and in CLOSING but by lease, no lease stands at 0 (R5). -/
theorem Record.LeasePlaced.remaining_ne {r : Record} (h : r.LeasePlaced)
    (hst : r.state = .opening ∨ r.state = .altering
      ∨ (r.state = .closing ∧ r.staged.map Staged.cause ≠ some .lease)) :
    r.remaining ≠ some 0 := by
  intro h0
  rcases h h0 with e | ⟨e, ec⟩ | e <;> rcases hst with g | g | ⟨g, gc⟩ <;> simp_all

theorem State.ManagerInOrder.cancelChange (hs : s.ManagerInOrder) (hr : s.Ready)
    (hst : (s.record i).state = .altering
      ∨ ((s.record i).state = .closing ∧ (s.record i).staged.map Staged.cause ≠ some .lease)) :
    (s.cancelChange i).ManagerInOrder := by
  obtain ⟨hc, hl⟩ := State.managerInOrder_iff.mp hs
  have hne : (s.record i).remaining ≠ some 0 := (hl.placed i).remaining_ne (.inr hst)
  rw [State.cancelChange_eq]
  refine hs.of_leaves (s.leaves_cancelled i (s.isAwaited_of_ready hc.await hr i))
    (by rcases hst with e | ⟨e, -⟩ <;> simp [e]) ?_ ?_ ?_ <;> rw [State.record_cancelled]
  · simp
  · exact Record.leasePlaced_of_lease hne
  · rw [Bool.eq_false_iff]
    intro hw
    exact hne ((Record.waits_iff _).mp hw).2

/-! ## Acceptance -/

theorem State.ManagerInOrder.of_stages {ch : Change} {cu : Cutover} {ca : Cause}
    (hs : s.ManagerInOrder) (h : s.Stages i ch cu ca t) (hroom : s.HasRoom)
    (hold : (s.record i).state = .free ∨ (s.record i).state = .active
      ∨ (s.record i).state = .retired)
    (hst : (t.record i).state.holds (some ch.kind) = true)
    (hrem : (t.record i).remaining = some 0 →
      (s.record i).state = .active ∧ (s.record i).remaining = some 0) : t.ManagerInOrder := by
  obtain ⟨hc, hl⟩ := State.managerInOrder_iff.mp hs
  -- where the queue has room nobody waits, so that the record's lease does not stand at 0
  have hne : (t.record i).remaining ≠ some 0 := by
    intro h0
    have hroom' : s.manager.queue.length < 24 := hroom
    have := hl.waiting i ((Record.waits_iff _).mpr (hrem h0))
    simp only [Config.queueRoom] at this
    omega
  refine State.managerInOrder_iff.mpr ⟨hc.of_stages h hroom
    ((hc.queue i).unstaged (by tauto)).2 (by rcases hold with e | e | e <;> simp [e]) hst,
    hl.of_actsOn h.acts (Record.leasePlaced_of_lease hne)
      (fun hw => absurd ((Record.waits_iff _).mp hw).2 hne) ?_⟩
  rw [h.queue, List.length_append]
  omega

theorem allocated_remaining (g : Byte) (o : Owner) (f : OpenFields) (st : CircuitState) :
    (allocated g o f st).remaining ≠ some 0 := by
  by_cases h : f.lease = 0 <;> simp [allocated, Record.remaining, h]

theorem State.ManagerInOrder.acceptOpen (hs : s.ManagerInOrder) (who : Requester) (f : OpenFields)
    (hold : (s.record i).state = .free ∨ (s.record i).state = .retired) (hroom : s.HasRoom) :
    (s.acceptOpen i who f).ManagerInOrder := by
  refine hs.of_stages (s.stages_acceptOpen i who f) hroom (by tauto) ?_ ?_ <;>
    rw [State.record_acceptOpen]
  · rfl
  · exact fun h0 => absurd h0 (allocated_remaining (s.record i).generation who.owner f .opening)

theorem State.ManagerInOrder.acceptAdd (hs : s.ManagerInOrder) (who : Requester) (g : Group)
    (cu : Cutover) (hold : (s.record i).state = .active) (hroom : s.HasRoom) :
    (s.acceptAdd i who g cu).ManagerInOrder := by
  refine hs.of_stages (s.stages_acceptAdd i who g cu) hroom (.inr (.inl hold)) ?_ ?_ <;>
    rw [State.record_acceptAdd]
  · rfl
  · exact fun h0 => ⟨hold, h0⟩

theorem State.ManagerInOrder.acceptDrop (hs : s.ManagerInOrder) (who : Requester) (g : Group)
    (cu : Cutover) (hold : (s.record i).state = .active) (hroom : s.HasRoom) :
    (s.acceptDrop i who g cu).ManagerInOrder := by
  refine hs.of_stages (s.stages_acceptDrop i who g cu) hroom (.inr (.inl hold)) ?_ ?_ <;>
    rw [State.record_acceptDrop]
  · rfl
  · exact fun h0 => ⟨hold, h0⟩

theorem State.ManagerInOrder.acceptMove (hs : s.ManagerInOrder) (src : Source) (cu : Cutover)
    (hold : (s.record i).state = .active) (hroom : s.HasRoom) :
    (s.acceptMove i src cu).ManagerInOrder := by
  refine hs.of_stages (s.stages_acceptMove i src cu) hroom (.inr (.inl hold)) ?_ ?_ <;>
    rw [State.record_acceptMove]
  · rfl
  · exact fun h0 => ⟨hold, h0⟩

theorem State.ManagerInOrder.releaseActive (hs : s.ManagerInOrder) (who : Requester) (cu : Cutover)
    (hold : (s.record i).state = .active) (hroom : s.HasRoom) :
    (s.releaseActive i who cu).ManagerInOrder := by
  refine hs.of_stages (s.stages_releaseActive i who cu) hroom (.inr (.inl hold)) ?_ ?_ <;>
    rw [State.record_releaseActive]
  · rfl
  · exact fun h0 => ⟨hold, h0⟩

/-- An operation on one circuit that leaves the queue, the record's state and its staged change. -/
theorem State.ManagerInOrder.of_keeps (hs : s.ManagerInOrder) (h : s.ActsOn i t)
    (hq : t.manager.queue = s.manager.queue) (hm : t.mailbox.awaiting = s.mailbox.awaiting)
    (hqv : (t.record i).queueView = (s.record i).queueView)
    (hv : (t.record i).verdictView = (s.record i).verdictView)
    (hp : (t.record i).LeasePlaced)
    (hw : (t.record i).waits = true → (s.record i).waits = true) : t.ManagerInOrder := by
  obtain ⟨hc, hl⟩ := State.managerInOrder_iff.mp hs
  exact State.managerInOrder_iff.mpr ⟨hc.of_keeps h hq hm hqv hv,
    hl.of_actsOn h hp hw (by rw [hq])⟩

theorem State.ManagerInOrder.acceptRenew (hs : s.ManagerInOrder) (v : Byte) :
    (s.acceptRenew i v).ManagerInOrder := by
  have hne : ((s.acceptRenew i v).record i).remaining ≠ some 0 := by
    rw [State.record_acceptRenew]
    by_cases hv : v = 0 <;> simp [Record.remaining, hv]
  refine hs.of_keeps (s.actsOn_acceptRenew i v) rfl rfl ?_ ?_ (Record.leasePlaced_of_lease hne)
    fun hw => absurd ((Record.waits_iff _).mp hw).2 hne
  · rw [State.record_acceptRenew]; rfl
  · rw [State.record_acceptRenew]; rfl

theorem State.ManagerInOrder.acceptAdopt (hs : s.ManagerInOrder)
    (hst : (s.record i).state ≠ .referred) : (s.acceptAdopt i).ManagerInOrder := by
  have hne : ((s.acceptAdopt i).record i).remaining ≠ some 0 := by
    rw [State.record_acceptAdopt]; simp [Record.remaining]
  refine hs.of_keeps (s.actsOn_acceptAdopt i) (by simp [State.acceptAdopt])
    (by simp [State.acceptAdopt]) ?_ ?_ (Record.leasePlaced_of_lease hne)
    fun hw => absurd ((Record.waits_iff _).mp hw).2 hne
  · rw [State.record_acceptAdopt]
    cases hst : (s.record i).staged with
    | none => simp [Record.queueView, hst]
    | some st => by_cases hc : st.cause = Cause.owner <;> simp [Record.queueView, hst, hc]
  · rw [State.record_acceptAdopt]
    exact (Record.verdictView_of_ne (by exact hst)).trans (Record.verdictView_of_ne hst).symm

theorem State.ManagerInOrder.clearAttention (hs : s.ManagerInOrder) (i : RecNo) :
    (s.clearAttention i).ManagerInOrder := by
  have hr : (s.clearAttention i).record i = { s.record i with attention := false } := by
    simp [State.record_clearAttention]
  obtain ⟨-, hl⟩ := State.managerInOrder_iff.mp hs
  refine hs.of_keeps (s.actsOn_clearAttention i) (by simp) (by simp) ?_ ?_ ?_ ?_ <;> rw [hr]
  · rfl
  · rfl
  · exact hl.placed i
  · exact id

/-- A RETIRED record goes to FREE (R49). -/
theorem State.ManagerInOrder.freeRetired (hs : s.ManagerInOrder)
    (hst : (s.record i).state = .retired) : (s.freeRecord i).ManagerInOrder := by
  obtain ⟨hc, hl⟩ := State.managerInOrder_iff.mp hs
  have hr : (s.freeRecord i).record i = { generation := (s.record i).generation } := by
    simp [State.record_freeRecord]
  have hno := (hc.queue i).unstaged (.inr (.inr (.inr hst)))
  refine State.managerInOrder_iff.mpr ⟨hc.of_actsOn (s.actsOn_freeRecord i) ?_ ?_ ⟨?_, ?_⟩
    (hc.await.congr (by simp) (by simp)), hl.of_actsOn (s.actsOn_freeRecord i) ?_ ?_ (by simp)⟩
  · rw [hr, Record.verdictView_of_ne (r := s.record i) (by simp [hst])]; rfl
  · rw [State.QueueBounded, State.queue_freeRecord]; exact hc.bounded
  · rw [hr]; rfl
  · rw [State.entriesOf_congr (State.queue_freeRecord s i), hno.2, hr]; rfl
  · rw [hr]; exact Record.leasePlaced_of_lease (by simp [Record.remaining])
  · rw [hr]; simp [Record.waits]

end Sys2Proof.Machine
end

-- ==== Proofs: the application step and the lease tick ====
section
/-! SUPPORT. The two steps of the Circuit Manager that handle many entries at once, taken entry by
entry: the application step of a frame start (R62) and the lease tick (R112). -/

namespace Sys2Proof.Machine

-- The proofs are elaborated one after another: many at once take the text past its memory limit.
set_option Elab.async false

variable {s t : State} {i : RecNo}

/-! ## The application of one entry -/

/-- The record after its staged change has been applied: nothing is staged on it, and it is ACTIVE
from OPENING or ALTERING, FREE, or RETIRED (R63 to R67). -/
theorem State.record_applyChange (f : FrameInfo)
    (hk : (s.record i).state.holds ((s.record i).staged.map fun st => st.change.kind) = true)
    (hne : (s.record i).staged ≠ none) :
    ((s.applyChange i f).record i).staged = none ∧
      ((((s.applyChange i f).record i).state = .active
          ∧ ((s.record i).state = .opening ∨ (s.record i).state = .altering)
          ∧ ((s.applyChange i f).record i).lease = (s.record i).lease)
        ∨ (s.applyChange i f).record i = { generation := (s.record i).generation }
        ∨ ((s.applyChange i f).record i).state = .retired) := by
  unfold State.applyChange
  obtain ⟨st, hst⟩ := Option.ne_none_iff_exists'.mp hne
  rw [hst, Option.map_some, CircuitState.holds_some] at hk
  rw [hst]
  dsimp only
  cases hc : st.change with
  | activate =>
    have ho : (s.record i).state = .opening := by simpa [hc, Change.kind] using hk
    simp [State.record_applyActivate, ho]
  | deactivate =>
    rcases s.record_applyDeactivate i st.cause with e | ⟨rc, e⟩ <;> simp [e]
  | add g | drop g | move src =>
    have ho : (s.record i).state = .altering := by simpa [hc, Change.kind] using hk
    simp [State.record_applyAdd, State.record_applyDrop, State.record_applyMove, ho]

/-- The record of an entry while its application step goes on: the entries already applied have left
the queue, which the step itself writes last (R62). -/
theorem State.leaves_applyEntry {q : List QueueEntry} {f : FrameInfo} {e : QueueEntry}
    (hs : (s.setQueue q).Core) (he : e ∈ q) :
    (s.setQueue q).Leaves e.circuit
      ((s.applyEntry f e).setQueue (q.filter fun x => x.circuit ≠ e.circuit)) := by
  have hent : e ∈ (s.setQueue q).entriesOf e.circuit :=
    List.mem_filter.mpr ⟨he, by simp⟩
  obtain ⟨hne, hone⟩ := (hs.queue e.circuit).of_entry hent
  have hrec := State.record_applyChange (s := s) f (hs.queue e.circuit).1 hne
  have hacts := s.actsOn_applyEntry f e
  refine ⟨{ hacts with entries := fun j hj => ?_ }, rfl, ?_, ?_, ?_⟩
  · show (q.filter _).filter _ = q.filter _
    rw [List.filter_filter]
    refine List.filter_congr fun x _ => ?_
    by_cases hx : x.circuit = j
    · simp [hx, hj]
    · simp [hx]
  · have haw : (s.setQueue q).isAwaited e.circuit = e.awaited := by
      rw [QueueEntry.isAwaited_eq, hone]
      cases h : e.awaited <;> simp [h]
    rw [haw]
    exact s.awaiting_applyEntry f e
  · rw [State.record_setQueue, State.record_applyEntry]; exact hrec.1
  · rw [State.record_setQueue, State.record_applyEntry]
    rcases hrec.2 with ⟨h, -⟩ | h | h <;> rw [h] <;> rfl

/-- The application of one entry keeps leases where they may stand, and makes nobody wait. -/
theorem State.LeasesWithin.applyEntry {n : Nat} {q : List QueueEntry} {f : FrameInfo}
    {e : QueueEntry}
    (hc : (s.setQueue q).Core) (hs : (s.setQueue q).LeasesWithin n) (he : e ∈ q) :
    ((s.applyEntry f e).setQueue (q.filter fun x => x.circuit ≠ e.circuit)).LeasesWithin
      (n + 1) := by
  have hleaves := State.leaves_applyEntry (f := f) hc he
  have hent : e ∈ (s.setQueue q).entriesOf e.circuit := List.mem_filter.mpr ⟨he, by simp⟩
  obtain ⟨hne, hone⟩ := (hc.queue e.circuit).of_entry hent
  have hrec := State.record_applyChange (s := s) f (hc.queue e.circuit).1 hne
  have hr : ((s.applyEntry f e).setQueue (q.filter fun x => x.circuit ≠ e.circuit)).record e.circuit
      = (s.applyChange e.circuit f).record e.circuit := by
    rw [State.record_setQueue, State.record_applyEntry]
  have hold : (s.record e.circuit).LeasePlaced := hs.placed e.circuit
  -- an ACTIVE record comes from OPENING or ALTERING, where no lease stands at 0
  have hactive : ((s.applyChange e.circuit f).record e.circuit).state = .active →
      ((s.applyChange e.circuit f).record e.circuit).remaining ≠ some 0 := by
    intro ha
    rcases hrec.2 with ⟨-, hst, hl⟩ | h | h
    · rw [Record.remaining, hl]
      exact hold.remaining_ne (by tauto)
    · rw [h]; simp [Record.remaining]
    · rw [ha] at h; cases h
  refine hs.of_actsOn hleaves.acts ?_ ?_ ?_
  · rw [hr]
    rcases hrec.2 with ⟨ha, -⟩ | h | h
    · exact Record.leasePlaced_of_lease (hactive ha)
    · rw [h]; exact Record.leasePlaced_of_lease (by simp [Record.remaining])
    · exact fun _ => .inl h
  · rw [hr]
    intro hw
    obtain ⟨ha, h0⟩ := (Record.waits_iff _).mp hw
    exact absurd h0 (hactive ha)
  · have hsplit := List.length_eq_length_filter_add (l := q) fun x => x.circuit = e.circuit
    have hlen : (q.filter fun x => decide (x.circuit = e.circuit)).length = 1 := by
      have h1 := congrArg List.length hone
      exact h1
    have hfilter : (q.filter fun x => !decide (x.circuit = e.circuit))
        = q.filter fun x => x.circuit ≠ e.circuit := by simp
    rw [hfilter] at hsplit
    show q.length + n ≤ (q.filter fun x => x.circuit ≠ e.circuit).length + (n + 1)
    omega

/-! ## The application step -/

/-- Each circuit has one entry in the queue at most (R57). -/
theorem State.QueueMatches.nodup (h : s.QueueMatches) :
    (s.manager.queue.map QueueEntry.circuit).Nodup := by
  rw [List.nodup_iff_count_le_one]
  intro i
  have hlen := congrArg List.length (h i).2
  rw [List.length_map] at hlen
  have hcount : (s.manager.queue.map QueueEntry.circuit).count i = (s.entriesOf i).length := by
    rw [State.entriesOf, ← List.countP_eq_length_filter, List.count, List.countP_map]
    exact List.countP_congr fun e _ => by simp
  rw [hcount, hlen]
  cases (s.record i).staged <;> simp

/-- The property of a part of an application step: what is left of the queue is in order, the
property P stands, and as many records may wait as entries have been applied. -/
structure State.Applied (P : State → Prop) (n : Nat) (q : List QueueEntry) (u : State) : Prop where
  core : (u.setQueue q).Core
  leases : (u.setQueue q).LeasesWithin n
  kept : P u

/-- The due entries are applied one after another (R62). -/
theorem State.Applied.fold {P : State → Prop} {f : FrameInfo}
    (hP : ∀ u i e, P u → (u.record i).state.holds
      ((u.record i).staged.map fun st => st.change.kind) = true → e.circuit = i →
        P (u.applyEntry f e)) :
    ∀ (l : List QueueEntry) (n : Nat) (q : List QueueEntry) (u : State), u.Applied P n q →
      (l.map QueueEntry.circuit).Nodup → (∀ e ∈ l, e ∈ q) →
      (l.foldl (State.applyEntry f) u).Applied P (n + l.length)
        (q.filter fun x => x.circuit ∉ l.map QueueEntry.circuit)
  | [], n, q, u, hu, _, _ => by simpa using hu
  | e :: l, n, q, u, hu, hnd, hmem => by
    have he : e ∈ q := hmem e (by simp)
    rw [List.map_cons, List.nodup_cons] at hnd
    have hnext : (u.applyEntry f e).Applied P (n + 1)
      (q.filter fun x => x.circuit ≠ e.circuit) := by
      have hleaves := State.leaves_applyEntry (f := f) hu.core he
      have hent : e ∈ (u.setQueue q).entriesOf e.circuit := List.mem_filter.mpr ⟨he, by simp⟩
      have hm := hu.core.queue e.circuit
      refine ⟨hu.core.of_leaves hleaves ?_ ?_, hu.leases.applyEntry hu.core he,
        hP u _ e hu.kept hm.1 rfl⟩
      · intro hst
        exact (hm.of_entry hent).1 (hm.unstaged (.inr (.inl hst))).1
      · have hrec := State.record_applyChange (s := u) f hm.1 (hm.of_entry hent).1
        rw [State.record_setQueue, State.record_applyEntry]
        rcases hrec.2 with ⟨h, -⟩ | h | h <;> rw [h] <;> simp
    have hrest := State.Applied.fold hP l (n + 1) _ _ hnext hnd.2 fun x hx =>
      List.mem_filter.mpr ⟨hmem x (by simp [hx]), by
        have : x.circuit ≠ e.circuit := fun h => hnd.1 (h ▸ List.mem_map_of_mem hx)
        simpa using this⟩
    have hq : (q.filter fun x => decide (x.circuit ∉ (e :: l).map QueueEntry.circuit))
        = (q.filter fun x => decide (x.circuit ≠ e.circuit)).filter
            fun x => decide (x.circuit ∉ l.map QueueEntry.circuit) := by
      rw [List.filter_filter]
      refine List.filter_congr fun x _ => ?_
      by_cases hx : x.circuit = e.circuit <;> simp [hx]
    rw [hq, List.foldl_cons, List.length_cons, show n + (l.length + 1) = n + 1 + l.length by omega]
    exact hrest

/-- The entries that are not due are those of the circuits that no due entry names (R57, R62). -/
theorem State.QueueMatches.rest_eq (h : s.QueueMatches) (d : QueueEntry → Bool) :
    (s.manager.queue.filter fun e => !d e) = s.manager.queue.filter fun x =>
      x.circuit ∉ (s.manager.queue.filter fun e => d e).map QueueEntry.circuit := by
  refine List.filter_congr fun x hx => ?_
  have hinj : ∀ y ∈ s.manager.queue, y.circuit = x.circuit → y = x := fun y hy hyx =>
    List.inj_on_of_nodup_map h.nodup hy hx hyx
  cases hd : d x with
  | true =>
    have : x.circuit ∈ (s.manager.queue.filter fun e => d e).map QueueEntry.circuit :=
      List.mem_map_of_mem (List.mem_filter.mpr ⟨hx, hd⟩)
    simp only [this, not_true_eq_false, decide_false, Bool.not_true]
  | false =>
    have : x.circuit ∉ (s.manager.queue.filter fun e => d e).map QueueEntry.circuit := by
      rw [List.mem_map]
      rintro ⟨y, hy, hyx⟩
      obtain ⟨hy1, hy2⟩ := List.mem_filter.mp hy
      rw [hinj y hy1 hyx, hd] at hy2
      cases hy2
    simp only [this, not_false_eq_true, decide_true, Bool.not_false]

/-- The application step, before deferred staging: what is left of the queue, and a property that
the application of one entry keeps (R62). -/
theorem State.ManagerInOrder.applied {P : State → Prop} (hs : s.ManagerInOrder) (hp : P s)
    {f : FrameInfo} (d : QueueEntry → Bool)
    (hP : ∀ u i e, P u → (u.record i).state.holds
      ((u.record i).staged.map fun st => st.change.kind) = true → e.circuit = i →
        P (u.applyEntry f e)) :
    ((s.manager.queue.filter fun e => d e).foldl (State.applyEntry f) s).Applied P
      (s.manager.queue.filter fun e => d e).length (s.manager.queue.filter fun e => !d e) := by
  obtain ⟨hc, hl⟩ := State.managerInOrder_iff.mp hs
  have h := State.Applied.fold hP (s.manager.queue.filter fun e => d e) 0 s.manager.queue s
    ⟨hc, hl, hp⟩ ((List.Sublist.map _ List.filter_sublist).nodup hc.queue.nodup)
    fun e he => (List.mem_filter.mp he).1
  rw [Nat.zero_add, ← hc.queue.rest_eq d] at h
  exact h

theorem State.ManagerInOrder.applyDue (hs : s.ManagerInOrder) : s.applyDue.ManagerInOrder := by
  have h := hs.applied (P := fun _ => True) (f := s.manager.frame) trivial (fun e => s.due e)
    fun _ _ _ _ _ _ => trivial
  exact .of_serveWaiting h.core h.leases

/-! ## The lease tick -/

@[simp] theorem State.record_countLeases (s : State) (i : RecNo) :
    s.countLeases.record i = (s.record i).countDown := by
  simp [State.record, State.countLeases]

/-- A count reduced by one touches the lease alone (R112). -/
theorem Record.countDown_eq (r : Record) : r.countDown = { r with lease := r.countDown.lease } := by
  unfold Record.countDown
  split <;> rfl

theorem Record.countDown_remaining {r : Record} (h : r.countDown.remaining = some 0) :
    r.remaining = some 0 ∨ (r.runsOut = true ∧ r.counts = true) := by
  unfold Record.countDown at h
  split at h
  · next hc =>
    cases hl : r.lease with
    | none => simp [Record.remaining, hl] at h
    | some l =>
      right
      simp only [Record.remaining, hl, Option.map_some, Option.some.injEq] at h
      have h1 : l.remaining = 1 := by bv_omega
      exact ⟨by simp [Record.runsOut, hc, hl, h1], hc⟩
  · exact .inl h

theorem Record.state_of_counts {r : Record} (h : r.counts = true) :
    r.state = .opening ∨ r.state = .active ∨ r.state = .altering := by
  simp only [Record.counts, Bool.and_eq_true, Bool.or_eq_true, decide_eq_true_eq] at h
  tauto

/-- Where leases stand while a lease tick goes on: the records still to be handled may stand at 0 in
OPENING and ALTERING, every other where it may (R112). -/
def State.LeasesBut (l : List RecNo) (s : State) : Prop :=
  ∀ i, (s.record i).LeasePlaced
    ∨ (i ∈ l ∧ ((s.record i).state = .opening ∨ (s.record i).state = .altering))

theorem State.leasesBut_countLeases (h : ∀ i, (s.record i).LeasePlaced) :
    s.countLeases.LeasesBut s.runningOut := by
  intro i
  rw [State.record_countLeases, Record.countDown_eq]
  by_cases h0 : (s.record i).countDown.remaining = some 0
  · rcases Record.countDown_remaining h0 with hr | ⟨hout, hc⟩
    · left
      exact fun _ => h i hr
    · rcases Record.state_of_counts hc with e | e | e
      · exact .inr ⟨by simp [State.runningOut, hout], .inl e⟩
      · exact .inl fun _ => .inr (.inr e)
      · exact .inr ⟨by simp [State.runningOut, hout], .inr e⟩
  · exact .inl fun h1 => absurd h1 h0

theorem State.Core.countLeases (hs : s.Core) : s.countLeases.Core := by
  refine hs.of_views rfl rfl (fun _ => (Link.Keeps.refl _).order) (fun _ => rfl)
    (fun i => ?_) fun i => ?_ <;>
    rw [State.record_countLeases, Record.countDown_eq] <;> rfl

theorem State.Core.setAttention (hs : s.Core) (i : RecNo) : (s.setAttention i).Core := by
  have hr : (s.setAttention i).record i = { s.record i with attention := true } := by
    simp [State.record_setAttention]
  refine hs.of_keeps (s.actsOn_setAttention i) (by simp) (by simp) ?_ ?_ <;> rw [hr] <;> rfl

theorem State.LeasesBut.setAttention {l : List RecNo} (h : s.LeasesBut l) (j : RecNo) :
    (s.setAttention j).LeasesBut l := by
  intro i
  rw [State.record_setAttention]
  split
  · exact h i
  · exact h i

/-- The entries of one circuit after that circuit's entry has been rewritten in place (R73). -/
theorem State.entriesOf_rewriteEntry (s : State) (i : RecNo) :
    (s.rewriteEntry i).entriesOf i
      = (s.entriesOf i).map fun _ => ⟨i, .deactivate, .nextFrame, s.timing.tally, false⟩ := by
  simp only [State.entriesOf, State.rewriteEntry, State.setQueue]
  induction s.manager.queue with
  | nil => rfl
  | cons e rest ih =>
    by_cases he : e.circuit = i <;> simp [he] <;> simpa using ih

theorem State.countP_rewriteEntry (s : State) (i : RecNo) :
    (s.rewriteEntry i).manager.queue.countP QueueEntry.awaited
      = (s.manager.queue.filter fun e => e.circuit ≠ i).countP QueueEntry.awaited := by
  simp only [State.rewriteEntry, State.setQueue]
  induction s.manager.queue with
  | nil => rfl
  | cons e rest ih =>
    by_cases he : e.circuit = i
    · simp only [List.map_cons, he, if_true, List.countP_cons, Bool.false_eq_true, if_false,
        List.filter_cons, ne_eq, not_true_eq_false, decide_false]
      simpa using ih
    · simp only [List.map_cons, he, if_false, List.countP_cons, List.filter_cons, ne_eq,
        not_false_eq_true, decide_true, if_true]
      rw [ih]

theorem State.queue_expireAltering (s : State) (i : RecNo) :
    (s.expireAltering i).manager.queue = (s.rewriteEntry i).manager.queue := by
  rw [State.expireAltering_eq, State.withdrawn_manager]; rfl

/-- Expiry in ALTERING (R73, R115). -/
theorem State.Core.expireAltering (hs : s.Core) (hst : (s.record i).state = .altering) :
    (s.expireAltering i).Core := by
  obtain ⟨st, hstg, -⟩ := (hs.queue i).staged_of_altering hst
  refine hs.of_actsOn (s.actsOn_expireAltering i) ?_ ?_ ⟨?_, ?_⟩ ?_
  · rw [State.record_expireAltering, Record.verdictView_of_ne (r := s.record i) (by simp [hst])]
    rfl
  · rw [State.QueueBounded, State.queue_expireAltering]
    simp only [State.rewriteEntry, State.setQueue, List.length_map]
    exact hs.bounded
  · rw [State.record_expireAltering]; rfl
  · rw [State.entriesOf_congr (s.queue_expireAltering i) i, State.entriesOf_rewriteEntry,
      State.record_expireAltering]
    have hlen := congrArg List.length (hs.queue i).2
    rw [hstg, List.length_map] at hlen
    obtain ⟨e, he⟩ := List.length_eq_one_iff.mp (by simpa using hlen)
    rw [he]; rfl
  · rw [State.AwaitMatches, State.queue_expireAltering, State.countP_rewriteEntry, hs.await.without,
      State.expireAltering_eq, State.withdrawn_awaiting]
    rfl

theorem State.record_expireOpening (s : State) (i : RecNo) :
    (s.expireOpening i).record i = { s.record i with
      state := .retired, staged := none, retireCause := some .leaseExpired,
      attention := true } := by
  simp [State.expireOpening_eq, State.record_retireRecord]

theorem State.Core.expireOpening (hs : s.Core) (hst : (s.record i).state = .opening) :
    (s.expireOpening i).Core :=
  hs.of_leaves (s.leaves_expireOpening i) (by simp [hst]) (by simp [State.record_expireOpening])

theorem State.Core.expire (hs : s.Core) (i : RecNo) : (s.expire i).Core := by
  unfold State.expire
  split
  · next h => exact hs.expireOpening h
  · next h => exact hs.expireAltering h
  · exact hs

/-- One expired record is handled: its lease stands where it may (R73, R114, R115). -/
theorem State.LeasesBut.expire {l : List RecNo} (h : s.LeasesBut (i :: l)) :
    (s.expire i).LeasesBut l := by
  have hothers : ∀ j, j ≠ i → ((s.expire i).record j).LeasePlaced
      ∨ (j ∈ l ∧ (((s.expire i).record j).state = .opening
        ∨ ((s.expire i).record j).state = .altering)) := by
    intro j hj
    rw [(s.actsOn_expire i).records j hj]
    rcases h j with e | ⟨hm, e⟩
    · exact .inl e
    · exact .inr ⟨by simpa [hj] using hm, e⟩
  intro j
  by_cases hj : j = i
  · subst hj
    left
    unfold State.expire
    split
    · rw [State.record_expireOpening]; exact fun _ => .inl rfl
    · rw [State.record_expireAltering]; exact fun _ => .inr (.inl ⟨rfl, rfl⟩)
    · next ho ha =>
      rcases h j with e | ⟨-, e | e⟩
      · exact e
      · exact absurd e ho
      · exact absurd e ha
  · exact hothers j hj

theorem State.LeasesBut.foldl_expire : ∀ (l : List RecNo) {s : State}, s.LeasesBut l →
    (l.foldl State.expire s).LeasesBut []
  | [], _, h => h
  | _ :: l, _, h => State.LeasesBut.foldl_expire l h.expire

/-- The lease tick before the staging pass (R112, steps 1 and 2). -/
def State.tickExpired (s : State) : State :=
  s.runningOut.foldl State.expire (s.runningOut.foldl (fun s i => s.setAttention i) s.countLeases)

theorem State.leaseTick_eq (s : State) : s.leaseTick =
    s.tickExpired.serveWaiting (Config.queueRoom - s.tickExpired.manager.queue.length) := rfl

theorem State.ManagerInOrder.leaseTick (hs : s.ManagerInOrder) : s.leaseTick.ManagerInOrder := by
  obtain ⟨hc, hl⟩ := State.managerInOrder_iff.mp hs
  have hcore : s.tickExpired.Core :=
    foldl_keeps (fun _ i hu => hu.expire i) _ _
      (foldl_keeps (fun _ i hu => hu.setAttention i) _ _ hc.countLeases)
  have hleases : s.tickExpired.LeasesBut [] :=
    .foldl_expire _ (foldl_keeps (fun _ i hu => hu.setAttention i) _ _
      (State.leasesBut_countLeases hl.placed))
  rw [State.leaseTick_eq]
  refine .of_serveWaiting hcore ⟨fun i => ?_, fun i _ => by omega⟩
  rcases hleases i with e | ⟨hm, -⟩
  · exact e
  · cases hm

end Sys2Proof.Machine
end

-- ==== Proofs: referrals, answers, and the wait of the mailbox ====
section
/-! SUPPORT. The Circuit Manager stays in order where a referral begins or ends, where a link is
answered or its session cleared, and where the mailbox begins or ends a wait (R155, R168, R173 to
R175, R186). -/

namespace Sys2Proof.Machine

-- The proofs are elaborated one after another: many at once take the text past its memory limit.
set_option Elab.async false

variable {s t : State} {i : RecNo} {k : LinkNo}

/-! ## What a state's order reads -/

theorem State.LeasesWithin.congr {n : Nat} (hs : s.LeasesWithin n)
    (hr : ∀ i, t.record i = s.record i) (hq : t.manager.queue.length = s.manager.queue.length) :
    t.LeasesWithin n where
  placed i := by rw [hr]; exact hs.placed i
  waiting i := by rw [hr, hq]; exact hs.waiting i

/-- The Circuit Manager's order reads the circuit table, the change queue, the wait of the mailbox,
the references of the referrals, and the links. -/
theorem State.ManagerInOrder.of_views (hs : s.ManagerInOrder)
    (ht : t.manager.table = s.manager.table) (hq : t.manager.queue = s.manager.queue)
    (hm : t.mailbox.awaiting = s.mailbox.awaiting) (hl : ∀ k, (s.link k).KeepsOrder (t.link k))
    (hr : ∀ k, (t.referral k).map (fun r => (r.circuit, r.generation))
      = (s.referral k).map (fun r => (r.circuit, r.generation))) : t.ManagerInOrder := by
  obtain ⟨hc, hle⟩ := State.managerInOrder_iff.mp hs
  have hrec : ∀ i, t.record i = s.record i := State.record_congr ht
  exact State.managerInOrder_iff.mpr ⟨hc.of_views hq hm hl hr (fun i => by rw [hrec])
    fun i => by rw [hrec], hle.congr hrec (by rw [hq])⟩

theorem State.ManagerInOrder.setLink (hs : s.ManagerInOrder) {l : Link}
    (h : (s.link k).Keeps l) : (s.setLink k l).ManagerInOrder := by
  refine hs.of_views rfl rfl rfl (fun j => ?_) fun _ => rfl
  rw [State.link_setLink]
  split
  · next e => exact e ▸ h.order
  · exact (Link.Keeps.refl _).order

/-! ## The end of a referral -/

/-- The referral of one link ends: its record leaves REFERRED, and the link's request is no longer
REFERRED (R173 to R175). -/
theorem State.ReferralMatches.ended (hs : s.ReferralMatches) {r : Referral}
    (hk : s.referral k = some r)
    (href : ∀ j, t.referral j = if k = j then none else s.referral j)
    (hrec : ∀ i, i ≠ r.circuit → (t.record i).verdictView = (s.record i).verdictView)
    (hout : (t.record r.circuit).state ≠ .referred)
    (hl : ∀ j, j ≠ k → ((t.link j).AwaitsVerdict ↔ (s.link j).AwaitsVerdict))
    (hlk : ¬(t.link k).AwaitsVerdict) : t.ReferralMatches := by
  obtain ⟨hnames, hnamed, hproc⟩ := hs
  refine ⟨fun j q hq => ?_, fun i hi => ?_, fun j => ?_⟩
  · rw [href] at hq
    split at hq
    · cases hq
    · next hkj =>
      obtain ⟨h1, h2, h3⟩ := hnames j q hq
      have hne : q.circuit ≠ r.circuit := by
        intro e
        have h2' := (hnames k r hk).2.1
        rw [← e, h2] at h2'
        injection h2' with h2'
        injection h2' with h2'
        exact hkj h2'.symm
      obtain ⟨g1, g2, g3⟩ := Record.state_of_verdictView (hrec q.circuit hne).symm h1
      exact ⟨g1, g2.trans h2, g3.trans h3⟩
  · have hne : i ≠ r.circuit := by rintro rfl; exact hout hi
    obtain ⟨g1, -, -⟩ := Record.state_of_verdictView (hrec i hne) hi
    obtain ⟨j, hj⟩ := hnamed i g1
    refine ⟨j, ?_⟩
    have hjk : k ≠ j := by
      rintro rfl
      rw [hk] at hj
      exact hne (by simpa using hj.symm)
    rw [href, if_neg hjk, hj]
  · rw [href]
    by_cases hj : k = j
    · subst hj
      simpa using hlk
    · rw [if_neg hj, ← hproc j]
      exact hl j (Ne.symm hj)

/-- The queue's agreement with the table, through an operation on one circuit. -/
theorem State.QueueMatches.of_actsOn (hs : s.QueueMatches) (h : s.ActsOn i t)
    (hm : t.StagedMatches i) : t.QueueMatches := fun j => by
  by_cases hj : j = i
  · exact hj ▸ hm
  · exact (hs j).congr (by rw [h.records j hj]) (h.entries j hj)

/-- A REFERRED record goes to FREE: the queue, in which it has no entry, still agrees (R174, R175).
-/
theorem State.QueueMatches.freeReferred (hs : s.QueueMatches)
    (hst : (s.record i).state = .referred) : (s.freeRecord i).QueueMatches := by
  have hno := (hs i).unstaged (.inr (.inl hst))
  refine hs.of_actsOn (s.actsOn_freeRecord i) ⟨?_, ?_⟩
  · simp [State.record_freeRecord, CircuitState.holds]
  · rw [State.entriesOf_congr (State.queue_freeRecord s i), hno.2, State.record_freeRecord]
    simp

/-- The Circuit Manager's order from that of a state with the same table and queue, the referrals
and the links apart. -/
theorem State.Core.of_manager {u : State} (hq : u.QueueMatches) (hb : u.QueueBounded)
    (ha : u.AwaitMatches) (hm : t.manager = u.manager)
    (hw : t.mailbox.awaiting = u.mailbox.awaiting) (hr : t.ReferralMatches) (hl : t.LinksInOrder) :
    t.Core where
  bounded := by rw [State.QueueBounded, hm]; exact hb
  queue i := (hq i).congr (by rw [State.record_congr (t := t) (s := u) (by rw [hm])])
    (State.entriesOf_congr (by rw [hm]) i)
  await := ha.congr (by rw [hm]) hw
  referral := hr
  links := hl

/-- Where the record of a referral has gone to FREE, its link holds no request that waits for a
verdict, and the link's referral is EMPTY (R174, R175). -/
theorem State.ManagerInOrder.referralFreed (hs : s.ManagerInOrder) {r : Referral}
    (hk : s.referral k = some r) (hm : t.manager = (s.freeRecord r.circuit).manager)
    (hw : t.mailbox.awaiting = s.mailbox.awaiting)
    (href : ∀ j, t.referral j = if k = j then none else s.referral j)
    (hl : ∀ j, j ≠ k → t.link j = s.link j) (hlk : ¬(t.link k).AwaitsVerdict)
    (hlo : (s.link k).InOrder → (t.link k).InOrder) : t.ManagerInOrder := by
  obtain ⟨hc, hle⟩ := State.managerInOrder_iff.mp hs
  have hst := (hc.referral.1 k r hk).1
  have hrec : ∀ j, t.record j = (s.freeRecord r.circuit).record j := State.record_congr (by rw [hm])
  have hfree : (s.freeRecord r.circuit).record r.circuit
      = { generation := (s.record r.circuit).generation } := by simp [State.record_freeRecord]
  refine State.managerInOrder_iff.mpr ⟨.of_manager
    (hc.queue.freeReferred hst) ?_ ?_ hm ?_ ?_ ?_, ?_⟩
  · rw [State.QueueBounded, State.queue_freeRecord]; exact hc.bounded
  · exact hc.await.congr (State.queue_freeRecord _ _) (by rw [State.mailbox_freeRecord])
  · rw [hw, State.mailbox_freeRecord]
  · refine hc.referral.ended hk href (fun j hj => ?_) ?_ (fun j hj => by rw [hl j hj]) hlk
    · rw [hrec, (s.actsOn_freeRecord _).records j hj]
    · rw [hrec, hfree]; simp
  · intro j
    by_cases hj : j = k
    · subst hj; exact hlo (hc.links j)
    · rw [hl j hj]; exact hc.links j
  · have hfr : (s.freeRecord r.circuit).LeasesWithin 0 :=
      hle.of_actsOn (s.actsOn_freeRecord _)
        (by rw [hfree]; exact Record.leasePlaced_of_lease (by simp [Record.remaining]))
        (by rw [hfree]; simp [Record.waits]) (by simp)
    exact hfr.congr hrec (by rw [hm])

/-! ### Denial -/

@[simp] theorem State.link_setReferral (s : State) (k j : LinkNo) (r : Option Referral) :
    (s.setReferral k r).link j = s.link j := rfl

theorem State.links_freeRecord (s : State) (i : RecNo) : (s.freeRecord i).links = s.links := by
  simp only [State.freeRecord, State.setRecord_links]
  rw [State.clearAttention_eq]
  rfl

theorem State.referrals_freeRecord (s : State) (i : RecNo) :
    (s.freeRecord i).referrals = s.referrals := (s.actsOn_freeRecord i).referrals

/-- A RESULT is placed on one link, and nothing else happens (R155). -/
theorem State.answerLine_eq (s : State) (k : LinkNo) (r : Reply) :
    s.answerLine k r = { s with links := (s.answerLine k r).links } := by
  unfold State.answerLine
  split <;> rfl

theorem State.link_answerLine (s : State) (k j : LinkNo) (r : Reply) :
    (s.answerLine k r).link j = if k = j then
      match (s.link k).inProcess with
      | some q => (s.link k).placeResult (r.result q.tag)
      | none => s.link k
    else s.link j := by
  unfold State.answerLine
  cases h : (s.link k).inProcess with
  | some q => exact s.link_setLink k j _
  | none => by_cases e : k = j <;> simp [e]

theorem State.link_answerLine_self (s : State) (k : LinkNo) (r : Reply) :
    ((s.link k).InOrder → ((s.answerLine k r).link k).InOrder)
      ∧ ¬((s.answerLine k r).link k).AwaitsVerdict := by
  rw [State.link_answerLine, if_pos rfl]
  cases h : (s.link k).inProcess with
  | none => exact ⟨id, by simp [Link.AwaitsVerdict, h]⟩
  | some q => exact ⟨fun ho => ho.placeResult (Reply.result_ne_nil _ _),
      Link.placeResult_not_awaitsVerdict _ _⟩

theorem State.ManagerInOrder.denyReferral (hs : s.ManagerInOrder) {r : Referral}
    (hk : s.referral k = some r) : (s.denyReferral k r).ManagerInOrder := by
  have hlinks : ∀ j, (s.freeRecord r.circuit).link j = s.link j :=
    State.link_congr (s.links_freeRecord _)
  have hself := State.link_answerLine_self (s.freeRecord r.circuit) k
    { outcome := .denied, reference := some (indexOctet r.circuit, r.generation) }
  refine hs.referralFreed hk ?_ ?_ (fun j => ?_) (fun j hj => ?_) hself.2 fun ho =>
    hself.1 (by rw [hlinks]; exact ho)
  · rw [State.denyReferral, State.setReferral_manager, State.manager_answerLine]
  · rw [State.denyReferral, State.setReferral_mailbox, State.answerLine_eq]
    exact congrArg Mailbox.awaiting (s.mailbox_freeRecord _)
  · rw [State.denyReferral, State.referral_setReferral]
    refine if_congr Iff.rfl rfl ?_
    rw [State.answerLine_eq]
    exact congrArg (fun x => x.records[j]) (s.referrals_freeRecord _)
  · rw [State.denyReferral, State.link_setReferral, State.link_answerLine, if_neg (Ne.symm hj),
      hlinks]

/-! ### The end of a session -/

/-- What a link becomes where its session ends (R133, R149). -/
structure Link.Closes (l l' : Link) : Prop where
  inOrder : l.InOrder → l'.InOrder
  counts : l.CountsInRange → l'.CountsInRange
  inProcess : l'.inProcess = none
  arrived : l.arrived = l'.arrived

theorem State.endReferral_links (s : State) (k : LinkNo) : (s.endReferral k).links = s.links := by
  unfold State.endReferral
  split
  · next r _ => rw [State.setReferral_links]; exact s.links_freeRecord _
  · rfl

theorem State.ManagerInOrder.endSession (hs : s.ManagerInOrder) {l : Link}
    (h : (s.link k).Closes l) : ((s.endReferral k).setLink k l).ManagerInOrder := by
  have hnot : ¬l.AwaitsVerdict := Link.not_awaitsVerdict_of_none h.inProcess
  cases hk : s.referral k with
  | none =>
    have he : s.endReferral k = s := by rw [State.endReferral, hk]
    rw [he]
    have hv : ¬(s.link k).AwaitsVerdict := fun ha => by
      have := (hs.2.2.2.1.2.2 k).mp ha
      rw [hk] at this
      cases this
    obtain ⟨hc, hle⟩ := State.managerInOrder_iff.mp hs
    have hlink : ∀ j, (s.setLink k l).link j = if k = j then l else s.link j := fun j =>
      s.link_setLink k j l
    refine State.managerInOrder_iff.mpr ⟨.of_manager hc.queue hc.bounded hc.await rfl rfl
      (hc.referral.congr (fun _ => rfl) (fun _ => rfl) fun j => ?_) (fun j => ?_),
      hle.congr (fun _ => rfl) rfl⟩
    · rw [hlink]
      split
      · next e => exact iff_of_false hnot (e ▸ hv)
      · rfl
    · show (State.link _ j).InOrder
      rw [hlink]
      split
      · exact h.inOrder (hc.links k)
      · exact hc.links j
  | some r =>
    have he : s.endReferral k = (s.freeRecord r.circuit).setReferral k none := by
      rw [State.endReferral, hk]
    refine hs.referralFreed hk ?_ ?_ (fun j => ?_) (fun j hj => ?_) ?_ ?_
    · rw [State.setLink_manager, he]; rfl
    · rw [State.setLink_mailbox, he]
      exact congrArg Mailbox.awaiting (s.mailbox_freeRecord _)
    · show State.referral ((s.endReferral k).setLink k l) j = _
      rw [he]
      exact (State.referral_setReferral _ k j none).trans (if_congr Iff.rfl rfl
        (congrArg (fun x => x.records[j]) (s.referrals_freeRecord _)))
    · rw [State.link_setLink, if_neg (Ne.symm hj)]
      exact State.link_congr (s.endReferral_links k) j
    · rw [State.link_setLink, if_pos rfl]; exact hnot
    · rw [State.link_setLink, if_pos rfl]; exact h.inOrder

/-! ### Approval -/

/-- The state after an APPROVE has staged the ACTIVATE (R173). -/
def State.openReferred (r : Referral) (s : State) : State :=
  (s.stage r.circuit .activate r.cutover .owner).setCircuitState r.circuit .opening

theorem State.approveReferral_eq (s : State) (k : LinkNo) (r : Referral) : s.approveReferral k r =
    State.setReferral k none
      ((s.openReferred r).answerLine k ((s.openReferred r).report r.circuit)) := rfl

theorem State.stages_openReferred (s : State) (r : Referral) :
    s.Stages r.circuit .activate r.cutover .owner (s.openReferred r) where
  acts := (s.actsOn_stage _ _ _ _).trans (State.actsOn_setCircuitState _ _ _)
  queue := rfl
  mailbox := rfl
  staged := by simp [State.openReferred]

theorem State.record_openReferred (s : State) (r : Referral) :
    (s.openReferred r).record r.circuit = { s.record r.circuit with
      state := .opening, staged := some ⟨.activate, r.cutover, .owner⟩ } := by
  simp [State.openReferred]

theorem State.ManagerInOrder.approveReferral (hs : s.ManagerInOrder) {r : Referral}
    (hk : s.referral k = some r) (hroom : s.HasRoom) : (s.approveReferral k r).ManagerInOrder := by
  obtain ⟨hc, hle⟩ := State.managerInOrder_iff.mp hs
  have hst := (hc.referral.1 k r hk).1
  have hno := (hc.queue r.circuit).unstaged (.inr (.inl hst))
  have hstages := s.stages_openReferred r
  have hne : ((s.openReferred r).record r.circuit).remaining ≠ some 0 := by
    intro h0
    rw [State.record_openReferred] at h0
    rcases hle.placed r.circuit h0 with e | ⟨e, -⟩ | e <;> rw [hst] at e <;> cases e
  have hm : (s.approveReferral k r).manager = (s.openReferred r).manager := by
    rw [State.approveReferral_eq, State.setReferral_manager, State.manager_answerLine]
  have hrec : ∀ j, (s.approveReferral k r).record j = (s.openReferred r).record j :=
    State.record_congr (by rw [hm])
  have hself := State.link_answerLine_self (s.openReferred r) k
    ((s.openReferred r).report r.circuit)
  have hother : ∀ j, j ≠ k → (s.approveReferral k r).link j = s.link j := fun j hj => by
    rw [State.approveReferral_eq, State.link_setReferral, State.link_answerLine,
      if_neg (Ne.symm hj)]
    rfl
  refine State.managerInOrder_iff.mpr ⟨.of_manager
    (hc.queue.of_actsOn hstages.acts (State.stagedMatches_join hno.2 hstages.staged ?_ hstages.queue
      ⟨rfl, rfl, rfl⟩)) ?_ (hc.await.join rfl hstages.queue rfl) hm ?_ ?_ ?_, ?_⟩
  · rw [State.record_openReferred]; rfl
  · have hroom' : s.manager.queue.length < 24 := hroom
    rw [State.QueueBounded, hstages.queue, List.length_append, List.length_singleton,
      Config.queueRoom]
    omega
  · rw [State.approveReferral_eq, State.setReferral_mailbox, State.answerLine_eq]
  · refine hc.referral.ended hk (fun j => ?_) (fun j hj => ?_) ?_ (fun j hj => by rw [hother j hj])
      hself.2
    · rw [State.approveReferral_eq, State.referral_setReferral, State.answerLine_eq]
      rfl
    · rw [hrec, hstages.acts.records j hj]
    · rw [hrec, State.record_openReferred]; simp
  · intro j
    by_cases hj : j = k
    · subst hj; exact hself.1 (hc.links j)
    · rw [hother j hj]; exact hc.links j
  · have hl : (s.openReferred r).LeasesWithin 0 :=
      hle.of_actsOn hstages.acts (Record.leasePlaced_of_lease hne)
        (fun hw => absurd ((Record.waits_iff _).mp hw).2 hne) (by
          rw [hstages.queue, List.length_append]; omega)
    exact hl.congr hrec (by rw [hm])

/-! ## Entry into referral -/

/-- The links and the referral records once an OPEN of link k is referred to record i (R40, R169).
-/
theorem State.ReferralMatches.entered (hs : s.ReferralMatches) {r : Referral}
    (hk : s.referral k = none) (href : ∀ j, t.referral j = if k = j then some r else s.referral j)
    (hold : (s.record r.circuit).state ≠ .referred)
    (hnew : (t.record r.circuit).state = .referred
      ∧ (t.record r.circuit).owner = some (.link k)
      ∧ (t.record r.circuit).generation = r.generation)
    (hrec : ∀ i, i ≠ r.circuit → t.record i = s.record i)
    (hl : ∀ j, j ≠ k → ((t.link j).AwaitsVerdict ↔ (s.link j).AwaitsVerdict))
    (hlk : (t.link k).AwaitsVerdict) : t.ReferralMatches := by
  obtain ⟨hnames, hnamed, hproc⟩ := hs
  refine ⟨fun j q hq => ?_, fun i hi => ?_, fun j => ?_⟩
  · rw [href] at hq
    split at hq
    · next e => cases hq; exact e ▸ hnew
    · have hq' := hnames j q hq
      have hne : q.circuit ≠ r.circuit := fun e => hold (e ▸ hq'.1)
      rw [hrec _ hne]
      exact hq'
  · by_cases hi' : i = r.circuit
    · exact ⟨k, by rw [href, if_pos rfl, hi']; rfl⟩
    · rw [hrec i hi'] at hi
      obtain ⟨j, hj⟩ := hnamed i hi
      refine ⟨j, ?_⟩
      have hjk : k ≠ j := by rintro rfl; rw [hk] at hj; cases hj
      rw [href, if_neg hjk, hj]
  · rw [href]
    by_cases hj : k = j
    · subst hj
      simpa using hlk
    · rw [if_neg hj, ← hproc j]
      exact hl j (Ne.symm hj)

/-- The referral record that an OPEN makes (R168). -/
def referralFor (i : RecNo) (tag : Byte) (f : OpenFields) (generation timeout : Byte) :
    Referral where
  circuit := i
  generation := generation + 1
  tag := tag
  sourceLink := match f.source with | some (.position l _) => l | _ => 0
  sourceSlot := match f.source with | some (.position _ q) => q | _ => 0
  width := f.width
  cutover := f.cutover.getD .nextFrame
  lease := f.lease
  dests := f.dests
  remaining := timeout

/-- Link k's request in process goes to REFERRED (R154). -/
def Link.refer (l : Link) : Link :=
  { l with inProcess := l.inProcess.map fun q => { q with phase := .referred } }

theorem State.links_allocate (s : State) (i : RecNo) (o : Owner) (f : OpenFields)
    (st : CircuitState) : (s.allocate i o f st).links = s.links := by
  show (State.clearAttention i s).links = s.links
  rw [State.clearAttention_eq]

theorem State.enterReferral_eq (s : State) (k : LinkNo) (i : RecNo) (tag : Byte) (f : OpenFields) :
    s.enterReferral k i tag f =
      (((s.allocate i (.link k) f .referred).setReferral k
        (some (referralFor i tag f (s.record i).generation s.referrals.timeout))).raise
          referralEvent).setLink k (s.link k).refer := by
  have hgen : ((s.allocate i (.link k) f .referred).record i).generation
      = (s.record i).generation + 1 := by simp [allocated]
  have htimeout : (s.allocate i (.link k) f .referred).referrals.timeout = s.referrals.timeout := by
    rw [(s.actsOn_allocate i _ _ _).referrals]
  have hlink : (s.allocate i (.link k) f .referred).link k = s.link k :=
    State.link_congr (s.links_allocate i _ _ _) k
  have hr : referralFor i tag f (s.record i).generation s.referrals.timeout
      = { circuit := i, generation := ((s.allocate i (.link k) f .referred).record i).generation,
          tag := tag,
          sourceLink := (match f.source with | some (.position l q) => (l, q) | _ => (0, 0)).1,
          sourceSlot := (match f.source with | some (.position l q) => (l, q) | _ => (0, 0)).2,
          width := f.width, cutover := f.cutover.getD .nextFrame, lease := f.lease,
          dests := f.dests,
          remaining := (s.allocate i (.link k) f .referred).referrals.timeout } := by
    rw [hgen, htimeout, referralFor]
    congr 1 <;> (cases f.source with | none => rfl | some src => cases src <;> rfl)
  rw [hr, ← hlink, State.enterReferral]
  rfl

/-- Entry into referral touches link k alone (R40). -/
theorem State.link_entered (s : State) (i : RecNo) (f : OpenFields) (r : Option Referral) (l : Link)
    (j : LinkNo) :
    ((((s.allocate i (.link k) f .referred).setReferral k r).raise referralEvent).setLink k
      l).link j
      = if k = j then l else s.link j := by
  rw [State.link_setLink]
  exact if_congr Iff.rfl rfl (State.link_congr
    (by rw [State.raise_links, State.setReferral_links, State.links_allocate]) j)

theorem State.handed_some {x : Byte × LineRequest} (h : s.handed k = some x) :
    ∃ q, (s.link k).inProcess = some q ∧ q.phase = .handed := by
  unfold State.handed at h
  split at h
  · next a b c hq => exact ⟨_, hq, rfl⟩
  · cases h

theorem State.not_awaitsVerdict_of_handed (h : (s.handed k).isSome = true) :
    ¬(s.link k).AwaitsVerdict := by
  obtain ⟨x, hx⟩ := Option.isSome_iff_exists.mp h
  obtain ⟨q, hq, hph⟩ := State.handed_some hx
  simp [Link.AwaitsVerdict, hq, hph]

theorem Link.InOrder.refer {l : Link} (h : l.InOrder) : l.refer.InOrder := by
  obtain ⟨he, hc, ⟨ho, hn, -⟩, h1, hq, ha⟩ := h
  refine ⟨he, fun h0 => ?_, ⟨ho, hn, ?_⟩, fun hp => h1 (by simpa [Link.refer] using hp), hq, ha⟩
  · obtain ⟨g1, g2, g3, g4⟩ := hc h0
    exact ⟨by simp [Link.refer, g1], g2, g3, g4⟩
  · cases hp : l.inProcess <;> simp [Link.refer, hp]

theorem State.ManagerInOrder.enterReferral (hs : s.ManagerInOrder) (tag : Byte) (f : OpenFields)
    (hold : (s.record i).state = .free ∨ (s.record i).state = .retired)
    (hh : (s.handed k).isSome = true) : (s.enterReferral k i tag f).ManagerInOrder := by
  obtain ⟨hc, hle⟩ := State.managerInOrder_iff.mp hs
  have hacts := s.actsOn_allocate i (.link k) f .referred
  have hno := (hc.queue i).unstaged (by tauto)
  have hv := State.not_awaitsVerdict_of_handed hh
  have hnone : s.referral k = none := by
    by_contra hsome
    exact hv ((hc.referral.2.2 k).mpr (Option.isSome_iff_ne_none.mpr hsome))
  obtain ⟨x, hx⟩ := Option.isSome_iff_exists.mp hh
  obtain ⟨q, hq, -⟩ := State.handed_some hx
  have hrec : (s.allocate i (.link k) f .referred).record i
      = allocated (s.record i).generation (.link k) f .referred := by simp
  rw [State.enterReferral_eq]
  refine State.managerInOrder_iff.mpr ⟨.of_manager (u := s.allocate i (.link k) f .referred)
    (hc.queue.of_actsOn hacts ⟨?_, ?_⟩) ?_ ?_ rfl rfl ?_ (fun j => ?_), ?_⟩
  · rw [hrec]; rfl
  · rw [State.entriesOf_congr (State.queue_allocate s i _ _ _), hno.2, hrec]; rfl
  · rw [State.QueueBounded, State.queue_allocate]; exact hc.bounded
  · exact hc.await.congr (State.queue_allocate s i _ _ _) (by rw [State.mailbox_allocate])
  · refine hc.referral.entered (r := referralFor i tag f
      (s.record i).generation s.referrals.timeout)
      hnone (fun j => ?_) (by rcases hold with e | e <;> simp [referralFor, e]) ?_ (fun j hj => ?_)
      (fun j hj => ?_) ?_
    · exact (State.referral_setReferral _ k j _).trans (if_congr Iff.rfl rfl
        (congrArg (fun x => x.records[j]) hacts.referrals))
    · exact ⟨congrArg Record.state hrec, congrArg Record.owner hrec,
        congrArg Record.generation hrec⟩
    · exact hacts.records j hj
    · rw [State.link_entered, if_neg (Ne.symm hj)]
    · rw [State.link_entered, if_pos rfl]
      simp [Link.refer, Link.AwaitsVerdict, hq]
  · rw [State.link_entered]
    split
    · exact Link.InOrder.refer (hc.links k)
    · exact hc.links j
  · have hne := allocated_remaining (s.record i).generation (.link k) f .referred
    have hl : (s.allocate i (.link k) f .referred).LeasesWithin 0 :=
      hle.of_actsOn hacts (by rw [hrec]; exact Record.leasePlaced_of_lease hne)
        (by rw [hrec]; exact fun hw => absurd ((Record.waits_iff _).mp hw).2 hne) (by simp)
    exact hl.congr (fun _ => rfl) rfl

/-! ## The wait of the mailbox -/

/-- The mailbox begins to wait for the entry of a record (R182). -/
def State.beginWait (i : RecNo) (s : State) : State :=
  { s.markAwaited i with mailbox := { s.mailbox with awaiting := true } }

/-- The marks of the queue are written, and the entries are otherwise kept: the records still agree.
-/
theorem State.QueueMatches.map (h : s.QueueMatches) (g : QueueEntry → QueueEntry)
    (hg : ∀ e, (g e).circuit = e.circuit ∧ (g e).kind = e.kind ∧ (g e).cutover = e.cutover) :
    (s.setQueue (s.manager.queue.map g)).QueueMatches := by
  intro i
  obtain ⟨h1, h2⟩ := h i
  refine ⟨h1, ?_⟩
  have hent : (s.setQueue (s.manager.queue.map g)).entriesOf i = (s.entriesOf i).map g := by
    simp only [State.entriesOf, State.setQueue, List.filter_map]
    congr 1
    exact List.filter_congr fun e _ => by simp [(hg e).1]
  rw [hent, List.map_map, State.record_setQueue, ← h2]
  exact List.map_congr_left fun e _ => by simp [(hg e).2.1, (hg e).2.2]

theorem State.ManagerInOrder.beginWait (hs : s.ManagerInOrder) (hr : s.Ready)
    (hst : (s.record i).staged ≠ none) : (s.beginWait i).ManagerInOrder := by
  obtain ⟨hc, hle⟩ := State.managerInOrder_iff.mp hs
  have hq := hc.queue.map (fun e => if e.circuit = i then { e with awaited := true } else e)
    fun e => by split <;> exact ⟨rfl, rfl, rfl⟩
  obtain ⟨st, hstg⟩ := Option.ne_none_iff_exists'.mp hst
  have hlen : (s.entriesOf i).length = 1 := by
    have := congrArg List.length (hc.queue i).2
    rw [List.length_map, hstg] at this
    simpa using this
  -- before, no entry is marked; afterwards the entry of the record is
  have h0 : s.manager.queue.countP QueueEntry.awaited = 0 := by
    rw [show s.manager.queue.countP QueueEntry.awaited = _ from hc.await,
      show s.mailbox.awaiting = false from hr]
    rfl
  have hcount : (s.markAwaited i).manager.queue.countP QueueEntry.awaited
      = (s.entriesOf i).length + s.manager.queue.countP QueueEntry.awaited := by
    have hall : ∀ e ∈ s.manager.queue, e.awaited = false := by
      simpa [List.countP_eq_zero] using h0
    rw [h0, Nat.add_zero, State.entriesOf, ← List.countP_eq_length_filter]
    simp only [State.markAwaited, State.setQueue, List.countP_map]
    refine List.countP_congr fun e he => ?_
    by_cases hi : e.circuit = i <;> simp [hi, hall e he]
  refine State.managerInOrder_iff.mpr ⟨⟨?_, hq, ?_, hc.referral, hc.links⟩,
    hle.congr (fun _ => rfl) (by simp [State.beginWait, State.markAwaited, State.setQueue])⟩
  · simp only [State.QueueBounded, State.beginWait, State.markAwaited, State.setQueue,
      List.length_map]
    exact hc.bounded
  · show (s.markAwaited i).manager.queue.countP QueueEntry.awaited = 1
    rw [hcount, hlen, h0]

/-- The mailbox's wait is given up: no entry is awaited any longer (R187, R188). -/
theorem State.ManagerInOrder.endWait (hs : s.ManagerInOrder) {m : Mailbox}
    (hm : m.awaiting = false) : ({ s.clearAwaited with mailbox := m } : State).ManagerInOrder := by
  obtain ⟨hc, hle⟩ := State.managerInOrder_iff.mp hs
  have hq := hc.queue.map (fun e => { e with awaited := false }) fun _ => ⟨rfl, rfl, rfl⟩
  refine State.managerInOrder_iff.mpr ⟨⟨?_, hq, ?_, hc.referral, hc.links⟩,
    hle.congr (fun _ => rfl) (by simp [State.clearAwaited, State.setQueue])⟩
  · simp only [State.QueueBounded, State.clearAwaited, State.setQueue, List.length_map]
    exact hc.bounded
  · simp only [State.AwaitMatches, State.clearAwaited, State.setQueue, hm, List.countP_map]
    rw [List.countP_eq_zero.mpr] <;> simp

end Sys2Proof.Machine
end

-- ==== Proofs: requests, by what they do ====
section
/-! SUPPORT. What a request can do, said once (R27): it is refused and changes nothing, or it passes
its checks and is accepted on one record, of which the checks have found what acceptance rests on.
-/

namespace Sys2Proof.Machine

-- The proofs are elaborated one after another: many at once take the text past its memory limit.
set_option Elab.async false

variable {s t : State} {i : RecNo} {k : LinkNo}

/-! ## What the checks find -/

/-- The positions that a test picks lie within the bearer slots, and none is BARRED or CLAIMED (R31,
R35). -/
def State.MayClaim (s : State) (picks : Plane → Nat → Nat → Bool) : Prop :=
  ∀ (p : Plane) (l : Fin 8) (q : Fin 40), picks p l q = true →
    q.val < 38 ∧ s.entry p l q ≠ .barred ∧ (s.entry p l q).isClaimed = false

/-- Where slots 38 and 39 alone are FIXED, such positions are OPEN (R17). -/
theorem State.MayClaim.allOpen {picks : Plane → Nat → Nat → Bool} (h : s.MayClaim picks)
    (hf : s.ControlSlotsFixed) : s.AllOpen picks := by
  intro p l q hp
  obtain ⟨hq, hb, hc⟩ := h p l q hp
  have hne : s.entry p l q ≠ .fixed := fun e => by
    have := (State.controlSlotsFixed_iff.mp hf p l q).mp e
    omega
  cases he : s.entry p l q with
  | fixed => exact absurd he hne
  | barred => exact absurd he hb
  | openPos => rfl
  | claimed j ph => rw [he] at hc; cases hc

theorem mem_groupPositions_of_inGroup {g : Group} {w l q : Nat} (p : Plane)
    (h : inGroup g w l q = true) : (p, l, q) ∈ groupPositions p g w := by
  simp only [inGroup, Bool.and_eq_true, beq_iff_eq, decide_eq_true_eq] at h
  obtain ⟨⟨h1, h2⟩, h3⟩ := h
  simp only [groupPositions, List.mem_map, List.mem_range, Prod.mk.injEq, true_and]
  exact ⟨q - g.slot, by omega, h1.symm, by omega⟩

theorem inGroup_slot_lt {g : Group} {w l q : Nat} (hr : g.inRange w = true)
    (h : inGroup g w l q = true) : q < 38 := by
  simp only [inGroup, Bool.and_eq_true, beq_iff_eq, decide_eq_true_eq] at h
  rw [Group.inRange, Bool.and_eq_true] at hr
  have hle : g.slot + w ≤ 38 := of_decide_eq_true hr.2
  omega

theorem mem_sourcePositions_of_inSource {src : Option Source} {w l q : Nat}
    (h : inSource src w l q = true) : (.ingress, l, q) ∈ sourcePositions src w := by
  rcases src with _ | ⟨a, b⟩ | v
  · cases h
  · exact mem_groupPositions_of_inGroup .ingress h
  · cases h

theorem inSource_slot_lt {src : Option Source} {w l q : Nat} (hr : sourceInRange src w = true)
    (h : inSource src w l q = true) : q < 38 := by
  rcases src with _ | ⟨a, b⟩ | v
  · cases h
  · exact inGroup_slot_lt (g := ⟨a, b⟩) hr h
  · cases h

theorem State.mayClaim_of_check {picks : Plane → Nat → Nat → Bool} {ps : List (Plane × Nat × Nat)}
    (h : s.positionsCheck ps = none) (hin : ∀ p l q, picks p l q = true → (p, l, q) ∈ ps)
    (hlt : ∀ p l q, picks p l q = true → q < 38) : s.MayClaim picks := by
  intro p l q hp
  simp only [State.positionsCheck, firstFailure_eq_none, List.mem_cons, List.not_mem_nil, or_false,
    forall_eq_or_imp, forall_eq, failIf_eq_none, List.any_eq_false, decide_eq_true_eq] at h
  refine ⟨hlt p l q hp, h.1 _ (hin p l q hp), ?_⟩
  simpa using h.2 _ (hin p l q hp)

/-- The record that allocation takes is in FREE or in RETIRED (R9). -/
theorem State.state_of_available (h : s.available = some i) :
    (s.record i).state = .free ∨ (s.record i).state = .retired := by
  unfold State.available at h
  split at h
  · next j hj =>
    cases h
    exact .inl (by simpa using State.firstRecord_some hj)
  · exact .inr (by simpa using State.firstRecord_some h)

/-- What an OPEN needs of its fields and of the position map (R31, R32, R35). -/
structure State.MayOpen (s : State) (i : RecNo) (f : OpenFields) : Prop where
  old : (s.record i).state = .free ∨ (s.record i).state = .retired
  apart : anyOverlap f.width f.dests = false
  claims : s.MayClaim (inCircuit f.source f.dests f.width)

theorem State.mayOpen_of_check {who : Requester} {b : Bool} {f : OpenFields}
    (hc : s.openCheck who b f = none) (ha : s.available = some i) :
    s.MayOpen i f ∧ (b = false → s.HasRoom) := by
  simp only [State.openCheck, firstFailure_eq_none, List.mem_cons, List.not_mem_nil, or_false,
    forall_eq_or_imp, forall_eq, failIf_eq_none, Bool.not_eq_false', Bool.and_eq_true,
    List.all_eq_true] at hc
  obtain ⟨-, ⟨hsrc, hds⟩, hov, -, -, hpos, -, hroom⟩ := hc
  refine ⟨⟨State.state_of_available ha, hov, ?_⟩, fun hb => ?_⟩
  · refine State.mayClaim_of_check hpos (fun p l q hp => ?_) fun p l q hp => ?_
    · rw [OpenFields.positions, List.mem_append, List.mem_flatMap]
      cases p with
      | ingress => exact .inl (mem_sourcePositions_of_inSource hp)
      | egress =>
        obtain ⟨g, hg, hgp⟩ := List.any_eq_true.mp hp
        exact .inr ⟨g, hg, mem_groupPositions_of_inGroup .egress hgp⟩
    · cases p with
      | ingress => exact inSource_slot_lt hsrc hp
      | egress =>
        obtain ⟨g, hg, hgp⟩ := List.any_eq_true.mp hp
        exact inGroup_slot_lt (hds g hg) hgp
  · rw [hb, if_neg (by simp), State.roomCheck, failIf_eq_none, Bool.not_eq_false'] at hroom
    exact State.hasRoom_of_queueHasRoom hroom

/-- The requester may act on a record: a line unit on its own alone (R29). -/
abbrev State.Allowed (s : State) (who : Requester) (i : RecNo) : Prop :=
  ∀ k, who = .line k → (s.record i).owner = some (.link k)

/-- What an ADD needs of the record and of the position map (R30, R32, R35). -/
structure State.MayAdd (s : State) (i : RecNo) (g : Group) : Prop where
  state : (s.record i).state = .active
  apart : ∀ h ∈ (s.record i).dests, g.overlaps h (s.record i).width = false
  claims : s.MayClaim (egressGroup g (s.record i).width)

/-- What a MOVE needs of the record and of the position map (R30, R35, R43). -/
structure State.MayMove (s : State) (i : RecNo) (src : Source) : Prop where
  state : (s.record i).state = .active
  claims : s.MayClaim (sourceOutside (some src) (s.record i).source (s.record i).width)

/-! ## A request on a circuit -/

theorem State.lookup_some {x g : Byte} (h : s.lookup x g = some i) :
    (s.record i).state ≠ .free ∧ (s.record i).state ≠ .retired := by
  unfold State.lookup at h
  split at h
  · next j _ =>
    split at h
    · next hk =>
      cases h
      simp only [Record.known, Bool.and_eq_true, bne_iff_ne, ne_eq] at hk
      exact ⟨hk.1.2, hk.2⟩
    · cases h
  · cases h

/-- The two ends of a request on a circuit (R27). -/
theorem State.decideOn_cases (x g : Byte) (format : Option OutcomeCode)
    (checks : Record → List (Option OutcomeCode)) (accept : RecNo → Option RecNo × State) :
    ((s.decideOn x g format checks accept).after = s
        ∧ (s.decideOn x g format checks accept).staged = none)
      ∨ ∃ i, s.lookup x g = some i ∧ format = none ∧ (∀ c ∈ checks (s.record i), c = none)
        ∧ s.decideOn x g format checks accept =
          ⟨(accept i).2.report i, (accept i).1, (accept i).2⟩ := by
  by_cases h : ∃ i, s.lookup x g = some i ∧ firstFailure (format :: checks (s.record i)) = none
  · obtain ⟨i, hi, hf⟩ := h
    rw [firstFailure_eq_none] at hf
    have h1 : format = none := hf _ (by simp)
    have h2 : ∀ c ∈ checks (s.record i), c = none := fun c hc => hf _ (by simp [hc])
    exact .inr ⟨i, hi, h1, h2, s.decideOn_accept x g format checks accept i hi h1 h2⟩
  · exact .inl (s.decideOn_refuse x g format checks accept fun i hi hf => h ⟨i, hi, hf⟩)

theorem Naming.ownerCheck_none {q : Naming} {who : Requester}
    (h : q.ownerCheck who (s.record i) = none) : s.Allowed who i := by
  rintro k rfl
  simpa [Naming.ownerCheck] using h

theorem State.circuitCheck_none {who : Requester} {q : Naming} {x g : Byte}
    (hn : s.lookup x g = some i) (h : s.circuitCheck who q x g = none) :
    s.Allowed who i ∧ q.stateCheck (s.record i) = none := by
  simp only [State.circuitCheck, hn, firstFailure_eq_none, List.mem_cons,
    List.not_mem_nil, or_false,
    forall_eq_or_imp, forall_eq] at h
  exact ⟨Naming.ownerCheck_none h.1, h.2⟩

/-- ADD, DROP and MOVE pass the state check in ACTIVE alone (R30). -/
theorem Naming.active_of_stateCheck {q : Naming} (hq : q = .add ∨ q = .drop ∨ q = .move)
    {r : Record}
    (h : q.stateCheck r = none) (hf : r.state ≠ .free) (hr : r.state ≠ .retired) :
    r.state = .active := by
  cases hs : r.state <;> rcases hq with rfl | rfl | rfl <;> simp_all [Naming.stateCheck]

theorem Naming.release_stateCheck {r : Record} (h : Naming.release.stateCheck r = none)
    (hf : r.state ≠ .free) (hr : r.state ≠ .retired) : r.state = .opening ∨ r.state = .active := by
  cases hs : r.state <;> simp_all [Naming.stateCheck]

/-- CANCEL and ADOPT pass the state check but for REFERRED and for the end of a lease (R30). -/
theorem Naming.ending_stateCheck {q : Naming} (hq : q = .cancel ∨ q = .adopt) {r : Record}
    (h : q.stateCheck r = none) :
    r.state ≠ .referred ∧ (r.state = .closing → r.staged.map Staged.cause ≠ some .lease) := by
  refine ⟨fun hs => ?_, fun hs hl => ?_⟩
  · rcases hq with rfl | rfl <;> simp [Naming.stateCheck, hs] at h
  · cases hst : r.staged with
    | none => simp [hst] at hl
    | some st =>
      have hc : st.cause = .lease := by simpa [hst] using hl
      rcases hq with rfl | rfl <;> simp [Naming.stateCheck, hs, hst, hc] at h

theorem State.hasRoom_of_roomCheck (h : s.roomCheck = none) : s.HasRoom := by
  rw [State.roomCheck, failIf_eq_none, Bool.not_eq_false'] at h
  exact State.hasRoom_of_queueHasRoom h

/-! ## The requests -/

theorem State.takeOpen_cases (s : State) (who : Requester) (f : OpenFields) :
    ((s.takeOpen who f).after = s ∧ (s.takeOpen who f).staged = none)
      ∨ ∃ i, s.MayOpen i f ∧ s.HasRoom
        ∧ s.takeOpen who f = ⟨(s.acceptOpen i who f).report i, some i, s.acceptOpen i who f⟩ := by
  unfold State.takeOpen
  split
  · next i hc ha =>
    obtain ⟨hm, hr⟩ := State.mayOpen_of_check hc ha
    exact .inr ⟨i, hm, hr rfl, rfl⟩
  · exact .inl ⟨rfl, rfl⟩

theorem State.takeAdd_cases (s : State) (who : Requester) (x gen : Byte) (g : Group)
    (cu : Option Cutover) :
    ((s.takeAdd who x gen g cu).after = s ∧ (s.takeAdd who x gen g cu).staged = none)
      ∨ ∃ i c, s.Allowed who i ∧ s.MayAdd i g ∧ s.HasRoom
        ∧ s.takeAdd who x gen g cu =
          ⟨(s.acceptAdd i who g c).report i, some i, s.acceptAdd i who g c⟩ := by
  unfold State.takeAdd
  rcases s.decideOn_cases x gen _ _ _ with h | ⟨i, hi, -, hc, e⟩
  · exact .inl h
  · simp only [List.mem_cons, List.not_mem_nil, or_false, forall_eq_or_imp, forall_eq,
      failIf_eq_none, Bool.not_eq_false', List.any_eq_false, Bool.not_eq_true] at hc
    obtain ⟨hcirc, hrange, hov, -, -, hpos, hroom⟩ := hc
    obtain ⟨hal, hst⟩ := State.circuitCheck_none hi hcirc
    obtain ⟨hf, hr⟩ := State.lookup_some hi
    refine .inr ⟨i, _, hal, ⟨Naming.active_of_stateCheck (.inl rfl) hst hf hr, hov, ?_⟩,
      State.hasRoom_of_roomCheck hroom, e⟩
    refine State.mayClaim_of_check hpos (fun p l q hp => ?_) fun p l q hp => ?_
    · cases p with
      | ingress => cases hp
      | egress => exact mem_groupPositions_of_inGroup .egress hp
    · cases p with
      | ingress => cases hp
      | egress => exact inGroup_slot_lt hrange hp

theorem State.takeDrop_cases (s : State) (who : Requester) (x gen : Byte) (g : Group)
    (cu : Option Cutover) :
    ((s.takeDrop who x gen g cu).after = s ∧ (s.takeDrop who x gen g cu).staged = none)
      ∨ ∃ i c, s.Allowed who i ∧ (s.record i).state = .active ∧ g ∈ (s.record i).dests ∧ s.HasRoom
        ∧ s.takeDrop who x gen g cu =
          ⟨(s.acceptDrop i who g c).report i, some i, s.acceptDrop i who g c⟩ := by
  unfold State.takeDrop
  rcases s.decideOn_cases x gen _ _ _ with h | ⟨i, hi, -, hc, e⟩
  · exact .inl h
  · simp only [List.mem_cons, List.not_mem_nil, or_false, forall_eq_or_imp, forall_eq,
      failIf_eq_none, Bool.not_eq_false', Bool.and_eq_true, List.contains_iff_mem] at hc
    obtain ⟨hcirc, ⟨-, hmem⟩, -, -, hroom⟩ := hc
    obtain ⟨hal, hst⟩ := State.circuitCheck_none hi hcirc
    obtain ⟨hf, hr⟩ := State.lookup_some hi
    exact .inr ⟨i, _, hal, Naming.active_of_stateCheck (.inr (.inl rfl)) hst hf hr, hmem,
      State.hasRoom_of_roomCheck hroom, e⟩

theorem State.takeMove_cases (s : State) (x gen : Byte) (src : Option Source)
    (cu : Option Cutover) :
    ((s.takeMove x gen src cu).after = s ∧ (s.takeMove x gen src cu).staged = none)
      ∨ ∃ i src' c, s.MayMove i src' ∧ s.HasRoom
        ∧ s.takeMove x gen src cu =
          ⟨(s.acceptMove i src' c).report i, some i, s.acceptMove i src' c⟩ := by
  unfold State.takeMove
  rcases s.decideOn_cases x gen _ _ _ with h | ⟨i, hi, hformat, hc, e⟩
  · exact .inl h
  · simp only [List.mem_cons, List.not_mem_nil, or_false, forall_eq_or_imp, forall_eq,
      failIf_eq_none, Bool.not_eq_false'] at hc
    obtain ⟨hcirc, hrange, -, hpos, hroom⟩ := hc
    obtain ⟨-, hst⟩ := State.circuitCheck_none hi hcirc
    obtain ⟨hf, hr⟩ := State.lookup_some hi
    have hsrc : ∃ v, src = some v := by
      rw [failIf_eq_none, Bool.or_eq_false_iff] at hformat
      exact Option.isSome_iff_exists.mp (by simpa using hformat.2)
    obtain ⟨v, rfl⟩ := hsrc
    refine .inr ⟨i, v, _, ⟨Naming.active_of_stateCheck (.inr (.inr rfl)) hst hf hr, ?_⟩,
      State.hasRoom_of_roomCheck hroom, e⟩
    refine State.mayClaim_of_check hpos (fun p l q hp => ?_) fun p l q hp => ?_
    · cases p with
      | ingress =>
        simp only [sourceOutside, Bool.and_eq_true] at hp
        exact List.mem_filter.mpr ⟨mem_sourcePositions_of_inSource hp.1, hp.2⟩
      | egress => cases hp
    · cases p with
      | ingress =>
        simp only [sourceOutside, Bool.and_eq_true] at hp
        exact inSource_slot_lt hrange hp.1
      | egress => cases hp

/-- An accepted RELEASE ends an OPENING record, or stages a DEACTIVATE on an ACTIVE one (R44, R45).
-/
theorem State.takeRelease_cases (s : State) (who : Requester) (x gen : Byte) (cu : Option Cutover) :
    ((s.takeRelease who x gen cu).after = s ∧ (s.takeRelease who x gen cu).staged = none)
      ∨ ∃ i c, s.Allowed who i ∧ (s.takeRelease who x gen cu).after = (s.acceptRelease i who c).2
        ∧ (s.takeRelease who x gen cu).staged = (s.acceptRelease i who c).1
        ∧ ((s.record i).state = .opening ∨ ((s.record i).state = .active ∧ s.HasRoom)) := by
  unfold State.takeRelease
  rcases s.decideOn_cases x gen _ _ _ with h | ⟨i, hi, -, hc, e⟩
  · exact .inl h
  · simp only [List.mem_cons, List.not_mem_nil, or_false, forall_eq_or_imp, forall_eq] at hc
    obtain ⟨hcirc, -, hroom⟩ := hc
    obtain ⟨hal, hst⟩ := State.circuitCheck_none hi hcirc
    obtain ⟨hf, hr⟩ := State.lookup_some hi
    refine .inr ⟨i, _, hal, congrArg Taken.after e, congrArg Taken.staged e, ?_⟩
    rcases Naming.release_stateCheck hst hf hr with ho | ha
    · exact .inl ho
    · rw [if_pos ha] at hroom
      exact .inr ⟨ha, State.hasRoom_of_roomCheck hroom⟩

theorem State.takeRenew_cases (s : State) (who : Requester) (x gen v : Byte) :
    ((s.takeRenew who x gen v).after = s ∧ (s.takeRenew who x gen v).staged = none)
      ∨ ∃ i, s.Allowed who i ∧ s.takeRenew who x gen v =
        ⟨(s.acceptRenew i v).report i, none, s.acceptRenew i v⟩ := by
  unfold State.takeRenew
  rcases s.decideOn_cases x gen _ _ _ with h | ⟨i, hi, -, hc, e⟩
  · exact .inl h
  · exact .inr ⟨i, (State.circuitCheck_none hi (hc _ (List.mem_singleton.mpr rfl))).1, e⟩

/-- An accepted CANCEL is of a record that is neither REFERRED nor closing by lease (R46). -/
theorem State.takeCancel_cases (s : State) (x gen : Byte) :
    ((s.takeCancel x gen).after = s ∧ (s.takeCancel x gen).staged = none)
      ∨ ∃ i, ((s.record i).state = .closing → (s.record i).staged.map Staged.cause ≠ some .lease)
        ∧ s.takeCancel x gen = ⟨(s.acceptCancel i).report i, none, s.acceptCancel i⟩ := by
  unfold State.takeCancel
  rcases s.decideOn_cases x gen _ _ _ with h | ⟨i, hi, -, hc, e⟩
  · exact .inl h
  · have hst := (State.circuitCheck_none hi (hc _ (List.mem_singleton.mpr rfl))).2
    exact .inr ⟨i, (Naming.ending_stateCheck (.inl rfl) hst).2, e⟩

theorem State.takeAdopt_cases (s : State) (x gen : Byte) :
    ((s.takeAdopt x gen).after = s ∧ (s.takeAdopt x gen).staged = none)
      ∨ ∃ i, (s.record i).state ≠ .referred
        ∧ s.takeAdopt x gen = ⟨(s.acceptAdopt i).report i, none, s.acceptAdopt i⟩ := by
  unfold State.takeAdopt
  rcases s.decideOn_cases x gen _ _ _ with h | ⟨i, hi, -, hc, e⟩
  · exact .inl h
  · have hst := (State.circuitCheck_none hi (hc _ (List.mem_singleton.mpr rfl))).2
    exact .inr ⟨i, (Naming.ending_stateCheck (.inr rfl) hst).1, e⟩

/-- A STATUS changes nothing (R50). -/
theorem State.takeStatus_after (s : State) (k : LinkNo) (x gen : Byte) :
    (s.takeStatus k x gen).after = s ∧ (s.takeStatus k x gen).staged = none := by
  unfold State.takeStatus
  rcases s.decideOn_cases x gen _ _ _ with h | ⟨i, -, -, -, e⟩
  · exact h
  · exact ⟨congrArg Taken.after e, congrArg Taken.staged e⟩

end Sys2Proof.Machine
end

-- ==== Proofs: what the Circuit Manager's work keeps ====
section
/-! SUPPORT. The work of the Circuit Manager, of the mailbox and of the links is made of a few
operations. A property that each of them keeps (`KeptByWork`) is kept by every command, by every
request of a link, by every arrival, and by the work that a frame start hands on. -/

namespace Sys2Proof.Machine

-- The proofs are elaborated one after another: many at once take the text past its memory limit.
set_option Elab.async false

/-! ## Changes beside the circuits -/

/-- A change beside the circuits: of the mailbox but for its wait, of the flags, the Switch Path and
the Host Port, of the counts of the Timing Unit that run, of a setting within its range, of a link
in its order, of work handed on that has been taken. -/
structure State.SameWork (s t : State) : Prop where
  table : t.manager.table = s.manager.table
  map : t.manager.map = s.manager.map
  program : t.manager.program = s.manager.program
  queue : t.manager.queue = s.manager.queue
  attentionCount : t.manager.attentionCount = s.manager.attentionCount
  application : s.manager.applicationDue = false → t.manager.applicationDue = false
  tick : s.manager.tickDue = false → t.manager.tickDue = false
  timeouts : s.manager.timeouts = [] → t.manager.timeouts = []
  links : ∀ k, (s.link k).Keeps (t.link k)
  referral : ∀ k, t.referral k = s.referral k
  awaiting : t.mailbox.awaiting = s.mailbox.awaiting
  state : t.timing.state = s.timing.state
  role : t.timing.role = s.timing.role
  consistency : t.timing.consistency = s.timing.consistency
  holdover : t.timing.holdoverCount = s.timing.holdoverCount
  ranges : s.SettingsInRange → t.SettingsInRange

theorem State.SameWork.refl (s : State) : s.SameWork s where
  table := rfl
  map := rfl
  program := rfl
  queue := rfl
  attentionCount := rfl
  application := id
  tick := id
  timeouts := id
  links _ := .refl _
  referral _ := rfl
  awaiting := rfl
  state := rfl
  role := rfl
  consistency := rfl
  holdover := rfl
  ranges := id

/-- What becomes of a link whose session ends (R133), with the end of its referral (R175). -/
def State.endSession (k : LinkNo) (l : Link) (s : State) : State := (s.endReferral k).setLink k l

/-- A property that every operation of the Circuit Manager, of the mailbox and of the links keeps,
where the checks before it have found what it rests on. -/
structure KeptByWork (P : State → Prop) : Prop where
  sides {s t : State} : P s → s.SameWork t → P t
  acceptOpen {s : State} {i : RecNo} (who : Requester) {f : OpenFields} :
    P s → s.MayOpen i f → s.HasRoom → P (s.acceptOpen i who f)
  acceptAdd {s : State} {i : RecNo} (who : Requester) {g : Group} (c : Cutover) :
    P s → s.MayAdd i g → s.HasRoom → P (s.acceptAdd i who g c)
  acceptDrop {s : State} {i : RecNo} (who : Requester) {g : Group} (c : Cutover) :
    P s → (s.record i).state = .active → g ∈ (s.record i).dests → s.HasRoom →
      P (s.acceptDrop i who g c)
  acceptMove {s : State} {i : RecNo} {src : Source} (c : Cutover) :
    P s → s.MayMove i src → s.HasRoom → P (s.acceptMove i src c)
  releaseActive {s : State} {i : RecNo} (who : Requester) (c : Cutover) :
    P s → (s.record i).state = .active → s.HasRoom → P (s.releaseActive i who c)
  hostEndsOpening {s : State} {i : RecNo} :
    P s → s.Ready → (s.record i).state = .opening → P (s.hostEndsOpening i)
  lineEndsOpening {s : State} {i : RecNo} :
    P s → (s.record i).state = .opening → P (s.lineEndsOpening i)
  cancelChange {s : State} {i : RecNo} :
    P s → s.Ready → ((s.record i).state = .altering ∨ ((s.record i).state = .closing
      ∧ (s.record i).staged.map Staged.cause ≠ some .lease)) → P (s.cancelChange i)
  acceptRenew {s : State} (i : RecNo) (v : Byte) : P s → P (s.acceptRenew i v)
  acceptAdopt {s : State} {i : RecNo} :
    P s → (s.record i).state ≠ .referred → P (s.acceptAdopt i)
  clearAttention {s : State} (i : RecNo) : P s → P (s.clearAttention i)
  freeRetired {s : State} {i : RecNo} : P s → (s.record i).state = .retired → P (s.freeRecord i)
  setEntry {s : State} {p : Plane} {l q : Nat} {new : PosEntry} :
    P s → l < 8 → q < 38 → (s.entry p l q).isClaimed = false → new = .barred ∨ new = .openPos →
      P (s.setEntry p l q new)
  beginWait {s : State} {i : RecNo} :
    P s → s.Ready → (s.record i).staged ≠ none → P (s.beginWait i)
  endWait {s : State} {m : Mailbox} :
    P s → m.awaiting = false → P { s.clearAwaited with mailbox := m }
  applyDue {s : State} : P s → P s.applyDue
  leaseTick {s : State} : P s → P s.leaseTick
  enterReferral {s : State} {k : LinkNo} {i : RecNo} (tag : Byte) {f : OpenFields} :
    P s → s.MayOpen i f → (s.handed k).isSome = true → P (s.enterReferral k i tag f)
  approveReferral {s : State} {k : LinkNo} {r : Referral} :
    P s → s.referral k = some r → s.HasRoom → P (s.approveReferral k r)
  denyReferral {s : State} {k : LinkNo} {r : Referral} :
    P s → s.referral k = some r → P (s.denyReferral k r)
  endSession {s : State} {k : LinkNo} {l : Link} :
    P s → (s.link k).Closes l → P (s.endSession k l)
  present {s : State} (k : LinkNo) :
    P s → s.timing.state ≠ .acquiring → P (s.setLink k (s.link k).present)

variable {P : State → Prop} {s : State} {i : RecNo} {k : LinkNo}

theorem KeptByWork.setLink (h : KeptByWork P) (hs : P s) {l : Link} (hl : (s.link k).Keeps l) :
    P (s.setLink k l) :=
  h.sides hs { State.SameWork.refl s with
    links := fun j => by
      rw [State.link_setLink]
      split
      · next e => exact e ▸ hl
      · exact .refl _ }

theorem KeptByWork.raise (h : KeptByWork P) (hs : P s) (c : Nat) : P (s.raise c) :=
  h.sides hs { State.SameWork.refl s with }

/-- Links may be read before or after an answer: a RESULT is placed for a request that no referral
holds (R155). -/
theorem KeptByWork.answerLine (h : KeptByWork P) (hs : P s) (hv : ¬(s.link k).AwaitsVerdict)
    (r : Reply) : P (s.answerLine k r) := by
  unfold State.answerLine
  split
  · exact h.setLink hs (Link.keeps_placeResult hv (Reply.result_ne_nil _ _))
  · exact hs

/-! ## What acceptance leaves alone -/

theorem State.links_attend (s : State) (who : Requester) (i : RecNo) :
    (s.attend who i).links = s.links := by
  cases who with
  | host => rfl
  | line k =>
    show (s.setAttention i).links = s.links
    rw [State.setAttention_eq]

theorem State.links_serveWaiting (s : State) (n : Nat) : (s.serveWaiting n).links = s.links :=
  State.serveWaiting_keeps (P := fun u => u.links = s.links) (fun _ _ hu _ _ => hu) n s rfl

theorem State.mailbox_serveWaiting (s : State) (n : Nat) : (s.serveWaiting n).mailbox = s.mailbox :=
  State.serveWaiting_keeps (P := fun u => u.mailbox = s.mailbox) (fun _ _ hu _ _ => hu) n s rfl

theorem State.links_withdrawn (s : State) (i : RecNo) (b : Bool) (st : CircuitState) :
    (s.withdrawn i b st).links = s.links := by
  unfold State.withdrawn
  split <;> rfl

theorem State.links_acceptOpen (s : State) (i : RecNo) (who : Requester) (f : OpenFields) :
    (s.acceptOpen i who f).links = s.links :=
  (State.links_attend _ who i).trans (s.links_allocate i who.owner f .opening)

theorem State.links_acceptAdd (s : State) (i : RecNo) (who : Requester) (g : Group) (c : Cutover) :
    (s.acceptAdd i who g c).links = s.links := State.links_attend _ who i

theorem State.links_acceptDrop (s : State) (i : RecNo) (who : Requester) (g : Group) (c : Cutover) :
    (s.acceptDrop i who g c).links = s.links := State.links_attend _ who i

theorem State.links_releaseActive (s : State) (i : RecNo) (who : Requester) (c : Cutover) :
    (s.releaseActive i who c).links = s.links := State.links_attend _ who i

theorem State.links_lineEndsOpening (s : State) (i : RecNo) :
    (s.lineEndsOpening i).links = s.links := by
  rw [State.lineEndsOpening_eq, State.links_serveWaiting, State.retireOpening,
    State.links_withdrawn, State.retireRecord, State.setAttention_eq]
  rfl

theorem State.mailbox_hostEndsOpening (s : State) (i : RecNo) :
    (s.hostEndsOpening i).mailbox = s.mailbox := by
  rw [State.hostEndsOpening_eq, State.mailbox_serveWaiting]
  simp [State.freeOpening]

theorem State.mailbox_cancelChange (s : State) (i : RecNo) :
    (s.cancelChange i).mailbox = s.mailbox := by
  rw [State.cancelChange_eq, State.mailbox_serveWaiting, State.cancelled]
  exact (State.tellCancelled_eq _ i _).2

theorem State.mailbox_acceptAdopt (s : State) (i : RecNo) :
    (s.acceptAdopt i).mailbox = s.mailbox := by simp [State.acceptAdopt]

/-! ## Requests -/

/-- What taking a request leaves in order: a property, the mailbox where the host makes the request,
the links where a line unit does, and the change that it reports as staged. -/
structure Taken.Keeps (P : State → Prop) (who : Requester) (s : State) (x : Taken) : Prop where
  kept : P x.after
  mailbox : who = .host → x.after.mailbox = s.mailbox
  links : who ≠ .host → x.after.links = s.links
  staged : ∀ i ∈ x.staged, (x.after.record i).staged ≠ none

/-- A refused request, and one that only reads. -/
theorem Taken.keeps_of_unchanged {who : Requester} {x : Taken} (hs : P s) (h : x.after = s)
    (hn : x.staged = none) : x.Keeps P who s where
  kept := h ▸ hs
  mailbox _ := by rw [h]
  links _ := by rw [h]
  staged i hi := by rw [hn] at hi; cases hi

/-- An accepted request that stages a change. -/
theorem Taken.keeps_of_stages {who : Requester} {x : Taken} {ch : Change} {cu : Cutover}
    {ca : Cause}
    (hs : P x.after) (h : s.Stages i ch cu ca x.after) (hl : who ≠ .host → x.after.links = s.links)
    (hst : x.staged = some i) : x.Keeps P who s where
  kept := hs
  mailbox _ := h.mailbox
  links := hl
  staged j hj := by
    rw [hst] at hj
    cases hj
    rw [h.staged]
    simp

theorem KeptByWork.takeOpen (h : KeptByWork P) (hs : P s) (who : Requester) (f : OpenFields) :
    (s.takeOpen who f).Keeps P who s := by
  rcases s.takeOpen_cases who f with ⟨ha, hn⟩ | ⟨i, hm, hr, e⟩
  · exact Taken.keeps_of_unchanged hs ha hn
  · rw [e]
    exact Taken.keeps_of_stages (h.acceptOpen who hs hm hr) (s.stages_acceptOpen i who f)
      (fun _ => s.links_acceptOpen i who f) rfl

theorem KeptByWork.takeAdd (h : KeptByWork P) (hs : P s) (who : Requester) (x gen : Byte)
    (g : Group)
    (cu : Option Cutover) : (s.takeAdd who x gen g cu).Keeps P who s := by
  rcases s.takeAdd_cases who x gen g cu with ⟨ha, hn⟩ | ⟨i, c, -, hm, hr, e⟩
  · exact Taken.keeps_of_unchanged hs ha hn
  · rw [e]
    exact Taken.keeps_of_stages (h.acceptAdd who c hs hm hr) (s.stages_acceptAdd i who g c)
      (fun _ => s.links_acceptAdd i who g c) rfl

theorem KeptByWork.takeDrop (h : KeptByWork P) (hs : P s) (who : Requester) (x gen : Byte)
    (g : Group) (cu : Option Cutover) : (s.takeDrop who x gen g cu).Keeps P who s := by
  rcases s.takeDrop_cases who x gen g cu with ⟨ha, hn⟩ | ⟨i, c, -, hst, hg, hr, e⟩
  · exact Taken.keeps_of_unchanged hs ha hn
  · rw [e]
    exact Taken.keeps_of_stages (h.acceptDrop who c hs hst hg hr) (s.stages_acceptDrop i who g c)
      (fun _ => s.links_acceptDrop i who g c) rfl

theorem KeptByWork.takeMove (h : KeptByWork P) (hs : P s) (x gen : Byte) (src : Option Source)
    (cu : Option Cutover) : (s.takeMove x gen src cu).Keeps P .host s := by
  rcases s.takeMove_cases x gen src cu with ⟨ha, hn⟩ | ⟨i, v, c, hm, hr, e⟩
  · exact Taken.keeps_of_unchanged hs ha hn
  · rw [e]
    exact Taken.keeps_of_stages (h.acceptMove c hs hm hr) (s.stages_acceptMove i v c)
      (fun hne => absurd rfl hne) rfl

theorem State.acceptRelease_host {c : Cutover} (ho : (s.record i).state = .opening) :
    s.acceptRelease i .host c = (none, s.hostEndsOpening i) := if_pos ho

theorem State.acceptRelease_line {c : Cutover} (ho : (s.record i).state = .opening) :
    s.acceptRelease i (.line k) c = (none, s.lineEndsOpening i) := if_pos ho

theorem State.acceptRelease_active {who : Requester} {c : Cutover}
    (ha : (s.record i).state = .active) :
    s.acceptRelease i who c = (some i, s.releaseActive i who c) := if_neg (by simp [ha])

/-- A RELEASE of an OPENING record ends it; one of an ACTIVE record stages a DEACTIVATE (R44, R45).
-/
theorem KeptByWork.takeRelease (h : KeptByWork P) (hs : P s) {who : Requester}
    (hr : who = .host → s.Ready) (x gen : Byte) (cu : Option Cutover) :
    (s.takeRelease who x gen cu).Keeps P who s := by
  rcases s.takeRelease_cases who x gen cu with ⟨ha, hn⟩ | ⟨i, c, -, ha, hn, hst⟩
  · exact Taken.keeps_of_unchanged hs ha hn
  · rcases hst with ho | ⟨hact, hroom⟩
    · cases who with
      | host =>
        rw [State.acceptRelease_host ho] at ha hn
        exact ⟨ha ▸ h.hostEndsOpening hs (hr rfl) ho, fun _ => ha ▸ s.mailbox_hostEndsOpening i,
          fun hne => absurd rfl hne, fun j hj => by rw [hn] at hj; cases hj⟩
      | line k =>
        rw [State.acceptRelease_line ho] at ha hn
        exact ⟨ha ▸ h.lineEndsOpening hs ho, fun e => (by cases e),
          fun _ => ha ▸ s.links_lineEndsOpening i, fun j hj => by rw [hn] at hj; cases hj⟩
    · rw [State.acceptRelease_active hact] at ha hn
      exact Taken.keeps_of_stages (by rw [ha]; exact h.releaseActive who c hs hact hroom)
        (by rw [ha]; exact s.stages_releaseActive i who c)
        (fun _ => by rw [ha]; exact s.links_releaseActive i who c) hn

theorem KeptByWork.takeRenew (h : KeptByWork P) (hs : P s) (who : Requester) (x gen v : Byte) :
    (s.takeRenew who x gen v).Keeps P who s := by
  rcases s.takeRenew_cases who x gen v with ⟨ha, hn⟩ | ⟨i, -, e⟩
  · exact Taken.keeps_of_unchanged hs ha hn
  · rw [e]
    exact ⟨h.acceptRenew i v hs, fun _ => rfl, fun _ => rfl, fun j hj => by cases hj⟩

/-- A CANCEL ends an OPENING record, or takes back an alteration or a release (R46). -/
theorem KeptByWork.takeCancel (h : KeptByWork P) (hs : P s) (hr : s.Ready) (x gen : Byte) :
    (s.takeCancel x gen).Keeps P .host s := by
  rcases s.takeCancel_cases x gen with ⟨ha, hn⟩ | ⟨i, hcl, e⟩
  · exact Taken.keeps_of_unchanged hs ha hn
  · rw [e]
    have hcancel : P (s.acceptCancel i) ∧ (s.acceptCancel i).mailbox = s.mailbox := by
      unfold State.acceptCancel
      split
      · next hst => exact ⟨h.hostEndsOpening hs hr hst, s.mailbox_hostEndsOpening i⟩
      · next hst => exact ⟨h.cancelChange hs hr (.inl hst), s.mailbox_cancelChange i⟩
      · next hst => exact ⟨h.cancelChange hs hr (.inr ⟨hst, hcl hst⟩), s.mailbox_cancelChange i⟩
      · exact ⟨hs, rfl⟩
    exact ⟨hcancel.1, fun _ => hcancel.2, fun hne => absurd rfl hne, fun j hj => by cases hj⟩

theorem KeptByWork.takeAdopt (h : KeptByWork P) (hs : P s) (x gen : Byte) :
    (s.takeAdopt x gen).Keeps P .host s := by
  rcases s.takeAdopt_cases x gen with ⟨ha, hn⟩ | ⟨i, hst, e⟩
  · exact Taken.keeps_of_unchanged hs ha hn
  · rw [e]
    exact ⟨h.acceptAdopt hs hst, fun _ => s.mailbox_acceptAdopt i, fun hne => absurd rfl hne,
      fun j hj => by cases hj⟩

/-! ## Commands -/

/-- What the body of a command leaves in order, and the answer that the Host Port acts on (R182). -/
structure Answered (P : State → Prop) (x : Answer × State) : Prop where
  kept : P x.2
  ready : x.2.Ready
  staged : ∀ i ∈ x.1.staged, (x.2.record i).staged ≠ none

theorem Taken.Keeps.answered {x : Taken} (h : x.Keeps P .host s) (hr : s.Ready) :
    Answered P x.answer where
  kept := h.kept
  ready := (congrArg Mailbox.awaiting (h.mailbox rfl)).trans hr
  staged := h.staged

theorem answered_of_unchanged (hs : P s) (hr : s.Ready) (c : OutcomeCode) (v : Vector Byte 24) :
    Answered P (⟨c, v, none⟩, s) := ⟨hs, hr, fun _ hi => by cases hi⟩

/-- A command that stages nothing answers with a state in order. -/
theorem Answered.of_unstaged {x : Answer × State} (hs : P x.2) (hr : x.2.Ready)
    (hn : x.1.staged = none) : Answered P x := ⟨hs, hr, fun i hi => by rw [hn] at hi; cases hi⟩

theorem KeptByWork.hostQuery (h : KeptByWork P) (hs : P s) (hr : s.Ready) :
    Answered P s.hostQuery := by
  unfold State.hostQuery State.takeQuery
  split
  · exact answered_of_unchanged hs hr _ _
  · next i _ =>
    refine .of_unstaged ?_ ?_ rfl <;> dsimp only <;> split
    · split
      · next hst => exact h.freeRetired hs hst
      · exact h.clearAttention i hs
    · exact hs
    · split
      · exact (congrArg Mailbox.awaiting (State.mailbox_freeRecord s i)).trans hr
      · exact (congrArg Mailbox.awaiting (State.mailbox_clearAttention s i)).trans hr
    · exact hr

theorem State.takeLocate_staged (s : State) (p l q : Byte) :
    (s.takeLocate p l q).staged = none := by
  unfold State.takeLocate
  split
  · rfl
  · split <;> rfl

theorem State.takeNext_staged (s : State) (a f o : Byte) : (s.takeNext a f o).staged = none := by
  unfold State.takeNext
  split
  · rfl
  · split <;> rfl

theorem State.takeReadReferral_staged (s : State) (l : Byte) :
    (s.takeReadReferral l).staged = none := by
  unfold State.takeReadReferral
  split <;> rfl

theorem KeptByWork.takeBar (h : KeptByWork P) (hs : P s) (hr : s.Ready) {new : PosEntry}
    (hn : new = .barred ∨ new = .openPos) (p l q : Byte) : Answered P (s.takeBar new p l q) := by
  unfold State.takeBar
  split
  · exact answered_of_unchanged hs hr _ _
  · split
    · next hlq =>
      split
      · exact answered_of_unchanged hs hr _ _
      · next hcl =>
        exact .of_unstaged (h.setEntry hs hlq.1 hlq.2 (by simpa using hcl) hn) hr rfl
    · exact answered_of_unchanged hs hr _ _

theorem State.mailbox_answerLine (s : State) (k : LinkNo) (r : Reply) :
    (s.answerLine k r).mailbox = s.mailbox := by rw [State.answerLine_eq]

theorem KeptByWork.takeDecide (h : KeptByWork P) (hs : P s) (hr : s.Ready) (l v : Byte) :
    Answered P (s.takeDecide l v) := by
  unfold State.takeDecide
  split
  · next k _ _ =>
    split
    · exact answered_of_unchanged hs hr _ _
    · next r hk =>
      dsimp only
      split
      · next hroom =>
        refine ⟨h.approveReferral hs hk (State.hasRoom_of_queueHasRoom hroom), ?_, fun i hi => ?_⟩
        · show (s.approveReferral k r).mailbox.awaiting = false
          rw [State.approveReferral_eq, State.setReferral_mailbox, State.mailbox_answerLine]
          exact hr
        · cases hi
          show ((s.approveReferral k r).record r.circuit).staged ≠ none
          rw [State.approveReferral_eq, State.record_congr (s := s.openReferred r)
            (by rw [State.setReferral_manager, State.manager_answerLine]),
              State.record_openReferred]
          simp
      · exact answered_of_unchanged hs hr _ _
  · next k _ _ =>
    split
    · exact answered_of_unchanged hs hr _ _
    · next r hk =>
      refine .of_unstaged (h.denyReferral hs hk) ?_ rfl
      show (s.denyReferral k r).mailbox.awaiting = false
      rw [State.denyReferral, State.setReferral_mailbox, State.mailbox_answerLine,
        State.mailbox_freeRecord]
      exact hr
  · exact answered_of_unchanged hs hr _ _

theorem KeptByWork.hostSetSuperframe (h : KeptByWork P) (hs : P s) (hr : s.Ready) :
    Answered P s.hostSetSuperframe := by
  unfold State.hostSetSuperframe
  dsimp only
  split
  · exact answered_of_unchanged hs hr _ _
  · exact .of_unstaged (h.sides hs { State.SameWork.refl s with }) hr rfl

/-- The body of a command leaves a property in order, and answers as the Host Port expects. -/
def Answers (P : State → Prop) (body : State → Answer × State) : Prop :=
  ∀ u, P u → u.Ready → Answered P (body u)

/-- Every command leaves the property in order, whatever its code (R184). -/
theorem KeptByWork.commandBody (h : KeptByWork P) (code : BitVec 7) :
    Answers P (commandBody code) := by
  unfold Sys2Proof.Machine.commandBody
  split
  · exact fun _ hs hr => (h.takeOpen hs _ _).answered hr
  · exact fun _ hs hr => (h.takeAdd hs _ _ _ _ _).answered hr
  · exact fun _ hs hr => (h.takeDrop hs _ _ _ _ _).answered hr
  · exact fun _ hs hr => (h.takeMove hs _ _ _ _).answered hr
  · exact fun _ hs hr => (h.takeRelease hs (fun _ => hr) _ _ _).answered hr
  · exact fun _ hs hr => (h.takeRenew hs _ _ _ _).answered hr
  · exact fun _ hs hr => (h.takeCancel hs hr _ _).answered hr
  · exact fun _ hs hr => (h.takeAdopt hs _ _).answered hr
  · exact fun _ hs hr => h.hostQuery hs hr
  · exact fun u hs hr => .of_unstaged hs hr (u.takeLocate_staged _ _ _)
  · exact fun u hs hr => .of_unstaged hs hr (u.takeNext_staged _ _ _)
  · exact fun _ hs hr => h.takeBar hs hr (.inl rfl) _ _ _
  · exact fun _ hs hr => h.takeBar hs hr (.inr rfl) _ _ _
  · exact fun u hs hr => .of_unstaged hs hr (u.takeReadReferral_staged _)
  · exact fun _ hs hr => h.takeDecide hs hr _ _
  · exact fun _ hs hr => h.hostSetSuperframe hs hr
  · exact fun _ hs hr => answered_of_unchanged hs hr _ _

theorem KeptByWork.finishCommand (h : KeptByWork P) (await : Bool) {x : Answer × State}
    (hx : Answered P x) : P (x.2.finishCommand await x.1) := by
  have hcomplete : ∀ c, P ((x.2.setResponse x.1.response).complete c) := fun c =>
    h.sides hx.kept { State.SameWork.refl x.2 with awaiting := hx.ready.symm }
  unfold State.finishCommand
  dsimp only
  split
  · next i hi =>
    split
    · exact h.beginWait (s := x.2.setResponse x.1.response)
        (h.sides hx.kept { State.SameWork.refl x.2 with }) hx.ready (hx.staged i hi)
    · exact hcomplete _
  · exact hcomplete _

/-- A COMMAND write, taken or refused (R181, R182, R186). -/
theorem KeptByWork.takeCommand (h : KeptByWork P) (hs : P s) (code : BitVec 7) (await : Bool)
    {body : State → Answer × State} (hb : Answers P body) :
    P (s.takeCommand code await body) := by
  rcases s.takeCommand_cases code await body with ⟨-, e⟩ | ⟨hr, e⟩ <;> rw [e]
  · exact h.sides hs { State.SameWork.refl s with }
  · exact h.finishCommand await
      (hb _ (h.sides hs { State.SameWork.refl s with }) hr)

theorem KeptByWork.writeCommand (h : KeptByWork P) (hs : P s) (code : BitVec 7) (await : Bool) :
    P (s.writeCommand code await) :=
  h.takeCommand hs code await (h.commandBody code)

theorem KeptByWork.abandonWait (h : KeptByWork P) (hs : P s) : P s.abandonWait := by
  unfold State.abandonWait
  split
  · exact h.sides (h.endWait (m := { s.mailbox with awaiting := false }) hs rfl)
      { State.SameWork.refl _ with }
  · exact hs

/-! ## Sessions -/

theorem State.setLink_setLink (s : State) (k : LinkNo) (a b : Link) :
    (s.setLink k a).setLink k b = s.setLink k b := by
  simp [State.setLink, Vector.set_set]

theorem State.clearSession_eq (s : State) (k : LinkNo) :
    s.clearSession k = s.endSession k (s.link k).clear := by
  simp only [State.clearSession, State.endSession,
    State.link_congr (s.endReferral_links k) k]

/-- A session is cleared, and the link goes on from there (R130, R132, R149). -/
theorem State.setLink_clearSession (s : State) (k : LinkNo) (f : Link → Link) :
    (s.clearSession k).setLink k (f ((s.clearSession k).link k)) = s.endSession k
      (f (s.link k).clear) := by
  rw [State.clearSession_eq, State.endSession, State.setLink_setLink, State.link_setLink,
    if_pos rfl]
  rfl

/-- What a write of ENABLE 0 makes of a link whose session is clear (R130). -/
def Link.switchOff (l : Link) : Link := { l.resetItems with enable := false, state := .disabled }

/-- What a control-plane reset makes of an enabled link whose session is clear (R149, R163). -/
def Link.startAnew (l : Link) : Link := { l.resetItems with noticeLost := false }

theorem Link.closes_switchOff (l : Link) : l.Closes l.clear.switchOff where
  inOrder _ := Link.inOrder_resetItems l.clear false .disabled _ (by simp)
  counts _ := by simp [Link.CountsInRange, Link.switchOff, Link.resetItems, Link.hasSession]
  inProcess := rfl
  arrived := rfl

theorem Link.closes_startAnew {l : Link} (he : l.enable = true) : l.Closes l.clear.startAnew where
  inOrder _ := Link.inOrder_resetItems l.clear l.enable .absent false (by simp [he])
  counts _ := by simp [Link.CountsInRange, Link.startAnew, Link.resetItems, Link.hasSession]
  inProcess := rfl
  arrived := rfl

theorem State.disableLink_eq (h : (s.link k).state ≠ .disabled) :
    s.disableLink k = (s.endSession k (s.link k).clear.switchOff).raise (linkEvent k) := by
  rw [State.disableLink, if_neg h]
  exact congrArg (State.raise (linkEvent k)) (s.setLink_clearSession k Link.switchOff)

theorem State.resetLink_eq (h : (s.link k).enable = true) :
    s.resetLink k = s.endSession k (s.link k).clear.startAnew := by
  rw [State.resetLink, if_pos h]
  exact s.setLink_clearSession k Link.startAnew

theorem KeptByWork.disableLink (h : KeptByWork P) (hs : P s) (k : LinkNo) : P
    (s.disableLink k) := by
  by_cases hst : (s.link k).state = .disabled
  · rw [State.disableLink, if_pos hst]
    exact hs
  · rw [State.disableLink_eq hst]
    exact h.raise (h.endSession hs (Link.closes_switchOff _)) _

theorem KeptByWork.resetLink (h : KeptByWork P) (hs : P s) (k : LinkNo) : P (s.resetLink k) := by
  by_cases hen : (s.link k).enable = true
  · rw [State.resetLink_eq hen]
    exact h.endSession hs (Link.closes_startAnew hen)
  · rw [State.resetLink, if_neg hen]
    exact h.setLink hs ⟨id, id, fun _ => Iff.rfl, rfl⟩

theorem KeptByWork.writeFlags (h : KeptByWork P) (hs : P s) (f : BitVec 13) :
    P { s with events := { s.events with flags := f } } :=
  h.sides hs { State.SameWork.refl s with }

/-- A control-plane reset but for the flags: the mailbox, then every link (R149, R188). -/
def State.linksReset (s : State) : State :=
  (List.finRange 8).foldl State.resetLink { s.clearAwaited with mailbox := Mailbox.reset }

theorem State.controlReset_eq (s : State) : s.controlReset =
    { s.linksReset with events := { s.linksReset.events with flags := 0 } } := by
  rw [State.controlReset, State.linksReset]

theorem KeptByWork.controlReset (h : KeptByWork P) (hs : P s) : P s.controlReset := by
  have hlinks : P s.linksReset :=
    foldl_keeps (P := P) (fun _ k hu => h.resetLink hu k) _ _ (h.endWait hs rfl)
  rw [State.controlReset_eq]
  exact h.writeFlags hlinks 0

/-- A link goes from DISABLED to ABSENT (R130). -/
theorem Link.keeps_enable {l : Link} (hst : l.state = .disabled) :
    l.Keeps { l.enterAbsent with enable := true } := by
  refine ⟨fun h => ?_, fun h => ?_, fun _ => Iff.rfl, rfl⟩
  · obtain ⟨hp, ho, hf, ha⟩ := h.2.1 ((Link.hasSession_false_iff l).mpr (.inl hst))
    exact Link.inOrder_enterAbsent (l := { l with enable := true }) rfl hp ho hf ha
  · obtain ⟨ho, ha, -, -, -, hl, -, hk, hko, hr, hrun, hac, hd⟩ := h
    exact ⟨ho, ha, by simp [Link.enterAbsent, Config.withdrawalFrames], by simp [Link.enterAbsent],
      by simp [Link.enterAbsent], hl, by simp [Link.enterAbsent, Link.hasSession], hk, hko,
        hr, hrun,
      hac, hd⟩

theorem KeptByWork.enableLink (h : KeptByWork P) (hs : P s) (k : LinkNo) : P (s.enableLink k) := by
  unfold State.enableLink
  split
  · next hst => exact h.raise (h.setLink hs (Link.keeps_enable hst)) _
  · exact hs

/-! ## Arrivals -/

theorem KeptByWork.absentArrival (h : KeptByWork P) (hs : P s) (hst : (s.link k).state = .absent)
    (valid : Bool) : P (s.absentArrival k valid) := by
  unfold State.absentArrival
  dsimp only
  split
  · refine h.setLink hs ⟨id, fun hc => ?_, fun _ => Iff.rfl, rfl⟩
    obtain ⟨ho, ha, hw, hr⟩ := hc
    exact ⟨ho, ha, by simp only; omega, hr⟩
  · exact hs
  · have hcount : ∀ n, n ≤ 3 → (s.link k).Keeps { s.link k with presence := n } := fun n hn =>
      ⟨id, fun hc => by
        obtain ⟨ho, ha, hw, -, -, hr⟩ := hc
        exact ⟨ho, ha, hw, by simp only; omega, fun _ => hn, hr⟩, fun _ => Iff.rfl, rfl⟩
    split
    · split
      · exact h.raise (h.setLink hs (Link.keeps_enterUp hst)) _
      · next hp => exact h.setLink hs (hcount _ (by simp only [Config.presenceFrames] at hp; omega))
    · exact h.setLink hs (hcount 0 (by omega))

/-- The loss count of a session that goes on (R132). -/
theorem Link.keeps_loss (l : Link) {n : Nat} (hn : n ≤ 3) : l.Keeps { l with loss := n } := by
  refine ⟨id, fun hc => ?_, fun _ => Iff.rfl, rfl⟩
  obtain ⟨ho, ha, hw, hp, hpa, -, -, hr⟩ := hc
  exact ⟨ho, ha, hw, hp, hpa, by simp only; omega, fun _ => hn, hr⟩

/-- A session ends for want of presence (R126, R132). -/
theorem Link.closes_loss {l : Link} (hs : l.hasSession = true) {n : Nat} (hn : n ≤ l.loss + 1) :
    l.Closes ({ l with loss := n } : Link).clear.enterAbsent where
  inOrder h := by
    refine Link.inOrder_enterAbsent ?_ rfl rfl rfl rfl
    have hen : l.enable = false ↔ l.state = .disabled := h.1
    show l.enable = true
    rw [← Bool.not_eq_false, hen]
    rintro hd
    simp [Link.hasSession, hd] at hs
  counts h := by
    obtain ⟨-, -, -, -, -, -, hls, hk, -, hr, hrun, -, hd⟩ := h
    have hloss := hls hs
    exact ⟨by simp [Link.enterAbsent, Link.clear], by simp [Link.enterAbsent, Link.clear],
      by simp [Link.enterAbsent, Config.withdrawalFrames], by simp [Link.enterAbsent],
      by simp [Link.enterAbsent], Nat.le_trans hn (by omega),
      by simp [Link.enterAbsent, Link.hasSession], hk, by simp [Link.enterAbsent, Link.clear], hr,
      hrun, by simp [Link.enterAbsent, Link.clear], hd⟩
  inProcess := rfl
  arrived := rfl

/-- The end of a referral reads no link. -/
theorem State.endReferral_setLink (s : State) (k j : LinkNo) (l : Link) :
    (s.setLink k l).endReferral j = (s.endReferral j).setLink k l := by
  unfold State.endReferral State.freeRecord State.clearAttention
  rw [show (s.setLink k l).referral j = s.referral j from rfl]
  cases s.referral j with
  | none => rfl
  | some r =>
    dsimp only
    rw [show (((s.setLink k l).releaseClaims r.circuit).record r.circuit)
      = ((s.releaseClaims r.circuit).record r.circuit) from rfl]
    split <;> rfl

theorem State.loseSession_setLink (s : State) (k : LinkNo) (l : Link) :
    (s.setLink k l).loseSession k
      = (s.endSession k l.clear.enterAbsent).raise (linkEvent k) := by
  refine congrArg (State.raise (linkEvent k))
    (((s.setLink k l).setLink_clearSession k Link.enterAbsent).trans ?_)
  rw [State.endSession, State.endReferral_setLink, State.setLink_setLink, State.link_setLink,
    if_pos rfl]
  rfl

/-- The two ends of an arrival in a session: the session is lost, or its steps are done (R132,
R134). -/
theorem KeptByWork.sessionArrival (h : KeptByWork P) (hs : P s)
    (hsess : (s.link k).hasSession = true)
    (valid : Bool) (chan hs' : Byte) : P (s.sessionArrival k valid chan hs') := by
  have hle : (s.link k).nextLoss valid ≤ (s.link k).loss + 1 := by
    cases valid <;> simp [Link.nextLoss]
  unfold State.sessionArrival
  dsimp only
  split
  · rw [State.loseSession_setLink]
    exact h.raise (h.endSession hs (Link.closes_loss hsess hle)) _
  · next hl =>
    have hn : (s.link k).nextLoss valid ≤ 3 := by
      simp only [Config.lossFrames] at hl
      omega
    have hk : (s.link k).Keeps
        (Link.sessionSteps s.settings valid chan hs' { s.link k with loss := _ }) :=
      ((s.link k).keeps_loss hn).trans (Link.keeps_sessionSteps (by exact hsess) _ _ _ _)
    rw [State.setLink_setLink]
    split
    · exact h.raise (h.setLink hs hk) _
    · exact h.setLink hs hk

theorem State.timing_endSession (s : State) (k : LinkNo) (l : Link) :
    (s.endSession k l).timing = s.timing := by
  unfold State.endSession State.endReferral
  split
  · next r _ => exact (s.actsOn_freeRecord r.circuit).timing
  · rfl

theorem State.timing_absentArrival (s : State) (k : LinkNo) (valid : Bool) :
    (s.absentArrival k valid).timing = s.timing := by
  unfold State.absentArrival
  dsimp only
  split
  · rfl
  · rfl
  · split
    · split <;> rfl
    · rfl

theorem State.timing_sessionArrival (s : State) (k : LinkNo) (valid : Bool) (chan hs : Byte) :
    (s.sessionArrival k valid chan hs).timing = s.timing := by
  unfold State.sessionArrival
  dsimp only
  split
  · rw [State.loseSession_setLink, State.raise_timing, State.timing_endSession]
  · split <;> rfl

theorem KeptByWork.arrival (h : KeptByWork P) (hs : P s) (k : LinkNo) (chan shake : Byte) :
    P (s.arrival k chan shake) := by
  unfold State.arrival
  split
  · exact hs
  · next hrun =>
    dsimp only
    split
    · exact h.present k hs hrun
    · next hst =>
      exact h.present k (h.absentArrival hs hst _) (by rwa [State.timing_absentArrival])
    · next hst =>
      exact h.present k (h.sessionArrival hs (by simp [Link.hasSession, hst]) _ _ _)
        (by rwa [State.timing_sessionArrival])
    · next hst =>
      exact h.present k (h.sessionArrival hs (by simp [Link.hasSession, hst]) _ _ _)
        (by rwa [State.timing_sessionArrival])

/-! ## Requests of a link -/

/-- A request of link k that waits to be taken is answered (R155). -/
theorem KeptByWork.finishLine (h : KeptByWork P) (hh : (s.handed k).isSome = true) {x : Taken}
    (hx : x.Keeps P (.line k) s) : P (x.finishLine k) := by
  refine h.answerLine hx.kept ?_ _
  rw [State.link_congr (hx.links (by simp))]
  exact State.not_awaitsVerdict_of_handed hh

theorem KeptByWork.takeLineOpen (h : KeptByWork P) (hs : P s) (hh : (s.handed k).isSome = true)
    (tag : Byte) (f : OpenFields) : P (s.takeLineOpen k tag f) := by
  unfold State.takeLineOpen
  split
  · split
    · next i hc ha => exact h.enterReferral tag hs (State.mayOpen_of_check hc ha).1 hh
    · exact h.finishLine hh (Taken.keeps_of_unchanged hs rfl rfl)
  · exact h.finishLine hh (h.takeOpen hs _ _)

theorem KeptByWork.takeLine (h : KeptByWork P) (hs : P s) (hh : (s.handed k).isSome = true)
    (tag : Byte) (q : LineRequest) : P (s.takeLine k tag q) := by
  unfold State.takeLine
  split
  · exact h.takeLineOpen hs hh _ _
  · exact h.finishLine hh (h.takeAdd hs _ _ _ _ _)
  · exact h.finishLine hh (h.takeDrop hs _ _ _ _ _)
  · exact h.finishLine hh (h.takeRelease hs (fun e => by cases e) _ _ _)
  · exact h.finishLine hh (h.takeRenew hs _ _ _ _)
  · exact h.finishLine hh (Taken.keeps_of_unchanged hs (s.takeStatus_after k _ _).1
      (s.takeStatus_after k _ _).2)

theorem KeptByWork.takeHanded (h : KeptByWork P) (hs : P s) (k : LinkNo)
    (kind : LineRequest → Bool) : P (s.takeHanded k kind) := by
  unfold State.takeHanded
  split
  · next hh =>
    split
    · exact h.takeLine hs (Option.isSome_iff_exists.mpr ⟨_, hh⟩) _ _
    · exact hs
  · exact hs

/-! ## Work that a frame start hands on -/

theorem KeptByWork.takeApplication (h : KeptByWork P) (hs : P s) : P s.takeApplication := by
  unfold State.takeApplication
  split
  · exact h.applyDue (h.sides hs { State.SameWork.refl s with application := fun _ => rfl })
  · exact hs

theorem KeptByWork.takeTick (h : KeptByWork P) (hs : P s) : P s.takeTick := by
  unfold State.takeTick
  split
  · exact h.leaseTick (h.sides hs { State.SameWork.refl s with tick := fun _ => rfl })
  · exact hs

theorem KeptByWork.settle (h : KeptByWork P) (hs : P s) : P s.settle :=
  h.takeTick (h.takeApplication hs)

theorem KeptByWork.timeOut (h : KeptByWork P) (hs : P s) (t : Timeout) : P (s.timeOut t) := by
  unfold State.timeOut
  split
  · next r hr =>
    split
    · exact h.denyReferral hs hr
    · exact hs
  · exact hs

theorem KeptByWork.setTimeouts (h : KeptByWork P) (hs : P s) {ts : List Timeout}
    (ht : s.manager.timeouts = [] → ts = []) : P (s.setTimeouts ts) :=
  h.sides hs { State.SameWork.refl s with timeouts := ht }

theorem KeptByWork.takeTimeout (h : KeptByWork P) (hs : P s) (k : LinkNo) : P
    (s.takeTimeout k) := by
  unfold State.takeTimeout
  split
  · exact hs
  · exact h.timeOut (h.setTimeouts hs fun e => by simp [e]) _

theorem KeptByWork.takeTimeouts (h : KeptByWork P) (hs : P s) : P s.takeTimeouts :=
  foldl_keeps (P := P) (fun _ t hu => h.timeOut hu t) _ _ (h.setTimeouts hs fun _ => rfl)

/-- A step of the work handed to the Circuit Manager (R24). -/
theorem KeptByWork.managerStep (h : KeptByWork P) (hs : P s) :
    ∀ t ∈ s.managerStep, P t := by
  unfold State.managerStep
  split
  · exact fun _ ht => Option.some.inj ht ▸ h.takeApplication hs
  · split
    · exact fun _ ht => Option.some.inj ht ▸ h.takeTick hs
    · split
      · exact fun _ ht => Option.some.inj ht ▸ h.takeTimeout hs _
      · intro t ht
        obtain ⟨k, -, rfl⟩ := Option.map_eq_some_iff.mp ht
        exact h.takeHanded hs k _

end Sys2Proof.Machine
end

-- ==== Proofs: what every step keeps ====
section
/-! SUPPORT. A property that the Circuit Manager's work keeps (`KeptByWork`), and that the Timing
Unit's events and a device reset keep (`KeptByTiming`), is kept by every step of the part. -/

namespace Sys2Proof.Machine

-- The proofs are elaborated one after another: many at once take the text past its memory limit.
set_option Elab.async false

/-- A property that the Timing Unit's events and a device reset keep. -/
structure KeptByTiming (P : State → Prop) : Prop where
  deviceReset (s : State) : P s.deviceReset
  toMaster {s : State} (rx : LineOctets) : P s → P (s.toMaster rx)
  toSlave {s : State} : P s → P s.toSlave
  acquirePulse {s : State} (p : Nat) : P s → s.timing.state = .acquiring → P (s.acquirePulse p)
  frameEnds {s : State} (pulse : Bool) (rx : LineOctets) : P s → P (s.frameEnds pulse rx)

variable {P : State → Prop} {s : State}

/-! ## Register writes -/

theorem keeps_ite {c : Prop} [Decidable c] {a b : State} (ha : c → P a) (hb : ¬c → P b) :
    P (if c then a else b) := by
  split
  · next h => exact ha h
  · next h => exact hb h

theorem KeptByWork.clearLost (h : KeptByWork P) (hs : P s) (v : Byte) : P (s.clearLost v) := by
  refine h.sides hs { State.SameWork.refl s with links := fun k => ?_ }
  simp only [State.clearLost, State.link, Fin.getElem_fin, getElem_updateAll]
  split
  · exact ⟨id, id, fun _ => Iff.rfl, rfl⟩
  · exact .refl _

theorem KeptByWork.writeLinkControl (h : KeptByWork P) (hs : P s) (k : LinkNo) (v : Byte) :
    P (s.writeLinkControl k v) := by
  have hp : P (s.writePolicy k (v.getLsbD 1)) := h.sides hs { State.SameWork.refl s with }
  unfold State.writeLinkControl
  dsimp only
  split
  · exact h.enableLink hp k
  · exact h.disableLink hp k

theorem KeptByWork.writeControl (h : KeptByWork P) (hs : P s) (v : Byte) : P
    (s.writeControl v) := by
  unfold State.writeControl
  split
  · exact h.controlReset hs
  · split
    · exact h.abandonWait hs
    · exact hs

theorem KeptByTiming.writeRole (h : KeptByTiming P) (hs : P s) (v : Byte) : P (s.writeRole v) := by
  unfold State.writeRole
  split
  · exact h.toMaster _ hs
  · exact h.toSlave hs

/-- A write of a setting that is outside its range is ignored, and one within its range keeps the
ranges (R99, R146, R170). -/
theorem KeptByWork.writeSetting (h : KeptByWork P) (hs : P s) {c : Prop} [Decidable c] {t : State}
    (ht : ¬c → s.SameWork t) : P (if c then s else t) :=
  keeps_ite (fun _ => hs) fun hc => h.sides hs (ht hc)

theorem one_le_of_confirm {v : Byte} (h : ¬(v = 0 ∨ 3 < v.toNat)) : 1 ≤ v.toNat :=
  Nat.one_le_iff_ne_zero.mpr fun e => h (.inl (BitVec.eq_of_toNat_eq e))

/-- A host write, by its address (R179; 13.6). -/
theorem KeptByWork.writeRegister (h : KeptByWork P) (ht : KeptByTiming P) (hs : P s) (a : BitVec 7)
    (v : Byte) : P (s.writeRegister a v) := by
  have hrefl := State.SameWork.refl s
  unfold State.writeRegister
  dsimp only
  refine keeps_ite (fun _ => h.sides hs { hrefl with }) fun _ => ?_
  refine keeps_ite (fun _ => h.writeCommand hs _ _) fun _ => ?_
  refine keeps_ite (fun _ => h.writeControl hs v) fun _ => ?_
  refine keeps_ite (fun _ => h.sides hs { hrefl with }) fun _ => ?_
  refine keeps_ite (fun _ => h.sides hs { hrefl with }) fun _ => ?_
  refine keeps_ite (fun _ => h.sides hs { hrefl with }) fun _ => ?_
  refine keeps_ite (fun _ => h.sides hs { hrefl with }) fun _ => ?_
  refine keeps_ite (fun _ => ht.writeRole hs v) fun _ => ?_
  refine keeps_ite (fun _ => h.writeSetting hs fun hz =>
    { hrefl with ranges := fun ⟨_, hr⟩ => ⟨hz, hr⟩ }) fun _ => ?_
  refine keeps_ite (fun _ => h.sides hs { hrefl with }) fun _ => ?_
  refine keeps_ite (fun _ => h.writeSetting hs fun hz => { hrefl with
    ranges := fun ⟨hl, _, _, hr⟩ =>
      ⟨hl, one_le_of_confirm hz, Nat.le_of_not_lt fun e => hz (.inr e), hr⟩ }) fun _ => ?_
  refine keeps_ite (fun _ => h.writeSetting hs fun hz => { hrefl with
    ranges := fun ⟨hl, hc, hc', _, hr⟩ => ⟨hl, hc, hc', Nat.le_of_not_lt hz, hr⟩ }) fun _ => ?_
  refine keeps_ite (fun _ => h.writeSetting hs fun hz => { hrefl with
    ranges := fun ⟨hl, hc, hc', ha, _, hr⟩ => ⟨hl, hc, hc', ha, Nat.le_of_not_lt hz, hr⟩ })
      fun _ => ?_
  refine keeps_ite (fun _ => h.writeSetting hs fun hz => { hrefl with
    ranges := fun ⟨hl, hc, hc', ha, hb, _⟩ => ⟨hl, hc, hc', ha, hb, hz⟩ }) fun _ => ?_
  refine keeps_ite (fun _ => h.clearLost hs v) fun _ => ?_
  refine keeps_ite (fun _ => h.writeLinkControl hs _ v) fun _ => ?_
  refine keeps_ite (fun _ => h.sides hs { hrefl with }) fun _ => ?_
  exact keeps_ite (fun _ => h.sides hs { hrefl with }) fun _ => hs

theorem KeptByWork.clearCode (h : KeptByWork P) (hs : P s) (code : Byte) : P (s.clearCode code) :=
  keeps_ite (fun _ => hs) fun _ => h.sides hs { State.SameWork.refl s with }

theorem KeptByWork.sendOctet (h : KeptByWork P) (hs : P s) : P s.sendOctet := by
  rcases s.sendOctet_cases with ⟨-, e⟩ | ⟨w, -, e⟩ <;> rw [e]
  · exact hs
  · have hnote : ∀ v, P (s.notePort v) := fun _ => h.sides hs { State.SameWork.refl s with }
    exact keeps_ite (fun _ => h.clearCode (hnote _) _) fun _ => hnote _

theorem KeptByWork.readPart (h : KeptByWork P) (hs : P s) (part : ReadPart) :
    P (s.readPart part) := by
  have hsnap : ∀ a, P (s.makeSnapshot a) := fun a => h.sides hs { State.SameWork.refl s with }
  cases part with
  | address a => exact hsnap a
  | octet => exact h.sendOctet hs
  | whole => exact h.sendOctet (hsnap _)

/-! ## A bit period -/

theorem KeptByWork.octetsComplete (h : KeptByWork P) (hs : P s) (slot : Nat) :
    P (s.octetsComplete slot) := by
  unfold State.octetsComplete
  split_ifs
  · exact h.sides hs { State.SameWork.refl s with }
  · exact h.sides hs { State.SameWork.refl s with }
  · exact foldl_keeps (P := P) (fun _ k hu => h.arrival hu k _ _) _ _ hs
  · exact hs

theorem KeptByWork.lineTick (h : KeptByWork P) (hs : P s) : P s.lineTick := by
  have hsample : P { s with switch := s.switch.sample s.pins.lin } :=
    h.sides hs { State.SameWork.refl s with }
  unfold State.lineTick
  dsimp only
  split_ifs
  · exact h.octetsComplete hsample _
  · exact hsample
  · exact hs

/-- The level of FRM is sampled (R94). -/
def State.sampleFrm (s : State) : State :=
  { s with timing := { s.timing with
    frmBefore := if s.timing.role = Role.slave then s.pins.frm else s.timing.frmBefore } }

theorem State.timingTick_eq (s : State) : s.timingTick =
    if s.sampleFrm.framesRun then
      if s.sampleFrm.timing.expected ≤ s.sampleFrm.timing.clock then
        s.sampleFrm.frameEnds s.frmEdge []
      else s.sampleFrm
    else if s.frmEdge then s.sampleFrm.acquirePulse s.sampleFrm.timing.clock else s.sampleFrm := rfl

theorem KeptByWork.timingTick (h : KeptByWork P) (ht : KeptByTiming P) (hs : P s) :
    P s.timingTick := by
  have hfrm : P s.sampleFrm := h.sides hs { State.SameWork.refl s with }
  rw [State.timingTick_eq]
  split_ifs with hrun
  · exact ht.frameEnds _ _ hfrm
  · exact hfrm
  · refine ht.acquirePulse _ hfrm ?_
    simpa [State.framesRun] using hrun
  · exact hfrm

theorem KeptByWork.idle (h : KeptByWork P) (ht : KeptByTiming P) (hs : P s) : P s.idle := by
  unfold State.idle
  cases hm : s.managerStep with
  | some t => exact h.managerStep hs t hm
  | none => exact h.timingTick ht (h.sides (h.lineTick hs) { State.SameWork.refl _ with })

/-! ## A command -/

theorem KeptByTiming.pulse (ht : KeptByTiming P) (hs : P s) (p : Nat) (rx : LineOctets) :
    P (s.pulse p rx) := by
  unfold State.pulse
  split
  · exact hs
  · next hst => exact ht.acquirePulse p hs hst
  · split
    · exact ht.frameEnds _ _ hs
    · exact hs
  · split
    · exact ht.frameEnds _ _ hs
    · exact hs

/-- Every command leaves the property in order. -/
theorem KeptByWork.exec (h : KeptByWork P) (ht : KeptByTiming P) (hs : P s) (c : Instr) :
    ∃ t, exec c s = .next t ∧ P t := by
  have hsfm : ∀ b, P (s.withSfm b) := fun b => h.sides hs { State.SameWork.refl s with }
  cases c with
  | deviceReset => exact ⟨_, rfl, ht.deviceReset s⟩
  | openCircuit await => exact ⟨_, rfl, h.writeCommand hs 0x01 await⟩
  | add await => exact ⟨_, rfl, h.writeCommand hs 0x02 await⟩
  | drop await => exact ⟨_, rfl, h.writeCommand hs 0x03 await⟩
  | move await => exact ⟨_, rfl, h.writeCommand hs 0x04 await⟩
  | release await => exact ⟨_, rfl, h.writeCommand hs 0x05 await⟩
  | renew await => exact ⟨_, rfl, h.writeCommand hs 0x06 await⟩
  | cancel await => exact ⟨_, rfl, h.writeCommand hs 0x07 await⟩
  | adopt await => exact ⟨_, rfl, h.writeCommand hs 0x08 await⟩
  | query await => exact ⟨_, rfl, h.writeCommand hs 0x09 await⟩
  | locate await => exact ⟨_, rfl, h.writeCommand hs 0x0A await⟩
  | nextRecord await => exact ⟨_, rfl, h.writeCommand hs 0x0B await⟩
  | bar await => exact ⟨_, rfl, h.writeCommand hs 0x0C await⟩
  | unbar await => exact ⟨_, rfl, h.writeCommand hs 0x0D await⟩
  | readReferral await => exact ⟨_, rfl, h.writeCommand hs 0x0E await⟩
  | approve await => exact ⟨_, rfl, h.writeCommand hs 0x0F await⟩
  | deny await => exact ⟨_, rfl, h.writeCommand hs 0x0F await⟩
  | setSuperframe await => exact ⟨_, rfl, h.writeCommand hs 0x10 await⟩
  | undefinedCommand code await => exact ⟨_, rfl, h.writeCommand hs code await⟩
  | commandRefused code await => exact ⟨_, rfl, h.writeCommand hs code await⟩
  | abandon => exact ⟨_, rfl, h.abandonWait hs⟩
  | cpReset => exact ⟨_, rfl, h.controlReset hs⟩
  | writeMaster rx => exact ⟨_, rfl, ht.toMaster rx hs⟩
  | writeSlave => exact ⟨_, rfl, ht.toSlave hs⟩
  | writeEnable0 k => exact ⟨_, rfl, h.disableLink hs k⟩
  | writeEnable1 k => exact ⟨_, rfl, h.enableLink hs k⟩
  | fillWrite k v => exact ⟨_, rfl, h.sides hs { State.SameWork.refl s with }⟩
  | eventFlagsWrite second v => exact ⟨_, rfl, h.sides hs { State.SameWork.refl s with }⟩
  | eventEnableWrite second v => exact ⟨_, rfl, h.sides hs { State.SameWork.refl s with }⟩
  | eventVectorRead part => exact ⟨_, rfl, h.readPart hs part⟩
  | lostNoticeWrite v => exact ⟨_, rfl, h.clearLost hs v⟩
  | registerWrite a v => exact ⟨_, rfl, h.writeRegister ht hs a v⟩
  | frmPulse position sfm rx =>
    have hhigh : P (s.withSfm sfm).frmHigh := h.sides (hsfm sfm) { State.SameWork.refl _ with }
    exact ⟨_, rfl, keeps_ite (fun _ => ht.pulse hhigh _ _) fun _ => hsfm sfm⟩
  | frameStart pulse sfm rx => exact ⟨_, rfl, ht.frameEnds _ _ (hsfm sfm)⟩
  | flywheelFrameStart sfm rx => exact ⟨_, rfl, ht.frameEnds _ _ (hsfm sfm)⟩
  | holdoverLimitExceeded sfm rx => exact ⟨_, rfl, ht.frameEnds _ _ (hsfm sfm)⟩
  | applyDueChanges => exact ⟨_, rfl, h.takeApplication hs⟩
  | leaseTick => exact ⟨_, rfl, h.takeTick hs⟩
  | leaseExpiry => exact ⟨_, rfl, h.takeTick hs⟩
  | referralTimeout k => exact ⟨_, rfl, h.takeTimeout hs k⟩
  | controlSlotArrival k chan hs' => exact ⟨_, rfl, h.arrival hs k chan hs'⟩
  | presenceLoss k chan hs' => exact ⟨_, rfl, h.arrival hs k chan hs'⟩
  | acknowledgeTimeout k chan hs' => exact ⟨_, rfl, h.arrival hs k chan hs'⟩
  | assemblyTimeout k chan hs' => exact ⟨_, rfl, h.arrival hs k chan hs'⟩
  | lineOpen k => exact ⟨_, rfl, h.takeHanded hs k _⟩
  | lineAdd k => exact ⟨_, rfl, h.takeHanded hs k _⟩
  | lineDrop k => exact ⟨_, rfl, h.takeHanded hs k _⟩
  | lineRelease k => exact ⟨_, rfl, h.takeHanded hs k _⟩
  | lineRenew k => exact ⟨_, rfl, h.takeHanded hs k _⟩
  | status k => exact ⟨_, rfl, h.takeHanded hs k _⟩
  | heldResultEntry k chan hs' => exact ⟨_, rfl, h.arrival hs k chan hs'⟩

/-- Every step leaves the property in order. -/
theorem KeptByWork.step (h : KeptByWork P) (ht : KeptByTiming P) (hs : P s) {t : State}
    (hstep : step s = .next t) : P t := by
  unfold Sys2Proof.Machine.step at hstep
  split at hstep
  · next c rest _ =>
    obtain ⟨u, hu, hp⟩ := h.exec ht (s := { s with pending := rest })
      (h.sides hs { State.SameWork.refl s with }) c
    rw [hstep] at hu
    cases hu
    exact hp
  · cases hstep
    exact h.idle ht hs

end Sys2Proof.Machine
end

-- ==== Proofs: device reset ====
section
/-! SUPPORT. What the part holds right after device reset (R191, R198), and that it is in order. -/

namespace Sys2Proof.Machine

-- The proofs are elaborated one after another: many at once take the text past its memory limit.
set_option Elab.async false

theorem State.record_reset (i : RecNo) : State.reset.record i = {} := by
  simp [State.record, State.reset, Manager.reset]

theorem State.link_reset (k : LinkNo) : State.reset.link k = {} := by
  simp [State.link, State.reset]

theorem State.referral_reset (k : LinkNo) : State.reset.referral k = none := by
  simp [State.referral, State.reset]

theorem State.entriesOf_reset (i : RecNo) : State.reset.entriesOf i = [] := rfl

theorem State.map_reset (n : Fin 640) : State.reset.manager.map[n] =
    if n.val % Config.slotsPerFrame < Config.bearerSlots then .openPos else .fixed := by
  simp [State.reset, Manager.reset, resetMap]

theorem State.phase_reset (i : RecNo) (p : Plane) (l : Fin 8) (q : Fin 40) :
    State.reset.phase i p l q = none := by
  rw [State.phase, State.entry_eq _ l.isLt q.isLt]
  have := State.map_reset ⟨positionPlace p l q, positionPlace_lt l.isLt q.isLt⟩
  simp only [Fin.getElem_fin] at this
  rw [this]
  split <;> rfl

theorem Link.inOrder_reset : Link.InOrder {} := by
  refine ⟨?_, ?_, ⟨?_, ?_, ?_⟩, ?_, ?_, ?_⟩ <;> simp [Link.EnableMatches, Link.SessionClear]

theorem State.managerInOrder_reset : State.reset.ManagerInOrder := by
  refine ⟨?_, fun i => ⟨?_, ?_⟩, rfl, ⟨fun k r hr => ?_, fun i hi => ?_, fun k => ?_⟩,
    fun i hi => ?_,
    fun k => ?_⟩
  · simp [State.QueueBounded, State.reset, Manager.reset]
  · rw [State.record_reset]; rfl
  · rw [State.entriesOf_reset, State.record_reset]; rfl
  · rw [State.referral_reset] at hr; cases hr
  · rw [State.record_reset] at hi; cases hi
  · rw [State.link_reset, State.referral_reset]; simp
  · rw [State.record_reset] at hi; cases hi
  · rw [State.link_reset]; exact Link.inOrder_reset

theorem State.controlSlotsFixed_reset : State.reset.ControlSlotsFixed := by
  intro n
  rw [State.map_reset]
  split
  · next h => exact iff_of_false (by simp) (Nat.not_le_of_lt h)
  · next h => exact iff_of_true rfl (Nat.le_of_not_lt h)

theorem State.switching_reset : State.reset.Switching where
  fixed := State.controlSlotsFixed_reset
  apart i := by rw [State.record_reset]; rfl
  claims i p l q := by
    rw [State.record_reset]
    exact State.phase_reset i p l q
  program l q := by
    rw [State.programOf_of_noPhase fun i => State.phase_reset i .egress l ⟨q, by omega⟩,
      State.programEntry_eq _ l.isLt q.isLt]
    simp [State.reset, Manager.reset]

theorem State.attentionCounted_reset : State.reset.AttentionCounted := by
  simp [State.AttentionCounted, State.reset, Manager.reset, Vector.toList_replicate]

/-- Settles O60, property by property, from what the reset state holds. -/
theorem resetIsInOrder : Obligations.ResetIsInOrder := by
  unfold Obligations.ResetIsInOrder
  refine ⟨by decide, by decide, ⟨by decide, by decide, fun h => ?_, fun h => ?_⟩, fun _ => ?_,
    fun k => ?_, State.attentionCounted_reset,
    State.switchingInOrder_iff.mpr ⟨State.managerInOrder_reset, State.switching_reset⟩⟩
  · cases h
  · cases h
  · exact ⟨rfl, rfl, rfl, fun k => by rw [State.link_reset]⟩
  · rw [State.link_reset]
    simp [Link.CountsInRange, Link.hasSession]

end Sys2Proof.Machine
end

-- ==== Proofs: the Circuit Manager through every step ====
section
/-! SUPPORT. A property of the circuits, the queue, the referrals and the links, on which the Timing
Unit does not work, is kept by its events as soon as the Circuit Manager's work keeps it (R101). -/

namespace Sys2Proof.Machine

-- The proofs are elaborated one after another: many at once take the text past its memory limit.
set_option Elab.async false

/-- What the Circuit Manager's order and the switching read has stayed the same. -/
structure State.SameCircuits (s t : State) : Prop where
  table : t.manager.table = s.manager.table
  map : t.manager.map = s.manager.map
  program : t.manager.program = s.manager.program
  queue : t.manager.queue = s.manager.queue
  awaiting : t.mailbox.awaiting = s.mailbox.awaiting
  links : ∀ k, (s.link k).KeepsOrder (t.link k)
  referrals : ∀ k, (t.referral k).map (fun r => (r.circuit, r.generation))
    = (s.referral k).map fun r => (r.circuit, r.generation)

theorem State.SameCircuits.refl (s : State) : s.SameCircuits s where
  table := rfl
  map := rfl
  program := rfl
  queue := rfl
  awaiting := rfl
  links _ := (Link.Keeps.refl _).order
  referrals _ := rfl

theorem State.SameWork.sameCircuits {s t : State} (h : s.SameWork t) : s.SameCircuits t where
  table := h.table
  map := h.map
  program := h.program
  queue := h.queue
  awaiting := h.awaiting
  links k := (h.links k).order
  referrals k := by rw [h.referral]

/-- A change of the links that their order does not read. -/
theorem State.sameCircuits_mapLinks (s : State) (f : Link → Link)
    (hf : ∀ l : Link, l.KeepsOrder (f l)) : s.SameCircuits { s with links := s.links.map f } :=
  { State.SameCircuits.refl s with
    links := fun k => by
      rw [show State.link { s with links := s.links.map f } k = f (s.link k) by simp [State.link]]
      exact hf _ }

variable {P : State → Prop} {s : State}

/-- A property of the circuits through the Timing Unit's events. -/
structure KeptByTime (P : State → Prop) : Prop where
  work : KeptByWork P
  same {s t : State} : P s → s.SameCircuits t → P t
  deviceReset (s : State) : P s.deviceReset

theorem KeptByTime.countReferral (h : KeptByTime P) (hs : P s) (k : LinkNo) :
    P (s.countReferral k) := by
  unfold State.countReferral
  split
  · exact hs
  · next r hr =>
    split
    · exact hs
    · have hset : P (s.setReferral k (some { r with remaining := r.remaining - 1 })) := by
        refine h.same hs { State.SameCircuits.refl s with referrals := fun j => ?_ }
        rw [State.referral_setReferral]
        split
        · next e => rw [← e, hr]; rfl
        · rfl
      exact keeps_ite (fun _ => h.same hset { State.SameCircuits.refl _ with }) fun _ => hset

theorem KeptByTime.frameStart (h : KeptByTime P) (hs : P s) (first ended : Bool)
    (rx : LineOctets) : P (s.frameStart first ended rx) := by
  have hcounted : ∀ u : State, P u → ∀ t, P { u with timing := t } := fun u hu t =>
    h.same hu { State.SameCircuits.refl u with }
  have hhand : ∀ (u : State) (b : Bool), P u → P (u.handFrame b ended rx) := fun u b hu =>
    h.same (h.same hu (u.sameCircuits_mapLinks Link.beginFrame fun l hl => ⟨hl, Iff.rfl⟩))
      { State.SameCircuits.refl _ with }
  have hsuper : ∀ (u : State) (b : Bool), P u → P (u.handSuperframe b) := fun u b hu =>
    keeps_ite (fun _ => foldl_keeps (P := P) (fun _ k hv => h.countReferral hv k) _ _
      (h.same hu { State.SameCircuits.refl u with })) fun _ => hu
  exact hsuper _ _ (hhand _ _ (hcounted _ (h.work.settle hs) _))

theorem KeptByTime.enterAcquiring (h : KeptByTime P) (hs : P s) (n : Nat) :
    P (s.enterAcquiring n) := by
  have hidle : P s.settle.takeTimeouts := h.work.takeTimeouts (h.work.settle hs)
  exact h.same (h.same hidle (State.sameCircuits_mapLinks _ Link.endFrame fun l hl =>
    ⟨hl, Iff.rfl⟩))
    { State.SameCircuits.refl _ with }

theorem KeptByTime.timing (h : KeptByTime P) (hs : P s) (t : Timing) :
    P { s with timing := t } := h.same hs { State.SameCircuits.refl s with }

theorem KeptByTime.toTimingState (h : KeptByTime P) (hs : P s) (st : TimingState) (n : Nat) :
    P (s.toTimingState st n) := h.same hs { State.SameCircuits.refl s with }

theorem KeptByTime.frameFalls (h : KeptByTime P) (hs : P s) (p : Nat) : P (s.frameFalls p) :=
  h.timing hs _

theorem KeptByTime.toMaster (h : KeptByTime P) (hs : P s) (rx : LineOctets) :
    P (s.toMaster rx) := by
  unfold State.toMaster
  refine keeps_ite (fun _ => hs) fun _ => ?_
  exact h.frameStart (h.timing (h.toTimingState (h.frameFalls hs _) _ _) _) _ _ _

theorem KeptByTime.toSlave (h : KeptByTime P) (hs : P s) : P s.toSlave := by
  unfold State.toSlave
  split
  · exact hs
  · exact h.timing (h.enterAcquiring hs _) _
  · exact h.enterAcquiring hs _
  · exact h.enterAcquiring hs _

theorem KeptByTime.acquirePulse (h : KeptByTime P) (hs : P s) (p : Nat) :
    P (s.acquirePulse p) := by
  unfold State.acquirePulse
  refine keeps_ite (fun _ => ?_) fun _ => h.timing hs _
  exact h.frameStart (h.timing (h.toTimingState (h.frameFalls hs _) _ _) _) _ _ _

theorem KeptByTime.frameEnds (h : KeptByTime P) (hs : P s) (pulse : Bool) (rx : LineOctets) :
    P (s.frameEnds pulse rx) := by
  have hnext : ∀ u, P u → P ((u.frameFalls u.timing.expected).frameStart false true rx) :=
    fun u hu => h.frameStart (h.frameFalls hu _) _ _ _
  unfold State.frameEnds
  dsimp only
  split
  · exact hs
  · exact hnext _ hs
  · exact keeps_ite (fun _ => hnext _ hs) fun _ => hnext _ (h.toTimingState hs _ _)
  · refine keeps_ite (fun _ => hnext _ (h.toTimingState hs _ _)) fun _ =>
      keeps_ite (fun _ => hnext _ (h.timing hs _)) fun _ => ?_
    exact h.timing (h.enterAcquiring hs 0) _

theorem KeptByTime.keptByTiming (h : KeptByTime P) : KeptByTiming P where
  deviceReset := h.deviceReset
  toMaster rx hs := h.toMaster hs rx
  toSlave hs := h.toSlave hs
  acquirePulse p hs _ := h.acquirePulse hs p
  frameEnds pulse rx hs := h.frameEnds hs pulse rx

/-! ## The Circuit Manager -/

theorem State.ManagerInOrder.same {t : State} (hs : s.ManagerInOrder) (h : s.SameCircuits t) :
    t.ManagerInOrder := hs.of_views h.table h.queue h.awaiting h.links h.referrals

/-- The positions are not the Circuit Manager's order. -/
theorem State.ManagerInOrder.setEntry (hs : s.ManagerInOrder) (p : Plane) (l q : Nat)
    (new : PosEntry) : (s.setEntry p l q new).ManagerInOrder :=
  hs.of_views rfl rfl rfl (fun _ => (Link.Keeps.refl _).order) fun _ => rfl

/-- Step 7 of an arrival keeps a link in its order (R134). -/
theorem Link.keepsOrder_present (l : Link) : l.KeepsOrder l.present := fun hl => ⟨hl, Iff.rfl⟩

theorem State.sameCircuits_present (s : State) (k : LinkNo) :
    s.SameCircuits (s.setLink k (s.link k).present) :=
  { State.SameCircuits.refl s with
    links := fun j => by
      rw [State.link_setLink]
      split
      · next e => exact e ▸ Link.keepsOrder_present _
      · exact (Link.Keeps.refl _).order }

theorem keptByTime_managerInOrder : KeptByTime State.ManagerInOrder where
  work :=
    { sides := fun hs h => hs.same h.sameCircuits
      acceptOpen := fun who _ hs hm hr => hs.acceptOpen who _ hm.old hr
      acceptAdd := fun who _ c hs hm hr => hs.acceptAdd who _ c hm.state hr
      acceptDrop := fun who _ c hs hst _ hr => hs.acceptDrop who _ c hst hr
      acceptMove := fun c hs hm hr => hs.acceptMove _ c hm.state hr
      releaseActive := fun who c hs hst hr => hs.releaseActive who c hst hr
      hostEndsOpening := fun hs hr hst => hs.hostEndsOpening hr hst
      lineEndsOpening := fun hs hst => hs.lineEndsOpening hst
      cancelChange := fun hs hr hst => hs.cancelChange hr hst
      acceptRenew := fun _ v hs => hs.acceptRenew v
      acceptAdopt := fun hs hst => hs.acceptAdopt hst
      clearAttention := fun i hs => hs.clearAttention i
      freeRetired := fun hs hst => hs.freeRetired hst
      setEntry := fun hs _ _ _ _ => hs.setEntry _ _ _ _
      beginWait := fun hs hr hst => hs.beginWait hr hst
      endWait := fun hs hm => hs.endWait hm
      applyDue := fun hs => hs.applyDue
      leaseTick := fun hs => hs.leaseTick
      enterReferral := fun tag _ hs hm hh => hs.enterReferral tag _ hm.old hh
      approveReferral := fun hs hk hr => hs.approveReferral hk hr
      denyReferral := fun hs hk => hs.denyReferral hk
      endSession := fun hs hl => hs.endSession hl
      present := fun k hs _ => hs.same (State.sameCircuits_present _ k) }
  same hs h := hs.same h
  deviceReset _ := State.managerInOrder_reset.same { State.SameCircuits.refl State.reset with }

/-- Settles O58: every operation of the Circuit Manager, of the mailbox and of a link keeps the
Circuit Manager in order, and the Timing Unit does not work on it. -/
theorem everyStepKeepsTheManagerInOrder : Obligations.EveryStepKeepsTheManagerInOrder := by
  unfold Obligations.EveryStepKeepsTheManagerInOrder
  intro s t hs hstep
  exact keptByTime_managerInOrder.work.step keptByTime_managerInOrder.keptByTiming hs hstep

end Sys2Proof.Machine
end

-- ==== Proofs: counts and settings through the Circuit Manager's work ====
section
/-! SUPPORT. The settings, the counts, the bound of the change queue, ATTENTION_COUNT and the FIXED
slots through the work of the Circuit Manager, of the mailbox and of the links: an operation on one
circuit can only lengthen the queue. -/

namespace Sys2Proof.Machine

-- The proofs are elaborated one after another: many at once take the text past its memory limit.
set_option Elab.async false

/-! ## What stands -/

/-- Settings, counts, queue bound, ATTENTION_COUNT and FIXED slots are as the manual has them. -/
structure State.InRange (s : State) : Prop where
  settings : s.SettingsInRange
  role : s.RoleMatches
  counts : s.TimingCounts
  idle : s.AbsenceIsIdle
  links : ∀ k : LinkNo, (s.link k).CountsInRange
  queue : s.QueueBounded
  attention : s.AttentionCounted
  fixed : s.ControlSlotsFixed

/-- The same, in one timing state where one is named, with no application step and no lease tick
outstanding where that is asked. -/
structure State.Runs (st : Option TimingState) (a b : Bool) (s : State) : Prop where
  range : s.InRange
  state : ∀ x ∈ st, s.timing.state = x
  application : a = true → s.manager.applicationDue = false
  tick : b = true → s.manager.tickDue = false

theorem State.InRange.runs {s : State} (h : s.InRange) : s.Runs (some s.timing.state) false false :=
  ⟨h, fun _ hx => Option.some.inj hx, fun e => (by cases e), fun e => (by cases e)⟩

variable {s t : State} {i : RecNo} {k : LinkNo} {st : Option TimingState} {a b : Bool}

/-! ## The two ways of a change -/

theorem State.InRange.of_actsOn (hs : s.InRange) (h : s.ActsOn i t) (hq : t.QueueBounded) :
    t.InRange where
  settings := by
    rw [State.SettingsInRange, h.timing, h.settings, h.referrals]
    exact hs.settings
  role := by rw [State.RoleMatches, h.timing]; exact hs.role
  counts := by rw [State.TimingCounts, h.timing]; exact hs.counts
  idle hst := by
    rw [h.timing] at hst
    obtain ⟨ha, ht, hto, hl⟩ := hs.idle hst
    exact ⟨h.application.trans ha, h.tick.trans ht, h.timeouts.trans hto,
      fun k => (h.links k).arrived.symm.trans (hl k)⟩
  links k := (h.links k).counts (hs.links k)
  queue := hq
  attention := h.attention hs.attention
  fixed := hs.fixed.of_actsOn h

theorem State.Runs.of_actsOn (hs : s.Runs st a b) (h : s.ActsOn i t) (hq : t.QueueBounded) :
    t.Runs st a b where
  range := hs.range.of_actsOn h hq
  state x hx := (congrArg Timing.state h.timing).trans (hs.state x hx)
  application ha := h.application.trans (hs.application ha)
  tick hb := h.tick.trans (hs.tick hb)

/-- The circuits as the counts see them, and the links within their counts. -/
structure State.SameBounds (s t : State) : Prop where
  table : t.manager.table = s.manager.table
  map : t.manager.map = s.manager.map
  queue : t.manager.queue.length = s.manager.queue.length
  attentionCount : t.manager.attentionCount = s.manager.attentionCount
  ranges : s.SettingsInRange → t.SettingsInRange
  links : ∀ k, (s.link k).CountsInRange → (t.link k).CountsInRange

theorem State.SameBounds.refl (s : State) : s.SameBounds s where
  table := rfl
  map := rfl
  queue := rfl
  attentionCount := rfl
  ranges := id
  links _ := id

theorem State.InRange.of_sameBounds (hs : s.InRange) (h : s.SameBounds t) (hrole : t.RoleMatches)
    (hcounts : t.TimingCounts) (hidle : t.AbsenceIsIdle) : t.InRange where
  settings := h.ranges hs.settings
  role := hrole
  counts := hcounts
  idle := hidle
  links k := h.links k (hs.links k)
  queue := by rw [State.QueueBounded, h.queue]; exact hs.queue
  attention := by rw [State.AttentionCounted, h.table, h.attentionCount]; exact hs.attention
  fixed := by rw [State.ControlSlotsFixed, h.map]; exact hs.fixed

theorem State.Runs.of_sameWork (hs : s.Runs st a b) (h : s.SameWork t) : t.Runs st a b where
  range := by
    refine hs.range.of_sameBounds ⟨h.table, h.map, by rw [h.queue], h.attentionCount, h.ranges,
      fun k => (h.links k).counts⟩ ?_ ?_ fun hst => ?_
    · rw [State.RoleMatches, h.state, h.role]; exact hs.range.role
    · rw [State.TimingCounts, h.state, h.consistency, h.holdover]; exact hs.range.counts
    · obtain ⟨ha, ht, hto, hl⟩ := hs.range.idle (h.state.symm.trans hst)
      exact ⟨h.application ha, h.tick ht, h.timeouts hto,
        fun k => (h.links k).arrived.symm.trans (hl k)⟩
  state x hx := h.state.trans (hs.state x hx)
  application ha := h.application (hs.application ha)
  tick hb := h.tick (hs.tick hb)

/-- A change of the queue's marks, of the referrals or of one link, with the timing and what is
outstanding as they were. -/
theorem State.Runs.of_sameTiming (hs : s.Runs st a b) (h : s.SameBounds t)
    (hti : t.timing = s.timing) (hap : t.manager.applicationDue = s.manager.applicationDue)
    (htk : t.manager.tickDue = s.manager.tickDue) (hto : t.manager.timeouts = s.manager.timeouts)
    (hl : s.timing.state = .acquiring → ∀ k, (t.link k).arrived = (s.link k).arrived) :
    t.Runs st a b where
  range := by
    refine hs.range.of_sameBounds h ?_ ?_ fun hst => ?_
    · rw [State.RoleMatches, hti]; exact hs.range.role
    · rw [State.TimingCounts, hti]; exact hs.range.counts
    · rw [hti] at hst
      obtain ⟨ha, ht, hts, hk⟩ := hs.range.idle hst
      exact ⟨hap.trans ha, htk.trans ht, hto.trans hts, fun k => (hl hst k).trans (hk k)⟩
  state x hx := (congrArg Timing.state hti).trans (hs.state x hx)
  application ha := hap.trans (hs.application ha)
  tick hb := htk.trans (hs.tick hb)

/-- One link changes within its counts. -/
theorem State.Runs.setLink (hs : s.Runs st a b) {l : Link}
    (hc : (s.link k).CountsInRange → l.CountsInRange)
    (ha : s.timing.state = .acquiring → l.arrived = (s.link k).arrived) :
    (s.setLink k l).Runs st a b := by
  refine hs.of_sameTiming { State.SameBounds.refl s with links := fun j hj => ?_ } rfl rfl rfl rfl
    fun hst j => ?_
  · rw [State.link_setLink]
    split
    · next e => exact hc (e ▸ hj)
    · exact hj
  · rw [State.link_setLink]
    split
    · next e => exact e ▸ ha hst
    · rfl

theorem State.Runs.setReferral (hs : s.Runs st a b) (k : LinkNo) (r : Option Referral) :
    (s.setReferral k r).Runs st a b :=
  hs.of_sameTiming { State.SameBounds.refl s with } rfl rfl rfl rfl fun _ _ => rfl

/-! ## The queue's bound -/

theorem State.Runs.of_stages (hs : s.Runs st a b) {ch : Change} {cu : Cutover} {ca : Cause}
    (h : s.Stages i ch cu ca t) (hroom : s.HasRoom) : t.Runs st a b := by
  refine hs.of_actsOn h.acts ?_
  simp only [State.QueueBounded, h.queue, List.length_append, List.length_singleton,
    Config.queueRoom]
  exact hroom

theorem State.Runs.of_sameQueue (hs : s.Runs st a b) (h : s.ActsOn i t)
    (hq : t.manager.queue = s.manager.queue) : t.Runs st a b :=
  hs.of_actsOn h (by rw [State.QueueBounded, hq]; exact hs.range.queue)

theorem State.Runs.of_filter (hs : s.Runs st a b) (h : s.ActsOn i t)
    (hq : t.manager.queue = s.manager.queue.filter fun e => e.circuit ≠ i) : t.Runs st a b :=
  hs.of_actsOn h (by
    rw [State.QueueBounded, hq]
    exact (List.length_filter_le _ _).trans hs.range.queue)

theorem State.Runs.serveWaiting (hs : s.Runs st a b) (n : Nat) : (s.serveWaiting n).Runs st a b :=
  State.serveWaiting_keeps (fun u i hu hroom _ => hu.of_stages (u.stages_stageExpiry i) hroom) n
    s hs

theorem State.Runs.setQueue (hs : s.Runs st a b) {q : List QueueEntry}
    (hq : q.length ≤ Config.queueRoom) : (s.setQueue q).Runs st a b where
  range := { hs.range with queue := hq }
  state := hs.state
  application := hs.application
  tick := hs.tick

theorem State.Runs.raise (hs : s.Runs st a b) (c : Nat) : (s.raise c).Runs st a b :=
  hs.of_sameWork { State.SameWork.refl s with }

/-! ## The application step and the lease tick -/

theorem State.Runs.applyDue (hs : s.Runs st a b) : s.applyDue.Runs st a b := by
  have hall : ((s.manager.queue.filter fun e => s.due e).foldl
      (State.applyEntry s.manager.frame) s).Runs st a b :=
    foldl_keeps (P := State.Runs st a b) (fun u e hu => hu.of_sameQueue (u.actsOn_applyEntry _ e)
      (by rw [State.manager_applyEntry, (u.applies_applyChange e.circuit _).queue])) _ _ hs
  exact (hall.setQueue ((List.length_filter_le _ _).trans hs.range.queue)).serveWaiting _

/-- A function that keeps a mark keeps the count of marked elements. -/
theorem countP_updateAll {α : Type} {n : Nat} (v : Vector α n) (f : Nat → α → α) (p : α → Bool)
    (h : ∀ j x, p (f j x) = p x) : (updateAll v f).toList.countP p = v.toList.countP p := by
  have hlist : ∀ (l : List α) (j : Nat), (updateFrom f j l).countP p = l.countP p := by
    intro l
    induction l with
    | nil => exact fun _ => rfl
    | cons x rest ih => exact fun j => by simp [updateFrom, List.countP_cons, ih, h]
  exact hlist v.toList 0

theorem State.Runs.countLeases (hs : s.Runs st a b) : s.countLeases.Runs st a b where
  range := { hs.range with
    attention := by
      have h := countP_updateAll s.manager.table (fun _ r => r.countDown) Record.attention
        fun _ r => by rw [Record.countDown_eq]
      exact hs.range.attention.trans h.symm }
  state := hs.state
  application := hs.application
  tick := hs.tick

theorem State.Runs.expire (hs : s.Runs st a b) (i : RecNo) : (s.expire i).Runs st a b := by
  unfold State.expire
  split
  · exact hs.of_filter (s.leaves_expireOpening i).acts (s.leaves_expireOpening i).queue
  · refine hs.of_actsOn (s.actsOn_expireAltering i) ?_
    rw [State.QueueBounded, State.queue_expireAltering]
    simp only [State.rewriteEntry, State.setQueue, List.length_map]
    exact hs.range.queue
  · exact hs

theorem State.Runs.leaseTick (hs : s.Runs st a b) : s.leaseTick.Runs st a b := by
  rw [State.leaseTick_eq]
  refine State.Runs.serveWaiting ?_ _
  refine foldl_keeps (P := State.Runs st a b) (fun _ i hu => hu.expire i) _ _ ?_
  exact foldl_keeps (P := State.Runs st a b)
    (fun u i hu => hu.of_sameQueue (u.actsOn_setAttention i) (by simp)) _ _ hs.countLeases

/-! ## Referrals and links -/

theorem State.Runs.answerLine (hs : s.Runs st a b) (k : LinkNo) (r : Reply) :
    (s.answerLine k r).Runs st a b := by
  unfold State.answerLine
  split
  · exact hs.setLink (fun h => h.placeResult _) fun _ => by simp
  · exact hs

theorem State.Runs.freeRecord (hs : s.Runs st a b) (i : RecNo) : (s.freeRecord i).Runs st a b :=
  hs.of_sameQueue (s.actsOn_freeRecord i) (by simp)

theorem State.Runs.endSession (hs : s.Runs st a b) {l : Link} (hl : (s.link k).Closes l) :
    (s.endSession k l).Runs st a b := by
  have hend : (s.endReferral k).Runs st a b := by
    unfold State.endReferral
    split
    · exact (hs.freeRecord _).setReferral k none
    · exact hs
  refine State.Runs.setLink hend (fun hc => hl.counts ?_) fun _ => ?_
  · rwa [State.link_congr (s.endReferral_links k)] at hc
  · rw [State.link_congr (s.endReferral_links k)]
    exact hl.arrived.symm

theorem State.Runs.enterReferral (hs : s.Runs st a b) (tag : Byte) (f : OpenFields) :
    (s.enterReferral k i tag f).Runs st a b := by
  rw [State.enterReferral_eq]
  have hlink : ∀ j, (s.allocate i (.link k) f .referred).link j = s.link j :=
    State.link_congr (s.links_allocate i _ _ _)
  have halloc : (s.allocate i (.link k) f .referred).Runs st a b :=
    hs.of_sameQueue (s.actsOn_allocate i _ _ _) (by simp)
  refine State.Runs.setLink ((halloc.setReferral k _).raise _) (fun hc => ?_) fun _ => ?_
  · show (s.link k).CountsInRange
    rw [← hlink k]
    exact hc
  · show (s.link k).arrived = _
    rw [← hlink k]
    rfl

/-- One bearer entry is barred or opened: no slot that is FIXED (R18, R53). -/
theorem State.Runs.setEntry (hs : s.Runs st a b) {p : Plane} {l q : Nat} {new : PosEntry}
    (hq : q < 38) (hn : new = .barred ∨ new = .openPos) : (s.setEntry p l q new).Runs st a b where
  range := { hs.range with
    fixed := by
      have hf := State.controlSlotsFixed_iff.mp hs.range.fixed
      refine State.controlSlotsFixed_iff.mpr fun p' l' q' => ?_
      rw [State.setEntry, State.entry_updateMap s _ l'.isLt q'.isLt, ← hf p' l' q']
      split
      · next e =>
        refine iff_of_false (by rcases hn with rfl | rfl <;> simp) fun h => ?_
        have := (hf p' l' q').mp h
        omega
      · rfl }
  state := hs.state
  application := hs.application
  tick := hs.tick

theorem keptByWork_runs (st : Option TimingState) (a b : Bool) :
    KeptByWork (State.Runs st a b) where
  sides hs h := hs.of_sameWork h
  acceptOpen who _ hs _ hr := hs.of_stages (State.stages_acceptOpen _ _ who _) hr
  acceptAdd who _ c hs _ hr := hs.of_stages (State.stages_acceptAdd _ _ who _ c) hr
  acceptDrop who _ c hs _ _ hr := hs.of_stages (State.stages_acceptDrop _ _ who _ c) hr
  acceptMove c hs _ hr := hs.of_stages (State.stages_acceptMove _ _ _ c) hr
  releaseActive who c hs _ hr := hs.of_stages (State.stages_releaseActive _ _ who c) hr
  hostEndsOpening hs _ _ := State.Runs.serveWaiting
    (hs.of_filter (State.actsOn_freeOpening _ _) (State.queue_freeOpening _ _)) 1
  lineEndsOpening hs _ := State.Runs.serveWaiting
    (hs.of_filter (State.leaves_retireOpening _ _).acts (State.leaves_retireOpening _ _).queue) 1
  cancelChange hs _ _ := State.Runs.serveWaiting
    (hs.of_filter (State.actsOn_cancelled _ _) (State.queue_cancelled _ _)) 1
  acceptRenew i v hs := hs.of_sameQueue (State.actsOn_acceptRenew _ i v) rfl
  acceptAdopt hs _ := hs.of_sameQueue (State.actsOn_acceptAdopt _ _) (by simp [State.acceptAdopt])
  clearAttention i hs := hs.of_sameQueue (State.actsOn_clearAttention _ i) (by simp)
  freeRetired hs _ := hs.freeRecord _
  setEntry hs _ hq _ hn := hs.setEntry hq hn
  beginWait hs _ _ := hs.of_sameTiming
    { State.SameBounds.refl _ with queue := List.length_map _ } rfl rfl rfl rfl fun _ _ => rfl
  endWait hs _ := hs.of_sameTiming
    { State.SameBounds.refl _ with queue := List.length_map _ } rfl rfl rfl rfl fun _ _ => rfl
  applyDue hs := hs.applyDue
  leaseTick hs := hs.leaseTick
  enterReferral tag _ hs _ _ := hs.enterReferral tag _
  approveReferral hs _ hr := by
    rw [State.approveReferral_eq]
    exact ((hs.of_stages (State.stages_openReferred _ _) hr).answerLine _ _).setReferral _ none
  denyReferral hs _ := ((hs.freeRecord _).answerLine _ _).setReferral _ none
  endSession hs hl := hs.endSession hl
  present k hs hst := hs.setLink id fun h => absurd h hst

end Sys2Proof.Machine
end

-- ==== Proofs: counts and settings through every step ====
section
/-! SUPPORT. The settings and the counts through the Timing Unit's events: a frame start of frames
that run, and the entry into ACQUIRING, which first takes all that has been handed on (R61, R101).
-/

namespace Sys2Proof.Machine

-- The proofs are elaborated one after another: many at once take the text past its memory limit.
set_option Elab.async false

variable {s t : State}

theorem keptByWork_inRange : KeptByWork State.InRange := by
  have h : State.Runs none false false = State.InRange := by
    funext s
    refine propext ⟨fun hs => hs.range, fun hs => ⟨hs, ?_, ?_, ?_⟩⟩ <;> simp
  exact h ▸ keptByWork_runs none false false

/-! ## A frame start -/

/-- Counts and settings are in order, and frames run. -/
structure State.Running (s : State) : Prop where
  range : s.InRange
  runs : s.timing.state ≠ .acquiring

/-- While frames run, what is outstanding is free. -/
theorem State.Running.of_sameBounds (hs : s.Running) (h : s.SameBounds t)
    (hst : t.timing.state = s.timing.state) (hr : t.timing.role = s.timing.role)
    (hc : t.timing.consistency = s.timing.consistency)
    (hh : t.timing.holdoverCount = s.timing.holdoverCount) : t.Running where
  range := by
    refine hs.range.of_sameBounds h ?_ ?_ fun h0 => absurd (hst.symm.trans h0) hs.runs
    · rw [State.RoleMatches, hst, hr]; exact hs.range.role
    · rw [State.TimingCounts, hst, hc, hh]; exact hs.range.counts
  runs := hst ▸ hs.runs

theorem State.Running.settle (hs : s.Running) : s.settle.Running where
  range := keptByWork_inRange.settle hs.range
  runs := by
    have h := (keptByWork_runs _ _ _).settle hs.range.runs
    rw [h.state _ rfl]
    exact hs.runs

theorem State.Running.handFrame (hs : s.Running) (b ended : Bool) (rx : LineOctets) :
    (s.handFrame b ended rx).Running := by
  refine hs.of_sameBounds { State.SameBounds.refl s with links := fun k hk => ?_ } rfl rfl rfl rfl
  rw [show (s.handFrame b ended rx).link k = (s.link k).beginFrame by
    simp [State.link, State.handFrame]]
  exact hk

theorem State.Running.countReferral (hs : s.Running) (k : LinkNo) :
    (s.countReferral k).Running := by
  unfold State.countReferral
  split
  · exact hs
  · next r _ =>
    have hset : (s.setReferral k (some { r with remaining := r.remaining - 1 })).Running :=
      hs.of_sameBounds { State.SameBounds.refl s with } rfl rfl rfl rfl
    exact keeps_ite (fun _ => hs) fun _ => keeps_ite (fun _ =>
      hset.of_sameBounds { State.SameBounds.refl _ with } rfl rfl rfl rfl) fun _ => hset

theorem State.Running.handSuperframe (hs : s.Running) (b : Bool) :
    (s.handSuperframe b).Running := by
  refine keeps_ite (fun _ => ?_) fun _ => hs
  exact foldl_keeps (P := State.Running) (fun _ k hu => hu.countReferral k) _ _
    (hs.of_sameBounds { State.SameBounds.refl s with } rfl rfl rfl rfl)

theorem State.Running.frameStart (hs : s.Running) (first ended : Bool) (rx : LineOctets) :
    (s.frameStart first ended rx).InRange := by
  have hcounted : ({ s.settle with
      timing := s.settle.timing.counted first s.settle.pins.sfm } : State).Running :=
    hs.settle.of_sameBounds { State.SameBounds.refl _ with } rfl rfl rfl rfl
  exact ((hcounted.handFrame _ ended rx).handSuperframe _).range

/-! ## Entry into ACQUIRING -/

/-- What a frame start has handed on is taken before frames stop (R61, R123, R171). -/
theorem State.InRange.settled (hs : s.InRange) : s.settle.takeTimeouts.Runs
    (some s.timing.state) true true := by
  have happ : s.takeApplication.Runs (some s.timing.state) true false := by
    unfold State.takeApplication
    split
    · refine State.Runs.applyDue (s := { s with
        manager := { s.manager with applicationDue := false } }) ⟨?_, ?_, fun _ => rfl, ?_⟩
      · exact keptByWork_inRange.sides hs { State.SameWork.refl s with application := fun _ => rfl }
      · exact hs.runs.state
      · simp
    · next h => exact ⟨hs, hs.runs.state, fun _ => by simpa using h, by simp⟩
  have htick : s.settle.Runs (some s.timing.state) true true := by
    unfold State.settle State.takeTick
    split
    · refine State.Runs.leaseTick (s := { s.takeApplication with
        manager := { s.takeApplication.manager with tickDue := false } })
        ⟨?_, happ.state, happ.application, fun _ => rfl⟩
      exact keptByWork_inRange.sides happ.range
        { State.SameWork.refl _ with tick := fun _ => rfl }
    · next h => exact ⟨happ.range, happ.state, happ.application, fun _ => by simpa using h⟩
  exact (keptByWork_runs _ _ _).takeTimeouts htick

/-- Frames have stopped with nothing outstanding (R88, R95). -/
theorem State.InRange.stopFrames (hs : s.InRange) (ha : s.manager.applicationDue = false)
    (ht : s.manager.tickDue = false) (hto : s.manager.timeouts = []) (n : Nat) {tm : Timing}
    (hst : tm.state = .acquiring) (hr : tm.role ≠ .master) (hc : tm.consistency = 0)
    (hn : tm.holdoverCount ≤ 255) (hl : tm.holdoverLimit = s.timing.holdoverLimit) :
    ({ s.stopFrames n with timing := tm } : State).InRange := by
  have hlink : ∀ k, State.link { s.stopFrames n with timing := tm } k
      = { s.link k with arrived := false } := s.link_stopFrames n
  refine hs.of_sameBounds { State.SameBounds.refl s with links := fun k hk => ?_, ranges :=
    fun hr => ?_ }
    ?_ ?_ fun _ => ⟨ha, ht, hto, fun k => by rw [hlink]⟩
  · show tm.holdoverLimit ≠ 0 ∧ _
    rw [hl]
    exact hr
  · rw [hlink]; exact hk
  · exact iff_of_false hr (by simp [hst])
  · exact ⟨by simp [hc], hn, by simp [hst], by simp [hst]⟩

/-- Entry into ACQUIRING, with the timing that follows it (R88, R91, R98). -/
theorem State.InRange.enterAcquiring (hs : s.InRange) {n : Nat} (hn : n ≤ 255)
    {f : Timing → Timing} (hst : ∀ x, (f x).state = x.state)
    (hrole : ∀ x : Timing, (s.timing.state ≠ .freeRun → x.role ≠ .master) → (f x).role ≠ .master)
    (hc : ∀ x, (f x).consistency = x.consistency) (hh : ∀ x, (f x).holdoverCount = x.holdoverCount)
    (hl : ∀ x, (f x).holdoverLimit = x.holdoverLimit) :
    ({ s.enterAcquiring n with timing := f (s.enterAcquiring n).timing } : State).InRange := by
  have h := hs.settled
  refine h.range.stopFrames (h.application rfl) (h.tick rfl)
    (State.timeouts_takeTimeouts s.settle) n ?_ ?_ ?_ ?_ ?_
  · rw [hst]; rfl
  · refine hrole _ fun hfree => ?_
    have hr : s.settle.takeTimeouts.timing.role = .master
      ↔ s.settle.takeTimeouts.timing.state = .freeRun := h.range.role
    exact fun e => hfree ((h.state _ rfl).symm.trans (hr.mp e))
  · rw [hc]; rfl
  · rw [hh]; exact hn
  · rw [hl]; rfl

/-! ## The events of the Timing Unit -/

/-- A timing state is entered in which frames run, with the counts that it asks for (R91, R98). -/
theorem State.InRange.enterRunning (hs : s.InRange) {tm : Timing} (hst : tm.state ≠ .acquiring)
    (hr : tm.role = .master ↔ tm.state = .freeRun)
    (hc : ({ s with timing := tm } : State).TimingCounts)
    (hl : tm.holdoverLimit = s.timing.holdoverLimit) :
      ({ s with timing := tm } : State).Running where
  range := by
    refine hs.of_sameBounds { State.SameBounds.refl s with ranges := fun hr => ?_ } hr hc
      fun h => absurd h hst
    show tm.holdoverLimit ≠ 0 ∧ _
    rw [hl]
    exact hr
  runs := hst

theorem State.InRange.toMaster (hs : s.InRange) (rx : LineOctets) : (s.toMaster rx).InRange := by
  obtain ⟨hc, hh, -, -⟩ := hs.counts
  unfold State.toMaster
  refine keeps_ite (fun _ => hs) fun _ => State.Running.frameStart ?_ _ _ _
  have hrun := hs.enterRunning (tm := { s.timing with
    frameAt := s.timing.clock, clock := max s.timing.clock s.timing.clock
    state := .freeRun, role := .master }) (by simp) (by simp) ⟨hc, hh, by simp, by simp⟩ rfl
  exact hrun.of_sameBounds { State.SameBounds.refl _ with } rfl rfl rfl rfl

theorem State.InRange.role_ne (hs : s.InRange) (h : s.timing.state ≠ .freeRun) :
    s.timing.role ≠ .master := fun e => h (hs.role.mp e)

theorem State.InRange.toSlave (hs : s.InRange) : s.toSlave.InRange := by
  obtain ⟨-, hh, -, -⟩ := hs.counts
  unfold State.toSlave
  split
  · exact hs
  · exact hs.enterAcquiring (f := fun x => { x with role := .slave, frmBefore := true }) hh
      (fun _ => rfl) (fun _ _ => by simp) (fun _ => rfl) (fun _ => rfl) fun _ => rfl
  · next hst =>
    exact hs.enterAcquiring (f := id) hh (fun _ => rfl) (fun _ hx => hx (by simp [hst]))
      (fun _ => rfl) (fun _ => rfl) fun _ => rfl
  · next hst =>
    exact hs.enterAcquiring (f := id) (by omega) (fun _ => rfl) (fun _ hx => hx (by simp [hst]))
      (fun _ => rfl) (fun _ => rfl) fun _ => rfl

theorem State.InRange.acquirePulse (hs : s.InRange) (hst : s.timing.state = .acquiring) (p : Nat) :
    (s.acquirePulse p).InRange := by
  obtain ⟨-, hh, -, -⟩ := hs.counts
  have hrole := hs.role_ne (by simp [hst])
  unfold State.acquirePulse
  refine keeps_ite (fun _ => State.Running.frameStart ?_ _ _ _) fun hcount => ?_
  · have hrun := hs.enterRunning (tm := { s.timing with
      frameAt := p, clock := max s.timing.clock p
      state := .locked, holdoverCount := 0, consistency := 0, pulseAt := none }) (by simp)
      (iff_of_false hrole (by simp)) ⟨by simp, by simp, by simp, by simp⟩ rfl
    exact hrun.of_sameBounds { State.SameBounds.refl _ with } rfl rfl rfl rfl
  · have hle : s.timing.nextConsistency p ≤ 2 := by
      simp only [Config.pulsesToLock] at hcount
      omega
    exact hs.of_sameBounds { State.SameBounds.refl s with } hs.role
      ⟨hle, hh, fun h => absurd (hst.symm.trans h) (by simp),
        fun h => absurd (hst.symm.trans h) (by simp)⟩ hs.idle

/-- The frame about to begin falls at its place, and begins (R93, R97). -/
theorem State.Running.nextFrame (hs : s.Running) (rx : LineOctets) :
    ((s.frameFalls s.timing.expected).frameStart false true rx).InRange := by
  have hfalls : (s.frameFalls s.timing.expected).Running :=
    hs.of_sameBounds { State.SameBounds.refl s with } rfl rfl rfl rfl
  exact hfalls.frameStart _ _ _

theorem State.Running.toTimingState (hs : s.Running) {st : TimingState} {n : Nat}
    (h : st = .locked ∧ n = 0 ∨ st = .holdover ∧ 1 ≤ n ∧ n ≤ 255)
    (hst : s.timing.state = .locked ∨ s.timing.state = .holdover) :
    (s.toTimingState st n).Running := by
  have hrole := hs.range.role_ne (by rcases hst with e | e <;> simp [e])
  have hc : s.timing.consistency = 0 := by
    rcases hst with e | e
    · exact (hs.range.counts.2.2.1 e).2
    · exact (hs.range.counts.2.2.2 e).2
  have hcounts : State.TimingCounts { s with
      timing := { s.timing with state := st, holdoverCount := n } } := by
    rcases h with ⟨rfl, rfl⟩ | ⟨rfl, h1, h2⟩
    · simp [State.TimingCounts, hc]
    · simp only [State.TimingCounts, hc]
      exact ⟨by omega, h2, by simp, fun _ => ⟨h1, trivial⟩⟩
  have hrun := hs.range.enterRunning (tm := { s.timing with state := st, holdoverCount := n })
    (by rcases h with ⟨rfl, -⟩ | ⟨rfl, -⟩ <;> simp)
    (iff_of_false hrole (by rcases h with ⟨rfl, -⟩ | ⟨rfl, -⟩ <;> simp))
    hcounts rfl
  exact hrun.of_sameBounds { State.SameBounds.refl _ with } rfl rfl rfl rfl

theorem State.InRange.frameEnds (hs : s.InRange) (pulse : Bool) (rx : LineOctets) :
    (s.frameEnds pulse rx).InRange := by
  have hlimit : s.timing.holdoverLimit.toNat ≤ 255 := by
    have := s.timing.holdoverLimit.isLt
    omega
  unfold State.frameEnds
  dsimp only
  split
  · exact hs
  · next hst => exact State.Running.nextFrame ⟨hs, by simp [hst]⟩ rx
  · next hst =>
    have hrun : s.Running := ⟨hs, by simp [hst]⟩
    exact keeps_ite (fun _ => hrun.nextFrame rx) fun _ =>
      State.Running.nextFrame (hrun.toTimingState (.inr ⟨rfl, by omega, by omega⟩) (.inl hst)) rx
  · next hst =>
    have hrun : s.Running := ⟨hs, by simp [hst]⟩
    refine keeps_ite (fun _ => ?_) fun _ => keeps_ite (fun hle => ?_) fun _ => ?_
    · exact State.Running.nextFrame (hrun.toTimingState (.inl ⟨rfl, rfl⟩) (.inr hst)) rx
    · refine State.Running.nextFrame (hs.enterRunning (tm := { s.timing with
        holdoverCount := s.timing.holdoverCount + 1 }) (by simp [hst]) hs.role ?_ rfl) rx
      refine ⟨hs.counts.1, ?_, by simp [hst], fun _ => ⟨?_, (hs.counts.2.2.2 hst).2⟩⟩ <;>
        simp only <;> omega
    · exact hs.enterAcquiring (n := 0) (f := fun x => { x with
        clock := max x.clock s.timing.expected }) (by omega) (fun _ => rfl)
        (fun _ hx => hx (by simp [hst])) (fun _ => rfl) (fun _ => rfl) fun _ => rfl

theorem State.inRange_reset : State.reset.InRange where
  settings := resetIsInOrder.1
  role := resetIsInOrder.2.1
  counts := resetIsInOrder.2.2.1
  idle := resetIsInOrder.2.2.2.1
  links := resetIsInOrder.2.2.2.2.1
  queue := State.managerInOrder_reset.1
  attention := State.attentionCounted_reset
  fixed := State.controlSlotsFixed_reset

theorem keptByTiming_inRange : KeptByTiming State.InRange where
  deviceReset _ := { State.inRange_reset with }
  toMaster rx hs := hs.toMaster rx
  toSlave hs := hs.toSlave
  acquirePulse p hs hst := hs.acquirePulse hst p
  frameEnds pulse rx hs := hs.frameEnds pulse rx

/-- Settles O57: the Circuit Manager's work keeps every count within its range, and so do the events
of the Timing Unit, which take what is handed on before frames stop. -/
theorem everyStepKeepsCountsInRange : Obligations.EveryStepKeepsCountsInRange := by
  unfold Obligations.EveryStepKeepsCountsInRange
  intro s t h1 h2 h3 h4 h5 h6 h7 h8 hstep
  obtain ⟨g1, g2, g3, g4, g5, g6, g7, g8⟩ :=
    keptByWork_inRange.step keptByTiming_inRange ⟨h1, h2, h3, h4, h5, h6, h7, h8⟩ hstep
  exact ⟨g1, g2, g3, g4, g5, g6, g7, g8⟩

end Sys2Proof.Machine
end

-- ==== Proofs: claims and groups of one circuit ====
section
/-! SUPPORT. What a record claims in each state (R20, R21), and the facts about its groups on which
the egress program rests: they lie apart, so that a position has one group at most (R4, R32). -/

namespace Sys2Proof.Machine

-- The proofs are elaborated one after another: many at once take the text past its memory limit.
set_option Elab.async false

/-! ## The claims of a record, by its state -/

/-- A position is one of a record's source or destinations (R4). -/
def Record.names (r : Record) (p : Plane) (l q : Nat) : Bool :=
    inCircuit r.source r.dests r.width p l q

theorem Record.phaseAt_none {r : Record} (h : r.state = .free ∨ r.state = .retired) (p : Plane)
    (l q : Nat) : r.phaseAt p l q = none := by
  rcases h with h | h <;> simp [Record.phaseAt, h]

theorem Record.phaseAt_joining {r : Record} (h : r.state = .referred ∨ r.state = .opening)
    (p : Plane)
    (l q : Nat) : r.phaseAt p l q = if r.names p l q then some .joining else none := by
  rcases h with h | h <;> simp only [Record.phaseAt, h] <;> rfl

theorem Record.phaseAt_active {r : Record} (h : r.state = .active) (p : Plane) (l q : Nat) :
    r.phaseAt p l q = if r.names p l q then some .live else none := by
  simp only [Record.phaseAt, h]
  rfl

theorem Record.phaseAt_closing {r : Record} (h : r.state = .closing) (p : Plane) (l q : Nat) :
    r.phaseAt p l q = if r.names p l q then some .leaving else none := by
  simp only [Record.phaseAt, h]
  rfl

theorem Record.phaseAt_add {r : Record} {g : Group} {c : Cutover} {ca : Cause}
    (h : r.state = .altering) (hs : r.staged = some ⟨.add g, c, ca⟩) (p : Plane) (l q : Nat) :
    r.phaseAt p l q = if egressGroup g r.width p l q then some .joining
      else if r.names p l q then some .live else none := by
  simp only [Record.phaseAt, h, hs]
  rfl

theorem Record.phaseAt_drop {r : Record} {g : Group} {c : Cutover} {ca : Cause}
    (h : r.state = .altering) (hs : r.staged = some ⟨.drop g, c, ca⟩) (p : Plane) (l q : Nat) :
    r.phaseAt p l q = if egressGroup g r.width p l q then some .leaving
      else if r.names p l q then some .live else none := by
  simp only [Record.phaseAt, h, hs]
  rfl

theorem Record.phaseAt_move {r : Record} {src : Source} {c : Cutover} {ca : Cause}
    (h : r.state = .altering) (hs : r.staged = some ⟨.move src, c, ca⟩) (p : Plane) (l q : Nat) :
    r.phaseAt p l q = if sourceOutside (some src) r.source r.width p l q then some .joining
      else if sourceOutside r.source (some src) r.width p l q then some .leaving
      else if r.names p l q then some .live else none := by
  simp only [Record.phaseAt, h, hs]
  rfl

/-- What the switching reads of a record (R20, R32, R76). -/
def Record.circuitView (r : Record) :
    CircuitState × Option Source × Nat × List Group × Option Change :=
  (r.state, r.source, r.width, r.dests, r.staged.map Staged.change)

theorem Record.switching_congr {r r' : Record} (h : r'.circuitView = r.circuitView) :
    r'.phaseAt = r.phaseAt ∧ r'.groupsApart = r.groupsApart ∧ r'.programAt = r.programAt := by
  simp only [Record.circuitView, Prod.mk.injEq] at h
  obtain ⟨h1, h2, h3, h4, h5⟩ := h
  refine ⟨?_, ?_, ?_⟩
  · unfold Record.phaseAt; rw [h1, h2, h3, h4, h5]
  · unfold Record.groupsApart; rw [h3, h4, h5]
  · unfold Record.programAt; rw [h2, h3, h4]

/-! ## Groups that lie apart -/

theorem Group.overlaps_of_inGroup {g h : Group} {w l q : Nat} (hg : inGroup g w l q = true)
    (hh : inGroup h w l q = true) : g.overlaps h w = true := by
  simp only [inGroup, Bool.and_eq_true, beq_iff_eq, decide_eq_true_eq] at hg hh
  obtain ⟨⟨g1, g2⟩, g3⟩ := hg
  obtain ⟨⟨h1, h2⟩, h3⟩ := hh
  simp only [Group.overlaps, Bool.and_eq_true, beq_iff_eq, decide_eq_true_eq]
  exact ⟨⟨g1.symm.trans h1, by omega⟩, by omega⟩

theorem Group.overlaps_comm (g h : Group) (w : Nat) : g.overlaps h w = h.overlaps g w := by
  rw [Bool.eq_iff_iff]
  simp only [Group.overlaps, Bool.and_eq_true, beq_iff_eq, decide_eq_true_eq]
  constructor <;> rintro ⟨⟨a, b⟩, c⟩ <;> exact ⟨⟨a.symm, c⟩, b⟩

/-- No two places of a list hold groups that overlap (R32). -/
theorem anyOverlap_eq_false {w : Nat} {ds : List Group} :
    anyOverlap w ds = false ↔ ds.Pairwise fun g h => g.overlaps h w = false := by
  induction ds with
  | nil => simp [anyOverlap]
  | cons g rest ih => simp [anyOverlap, ih]

theorem Group.not_inGroup_of_apart {g : Group} {w l q : Nat} {ds : List Group}
    (h : ∀ d ∈ ds, g.overlaps d w = false) (hg : inGroup g w l q = true) :
    (ds.any fun d => inGroup d w l q) = false := by
  rw [List.any_eq_false]
  intro d hd hin
  have := Group.overlaps_of_inGroup hg hin
  rw [h d hd] at this
  cases this

/-- A position of one group of a record lies in no other of its groups (R32). -/
theorem Group.eq_of_inGroup {w l q : Nat} {ds : List Group} (h : anyOverlap w ds = false)
    {g d : Group}
    (hg : g ∈ ds) (hd : d ∈ ds) (hgin : inGroup g w l q = true) (hdin : inGroup d w l q = true) :
    g = d := by
  by_contra hne
  have hover := Group.overlaps_of_inGroup hgin hdin
  have hsymm : Std.Symm fun g h : Group => g.overlaps h w = false :=
    ⟨fun a b hab => (Group.overlaps_comm b a w).trans hab⟩
  have := (anyOverlap_eq_false.mp h).forall hg hd hne
  rw [this] at hover
  cases hover

theorem Record.apart_of_groupsApart {r : Record} (h : r.groupsApart = true) :
    anyOverlap r.width r.dests = false := by
  simp only [Record.groupsApart, Bool.and_eq_true, Bool.not_eq_true'] at h
  exact h.1

theorem Record.groupsApart_add {r : Record} {g : Group} {c : Cutover} {ca : Cause}
    (hs : r.staged = some ⟨.add g, c, ca⟩) : r.groupsApart = true ↔
      anyOverlap r.width r.dests = false ∧ ∀ d ∈ r.dests, g.overlaps d r.width = false := by
  simp [Record.groupsApart, hs]

theorem Record.groupsApart_drop {r : Record} {g : Group} {c : Cutover} {ca : Cause}
    (hs : r.staged = some ⟨.drop g, c, ca⟩) : r.groupsApart = true ↔
      anyOverlap r.width r.dests = false ∧ g ∈ r.dests := by
  simp [Record.groupsApart, hs]

/-- With neither an ADD nor a DROP staged, the destinations alone must lie apart. -/
theorem Record.groupsApart_of_apart {r : Record} (h : anyOverlap r.width r.dests = false)
    (hs : ∀ st ∈ r.staged, (∀ g, st.change ≠ .add g) ∧ ∀ g, st.change ≠ .drop g) :
    r.groupsApart = true := by
  unfold Record.groupsApart
  rw [h]
  cases hst : r.staged with
  | none => rfl
  | some st =>
    obtain ⟨h1, h2⟩ := hs st hst
    cases hc : st.change with
    | add g => exact absurd hc (h1 g)
    | drop g => exact absurd hc (h2 g)
    | activate | move src | deactivate => simp [hc]

/-! ## The egress program of a record -/

variable {s : State} {i : RecNo}

theorem Record.names_egress (r : Record) (l q : Nat) :
    r.names .egress l q = r.dests.any fun g => inGroup g r.width l q := rfl

theorem Record.names_ingress (r : Record) (l q : Nat) :
    r.names .ingress l q = inSource r.source r.width l q := rfl

/-- A position of a record's group carries the slot of the source that corresponds to it (R63). -/
theorem Record.programAt_of_inGroup {r : Record} {l q : Nat}
    (h : anyOverlap r.width r.dests = false)
    {g : Group} (hg : g ∈ r.dests) (hin : inGroup g r.width l q = true) :
    r.programAt l q = sourceEntry r.source (q - g.slot) := by
  cases hf : r.dests.find? fun g => inGroup g r.width l q with
  | none =>
    have := List.find?_eq_none.mp hf g hg
    exact absurd hin (by simpa using this)
  | some d =>
    have hd := List.find?_some hf
    rw [Record.programAt, hf, Group.eq_of_inGroup h (List.mem_of_find?_eq_some hf) hg hd hin]

/-- The program of every destination of a record, written to a source (R63, R66). -/
theorem State.programEntry_programAll {w : Nat} (src : Option Source) {l q : Nat} (hl : l < 8)
    (hq : q < 38) : ∀ (ds : List Group) (s : State), anyOverlap w ds = false →
      (s.programAll ds w src).programEntry l q =
        match ds.find? fun g => inGroup g w l q with
        | some g => sourceEntry src (q - g.slot)
        | none => s.programEntry l q
  | [], _, _ => rfl
  | g :: rest, s, h => by
    have hpair := List.pairwise_cons.mp (anyOverlap_eq_false.mp h)
    have ih := State.programEntry_programAll src hl hq rest (s.programGroup g w src)
      (anyOverlap_eq_false.mpr hpair.2)
    rw [State.programAll, List.foldl_cons, ← State.programAll, ih, List.find?_cons]
    cases hg : inGroup g w l q with
    | true =>
      have hrest : (rest.find? fun d => inGroup d w l q) = none := by
        rw [List.find?_eq_none]
        have := Group.not_inGroup_of_apart hpair.1 hg
        simpa using this
      rw [hrest, State.programEntry_programGroup s g w src hl hq, hg]
      rfl
    | false =>
      cases rest.find? fun d => inGroup d w l q with
      | some d => rfl
      | none =>
        rw [State.programEntry_programGroup s g w src hl hq, hg]
        rfl

theorem State.programEntry_clearAll {w l q : Nat} (hl : l < 8) (hq : q < 38) :
    ∀ (ds : List Group) (s : State), (s.clearAll ds w).programEntry l q =
      if (ds.any fun g => inGroup g w l q) = true then .noEntry else s.programEntry l q
  | [], _ => rfl
  | g :: rest, s => by
    rw [State.clearAll, List.foldl_cons, ← State.clearAll,
      State.programEntry_clearAll hl hq rest (s.clearGroup g w),
      State.programEntry_clearGroup s g w hl hq, List.any_cons]
    cases inGroup g w l q <;> cases rest.any fun d => inGroup d w l q <;> rfl

/-- Where a record's claim carries octets, the program is the record's (R76). -/
theorem State.Switching.programEntry_of_carries (hs : s.Switching) {l : Fin 8} {q : Fin 38}
    (h : carries (s.phase i .egress l q) = true) :
    s.programEntry l q = (s.record i).programAt l q := by
  rw [hs.program l q]
  cases hp : s.phase i .egress l q with
  | none => simp [hp, carries] at h
  | some ph => rw [State.programOf_of_phase hp, if_pos (hp ▸ h)]

theorem State.Switching.phase (hs : s.Switching) (i : RecNo) (p : Plane) (l : Fin 8) (q : Fin 40) :
    s.phase i p l q = (s.record i).phaseAt p l q := hs.claims i p l q

end Sys2Proof.Machine
end

-- ==== Proofs: the switching through each operation ====
section
/-! SUPPORT. The position map and the egress program follow the circuit table through each operation
of the Circuit Manager (R20, R21, R76): for the circuit it works on, its groups lie apart, its
claims are those of its new state, and the program follows them. -/

namespace Sys2Proof.Machine

-- The proofs are elaborated one after another: many at once take the text past its memory limit.
set_option Elab.async false

variable {s t : State} {i : RecNo} {k : LinkNo}

/-! ## Operations that leave the map, the program and the circuits -/

theorem State.Switching.of_views (hs : s.Switching) (hm : t.manager.map = s.manager.map)
    (hp : t.manager.program = s.manager.program)
    (hr : ∀ i, (t.record i).circuitView = (s.record i).circuitView) : t.Switching where
  fixed := by rw [State.ControlSlotsFixed, hm]; exact hs.fixed
  apart i := by rw [(Record.switching_congr (hr i)).2.1]; exact hs.apart i
  claims i p l q := by
    rw [State.entry_congr hm, (Record.switching_congr (hr i)).1]
    exact hs.claims i p l q
  program l q := by
    have hof : t.programOf l q = s.programOf l q := by
      cases hph : s.entry .egress l q with
      | claimed j ph =>
        have hs' : s.phase j .egress l q = some ph := by simp [State.phase, hph, PosEntry.phaseOf]
        have ht : t.phase j .egress l q = some ph := by
          rw [State.phase, State.entry_congr hm]; exact hs'
        rw [State.programOf_of_phase ht, State.programOf_of_phase hs',
          (Record.switching_congr (hr j)).2.2]
      | _ => simp only [State.programOf, State.entry_congr hm, hph]
    rw [State.programEntry_congr hp, hof]
    exact hs.program l q

theorem State.Switching.same (hs : s.Switching) (ht : t.manager.table = s.manager.table)
    (hm : t.manager.map = s.manager.map) (hp : t.manager.program = s.manager.program) :
    t.Switching := hs.of_views hm hp fun i => by rw [State.record_congr ht]

/-- The circuits of a state are those of another but for what the switching does not read of one. -/
theorem State.Switching.of_record (hs : s.Switching) (h : s.ActsOn i t)
    (hm : t.manager.map = s.manager.map) (hp : t.manager.program = s.manager.program)
    (hr : (t.record i).circuitView = (s.record i).circuitView) : t.Switching :=
  hs.of_views hm hp fun j => by
    by_cases hj : j = i
    · rw [hj, hr]
    · rw [h.records j hj]

/-! ## Acceptance -/

theorem State.Switching.dests_apart (hs : s.Switching) (i : RecNo) :
    anyOverlap (s.record i).width (s.record i).dests = false :=
  Record.apart_of_groupsApart (hs.apart i)

/-- The groups of a record have stayed, and the egress positions that carry octets (R76). -/
theorem State.Switching.of_sameGroups (hs : s.Switching) (h : s.ActsOn i t)
    (hsrc : (t.record i).source = (s.record i).source)
      (hw : (t.record i).width = (s.record i).width)
    (hd : (t.record i).dests = (s.record i).dests) (hg : (t.record i).groupsApart = true)
    (hc : ∀ (p : Plane) (l : Fin 8) (q : Fin 40), t.phase i p l q = (t.record i).phaseAt p l q)
    (hp : ∀ l q, t.programEntry l q = s.programEntry l q)
    (hcar : ∀ (l : Fin 8) (q : Fin 40),
      carries (t.phase i .egress l q) = carries (s.phase i .egress l q)) : t.Switching :=
  hs.of_sameProgram h hg hc hp hcar fun l q _ => by rw [Record.programAt, hsrc, hw, hd]; rfl

/-- Where every position that a test picks is OPEN, a claim takes them all (R19, R35). -/
theorem State.phase_claim_of_allOpen {picks : Plane → Nat → Nat → Bool} (h : s.AllOpen picks)
    (i : RecNo) (p : Plane) (l : Fin 8) (q : Fin 40) : (s.claim i picks).phase i p l q =
      if picks p l q = true then some .joining else s.phase i p l q := by
  rw [State.phase_claim]
  by_cases hp : picks p l q = true
  · rw [if_pos ⟨h p l q hp, hp⟩, if_pos hp]
  · rw [if_neg fun e => hp e.2, if_neg hp]

/-- A position that is OPEN is not claimed. -/
theorem State.phase_of_open {p : Plane} {l q : Nat} (h : s.entry p l q = .openPos) :
    s.phase i p l q = none := by rw [State.phase, h]; rfl

/-- An allocated record claims the positions of its OPEN (R10, R38, R40). -/
theorem State.Switching.allocate (hs : s.Switching) {f : OpenFields} (hm : s.MayOpen i f)
    (o : Owner)
    {st : CircuitState} (hst : st = .referred ∨ st = .opening) :
      (s.allocate i o f st).Switching := by
  have hrec : (s.allocate i o f st).record i = allocated (s.record i).generation o f st := by simp
  have hopen := hm.claims.allOpen hs.fixed
  have hold : ∀ (p : Plane) (l : Fin 8) (q : Fin 40), s.phase i p l q = none := fun p l q =>
    (hs.phase i p l q).trans (Record.phaseAt_none hm.old p l q)
  have hphase : ∀ (p : Plane) (l : Fin 8) (q : Fin 40), (s.allocate i o f st).phase i p l q
      = if inCircuit f.source f.dests f.width p l q then some .joining else none := by
    intro p l q
    rw [State.phase_allocate, hold]
    by_cases hp : inCircuit f.source f.dests f.width p l q = true
    · rw [if_pos ⟨hopen p l q hp, hp⟩, if_pos hp]
    · rw [if_neg fun e => hp e.2, if_neg hp]
  refine hs.of_sameProgram (s.actsOn_allocate i o f st) ?_ (fun p l q => ?_)
    (fun l q => s.programEntry_allocate i o f st l q) (fun l q => ?_) (fun l q hc => ?_)
  · rw [hrec]
    exact Record.groupsApart_of_apart hm.apart (by simp [allocated])
  · rw [hphase, hrec, Record.phaseAt_joining (r := allocated (s.record i).generation o f st) hst]
    rfl
  · rw [hphase, hold]
    split <;> rfl
  · rw [hold] at hc
    cases hc

theorem State.Switching.acceptOpen (hs : s.Switching) {f : OpenFields} (hm : s.MayOpen i f)
    (who : Requester) : (s.acceptOpen i who f).Switching := by
  have halloc := hs.allocate hm who.owner (st := .opening) (.inr rfl)
  have hrec := s.record_acceptOpen i who f
  have hacts : (s.allocate i who.owner f .opening).ActsOn i (s.acceptOpen i who f) :=
    (State.actsOn_stage _ i _ _ _).trans (State.actsOn_attend _ i who)
  have hphase : ∀ p l q, (s.acceptOpen i who f).phase i p l q
      = (s.allocate i who.owner f .opening).phase i p l q := by simp [State.acceptOpen]
  refine halloc.of_sameGroups hacts ?_ ?_ ?_ ?_ (fun p l q => ?_) (fun l q => ?_) fun l q => ?_
  · rw [hrec]; simp [allocated]
  · rw [hrec]; simp [allocated]
  · rw [hrec]; simp [allocated]
  · rw [hrec]
    exact Record.groupsApart_of_apart hm.apart fun st hst => by
      cases hst
      simp
  · have hopening : ((s.acceptOpen i who f).record i).state = .opening := by rw [hrec]; rfl
    rw [hphase, halloc.phase, Record.phaseAt_joining (.inr hopening),
      Record.phaseAt_joining (.inr (by simp [allocated])), hrec, State.record_allocate, if_pos rfl]
    rfl
  · simp [State.acceptOpen]
  · rw [hphase]

theorem State.Switching.acceptAdd (hs : s.Switching) {g : Group} (hm : s.MayAdd i g)
    (who : Requester) (c : Cutover) : (s.acceptAdd i who g c).Switching := by
  have hrec := s.record_acceptAdd i who g c
  have hopen := hm.claims.allOpen hs.fixed
  have hphase : ∀ (p : Plane) (l : Fin 8) (q : Fin 40), (s.acceptAdd i who g c).phase i p l q
      = if egressGroup g (s.record i).width p l q = true then some .joining
        else s.phase i p l q := fun p l q => by
    rw [← State.phase_claim_of_allOpen hopen]
    simp [State.acceptAdd]
  refine hs.of_sameGroups (s.stages_acceptAdd i who g c).acts ?_ ?_ ?_ ?_ (fun p l q => ?_)
    (fun l q => ?_) fun l q => ?_
  · rw [hrec]
  · rw [hrec]
  · rw [hrec]
  · rw [Record.groupsApart_add (by rw [hrec]), hrec]
    exact ⟨hs.dests_apart i, hm.apart⟩
  · rw [hphase, hs.phase, Record.phaseAt_active hm.state,
      Record.phaseAt_add (by rw [hrec]) (by rw [hrec]), hrec]
    rfl
  · simp [State.acceptAdd]
  · rw [hphase]
    split
    · next hp => rw [State.phase_of_open (hopen .egress l q hp)]; rfl
    · rfl

/-- A group of a record's destinations is named by it (R4). -/
theorem Record.names_of_egressGroup {r : Record} {g : Group} (hg : g ∈ r.dests) {p : Plane}
    {l q : Nat} (h : egressGroup g r.width p l q = true) : r.names p l q = true := by
  cases p with
  | ingress => cases h
  | egress => exact List.any_eq_true.mpr ⟨g, hg, h⟩

theorem State.Switching.acceptDrop (hs : s.Switching) {g : Group}
    (hst : (s.record i).state = .active) (hg : g ∈ (s.record i).dests) (who : Requester)
    (c : Cutover) : (s.acceptDrop i who g c).Switching := by
  have hrec := s.record_acceptDrop i who g c
  have hphase : ∀ (p : Plane) (l : Fin 8) (q : Fin 40), (s.acceptDrop i who g c).phase i p l q
      = if egressGroup g (s.record i).width p l q = true then some .leaving
        else s.phase i p l q := fun p l q => by
    have hlive : egressGroup g (s.record i).width p l q = true → s.phase i p l q = some .live := by
      intro hp
      rw [hs.phase, Record.phaseAt_active hst, if_pos (Record.names_of_egressGroup hg hp)]
    simp only [State.acceptDrop, State.phase_attend, State.phase_setCircuitState, State.phase_stage,
      State.phase_rephase, PosEntry.phaseOf_claimed]
    by_cases hp : egressGroup g (s.record i).width p l q = true
    · rw [if_pos ⟨hlive hp, hp⟩, if_pos hp]
    · rw [if_neg fun e => hp e.2, if_neg hp]
  refine hs.of_sameGroups (s.stages_acceptDrop i who g c).acts ?_ ?_ ?_ ?_ (fun p l q => ?_)
    (fun l q => ?_) fun l q => ?_
  · rw [hrec]
  · rw [hrec]
  · rw [hrec]
  · rw [Record.groupsApart_drop (by rw [hrec]), hrec]
    exact ⟨hs.dests_apart i, hg⟩
  · rw [hphase, hs.phase, Record.phaseAt_active hst,
      Record.phaseAt_drop (by rw [hrec]) (by rw [hrec]), hrec]
    rfl
  · simp [State.acceptDrop]
  · rw [hphase, hs.phase, Record.phaseAt_active hst]
    split
    · next hp => rw [if_pos (Record.names_of_egressGroup hg hp)]; rfl
    · rfl

/-- The old source outside the new one, position by position (R21). -/
theorem sourceOutside_ingress (a b : Option Source) (w l q : Nat) :
    sourceOutside a b w .ingress l q = (inSource a w l q && !inSource b w l q) := rfl

theorem sourceOutside_egress (a b : Option Source) (w l q : Nat) :
    sourceOutside a b w .egress l q = false := rfl

theorem State.Switching.acceptMove (hs : s.Switching) {src : Source} (hm : s.MayMove i src)
    (c : Cutover) : (s.acceptMove i src c).Switching := by
  have hrec := s.record_acceptMove i src c
  have hopen := hm.claims.allOpen hs.fixed
  have hphase : ∀ (p : Plane) (l : Fin 8) (q : Fin 40), (s.acceptMove i src c).phase i p l q
      = if sourceOutside (some src) (s.record i).source (s.record i).width p l q = true then
          some .joining
        else if sourceOutside (s.record i).source (some src) (s.record i).width p l q = true then
          some .leaving
        else s.phase i p l q := fun p l q => by
    have hold : s.phase i p l q = if (s.record i).names p l q then some .live else none := by
      rw [hs.phase, Record.phaseAt_active hm.state]
    have hclaim := State.phase_claim_of_allOpen hopen i p l q
    simp only [State.acceptMove, State.phase_setCircuitState, State.phase_stage,
      State.phase_rephase, PosEntry.phaseOf_claimed, hclaim, hold]
    cases p with
    | egress => simp [sourceOutside_egress]
    | ingress =>
      simp only [sourceOutside_ingress, Record.names_ingress]
      by_cases hnew : inSource (some src) (s.record i).width l q = true <;>
        by_cases hold : inSource (s.record i).source (s.record i).width l q = true <;>
        simp [hnew, hold]
  refine hs.of_sameGroups (s.stages_acceptMove i src c).acts ?_ ?_ ?_ ?_ (fun p l q => ?_)
    (fun l q => rfl) fun l q => ?_
  · rw [hrec]
  · rw [hrec]
  · rw [hrec]
  · rw [hrec]
    exact Record.groupsApart_of_apart (hs.dests_apart i) fun st hst => by
      cases hst
      simp
  · rw [hphase, hs.phase, Record.phaseAt_active hm.state,
      Record.phaseAt_move (by rw [hrec]) (by rw [hrec]), hrec]
    rfl
  · rw [hphase]
    simp [sourceOutside_egress]

/-- Every LIVE claim of an ACTIVE record goes to LEAVING, and the record to CLOSING (R44, R75). -/
theorem State.Switching.close (hs : s.Switching) (hst : (s.record i).state = .active)
    (h : s.ActsOn i t) (hr : (t.record i).circuitView = (.closing, (s.record i).source,
      (s.record i).width, (s.record i).dests, some .deactivate))
    (hphase : ∀ p l q, t.phase i p l q
      = (s.rephase i everywhere .live (.claimed i .leaving)).phase i p l q)
    (hp : ∀ l q, t.programEntry l q = s.programEntry l q) : t.Switching := by
  simp only [Record.circuitView, Prod.mk.injEq] at hr
  obtain ⟨hstate, hsrc, hw, hd, hstg⟩ := hr
  have hold : ∀ (p : Plane) (l : Fin 8) (q : Fin 40), s.phase i p l q
      = if (s.record i).names p l q then some .live else none := fun p l q => by
    rw [hs.phase, Record.phaseAt_active hst]
  have hnew : ∀ (p : Plane) (l : Fin 8) (q : Fin 40), t.phase i p l q
      = if (s.record i).names p l q then some .leaving else none := fun p l q => by
    rw [hphase, State.phase_rephase, hold]
    cases (s.record i).names p l q <;> simp [everywhere]
  refine hs.of_sameGroups h hsrc hw hd ?_ (fun p l q => ?_) hp fun l q => ?_
  · refine Record.groupsApart_of_apart ?_ fun st hst' => ?_
    · rw [hw, hd]; exact hs.dests_apart i
    · rw [Option.mem_def.mp hst'] at hstg
      have hch : st.change = .deactivate := by simpa using hstg
      simp [hch]
  · have hnames : (t.record i).names = (s.record i).names := by
      unfold Record.names
      rw [hsrc, hw, hd]
    rw [hnew, Record.phaseAt_closing hstate, hnames]
  · rw [hnew, hold]
    cases (s.record i).names .egress l q <;> rfl

theorem State.Switching.releaseActive (hs : s.Switching) (hst : (s.record i).state = .active)
    (who : Requester) (c : Cutover) : (s.releaseActive i who c).Switching :=
  hs.close hst (s.stages_releaseActive i who c).acts
    (by rw [State.record_releaseActive]; rfl) (by simp [State.releaseActive])
    (by simp [State.releaseActive])

theorem State.Switching.stageExpiry (hs : s.Switching) (hst : (s.record i).state = .active) :
    (s.stageExpiry i).Switching :=
  hs.close hst (s.stages_stageExpiry i).acts (by rw [State.record_stageExpiry]; rfl)
    (by simp [State.stageExpiry]) (by simp [State.stageExpiry])

theorem State.Switching.serveWaiting (hs : s.Switching) (n : Nat) :
    (s.serveWaiting n).Switching :=
  State.serveWaiting_keeps
    (fun _ _ hu _ hw => hu.stageExpiry ((Record.waits_iff _).mp hw).1) n s hs

/-! ## Endings -/

/-- A record that carries nothing goes to FREE or to RETIRED and claims nothing any more (R11, R12).
-/
theorem State.Switching.ended (hs : s.Switching) (h : s.ActsOn i t)
    (hcar : ∀ (l : Fin 8) (q : Fin 40), carries (s.phase i .egress l q) = false)
    (hst : (t.record i).state = .free ∨ (t.record i).state = .retired)
    (hg : (t.record i).groupsApart = true)
    (hphase : ∀ (p : Plane) (l : Fin 8) (q : Fin 40), t.phase i p l q = none)
    (hp : ∀ l q, t.programEntry l q = s.programEntry l q) : t.Switching := by
  refine hs.of_sameProgram h hg (fun p l q => ?_) hp (fun l q => ?_) fun l q hc => ?_
  · rw [hphase, Record.phaseAt_none hst]
  · rw [hphase, hcar]; rfl
  · rw [hcar] at hc; cases hc

/-- In OPENING, REFERRED, FREE and RETIRED no position carries octets for the record (R20). -/
theorem State.Switching.carries_eq_false (hs : s.Switching)
    (hst : (s.record i).state = .opening ∨ (s.record i).state = .referred
      ∨ (s.record i).state = .retired) (l : Fin 8) (q : Fin 40) :
    carries (s.phase i .egress l q) = false := by
  rw [hs.phase]
  rcases hst with h | h | h
  · rw [Record.phaseAt_joining (.inr h)]; split <;> rfl
  · rw [Record.phaseAt_joining (.inl h)]; split <;> rfl
  · rw [Record.phaseAt_none (.inr h)]; rfl

theorem groupsApart_free (g : Byte) : Record.groupsApart { generation := g } = true := rfl

/-- A RETIRED record has nothing staged, and the groups that it had. -/
theorem Record.groupsApart_retired {r r' : Record} (h : r.groupsApart = true)
    (hd : r'.dests = r.dests) (hw : r'.width = r.width) (hs : r'.staged = none) :
    r'.groupsApart = true :=
  Record.groupsApart_of_apart (by rw [hd, hw]; exact Record.apart_of_groupsApart h) (by simp [hs])

theorem State.Switching.freeRecord (hs : s.Switching)
    (hst : (s.record i).state = .opening ∨ (s.record i).state = .referred
      ∨ (s.record i).state = .retired) : (s.freeRecord i).Switching := by
  have hrec : (s.freeRecord i).record i = { generation := (s.record i).generation } := by
    simp [State.record_freeRecord]
  exact hs.ended (s.actsOn_freeRecord i) (hs.carries_eq_false hst) (.inl (by rw [hrec]))
    (by rw [hrec]; exact groupsApart_free _) (by simp) (by simp)

theorem State.Switching.freeOpening (hs : s.Switching) (hst : (s.record i).state = .opening) :
    (s.freeOpening i).Switching :=
  hs.ended (s.actsOn_freeOpening i) (hs.carries_eq_false (.inl hst))
    (.inl (by rw [State.record_freeOpening])) (by rw [State.record_freeOpening]; rfl)
    (by simp [State.freeOpening]) (by simp [State.freeOpening])

theorem State.Switching.retireOpening (hs : s.Switching) (hst : (s.record i).state = .opening) :
    (s.retireOpening i).Switching := by
  have hrec := State.record_retireOpening (s := s) (i := i)
  refine hs.ended (s.leaves_retireOpening i).acts (hs.carries_eq_false (.inl hst))
    (.inr (by rw [hrec])) ?_ (by simp [State.retireOpening]) (by simp [State.retireOpening])
  exact Record.groupsApart_retired (hs.apart i) (by rw [hrec]) (by rw [hrec]) (by rw [hrec])

theorem State.Switching.expireOpening (hs : s.Switching) (hst : (s.record i).state = .opening) :
    (s.expireOpening i).Switching := by
  have hrec := s.record_expireOpening i
  refine hs.ended (s.leaves_expireOpening i).acts (hs.carries_eq_false (.inl hst))
    (.inr (by rw [hrec])) ?_ (by simp [State.expireOpening_eq]) (by simp [State.expireOpening_eq])
  exact Record.groupsApart_retired (hs.apart i) (by rw [hrec]) (by rw [hrec]) (by rw [hrec])

/-! ## Withdrawal of a change -/

/-- A record in ALTERING or CLOSING whose change is withdrawn claims what it names, LIVE (R70). -/
theorem State.Switching.phase_withdrawn (hs : s.Switching) (hq : s.StagedMatches i)
    (hst : (s.record i).state = .altering ∨ (s.record i).state = .closing) (p : Plane) (l : Fin 8)
    (q : Fin 40) : (s.withdrawClaims i).phase i p l q
      = if (s.record i).names p l q then some .live else none := by
  rw [State.phase_withdrawClaims, hs.phase]
  rcases hst with ha | hc
  · obtain ⟨⟨ch, cu, ca⟩, hstg, hkind⟩ := hq.staged_of_altering ha
    rcases hkind with ⟨g, rfl⟩ | ⟨g, rfl⟩ | ⟨src, rfl⟩
    · have hapart := ((Record.groupsApart_add hstg).mp (hs.apart i)).2
      rw [Record.phaseAt_add ha hstg]
      by_cases hp : egressGroup g (s.record i).width p l q = true
      · have hnot : (s.record i).names p l q = false := by
          cases p with
          | ingress => cases hp
          | egress => exact Group.not_inGroup_of_apart hapart hp
        simp [hp, hnot]
      · cases (s.record i).names p l q <;> simp [hp]
    · have hg := ((Record.groupsApart_drop hstg).mp (hs.apart i)).2
      rw [Record.phaseAt_drop ha hstg]
      by_cases hp : egressGroup g (s.record i).width p l q = true
      · simp [hp, Record.names_of_egressGroup hg hp]
      · cases (s.record i).names p l q <;> simp [hp]
    · rw [Record.phaseAt_move ha hstg]
      cases p with
      | egress =>
        simp only [sourceOutside_egress]
        cases (s.record i).names .egress l q <;> simp
      | ingress =>
        simp only [sourceOutside_ingress, Record.names_ingress]
        by_cases hnew : inSource (some src) (s.record i).width l q = true <;>
          by_cases hold : inSource (s.record i).source (s.record i).width l q = true <;>
          simp [hnew, hold]
  · rw [Record.phaseAt_closing hc]
    cases (s.record i).names p l q <;> rfl

/-- What carries octets for a record in ALTERING or CLOSING is what its destinations name (R20,
R76). -/
theorem State.Switching.carries_eq_names (hs : s.Switching) (hq : s.StagedMatches i)
    (hst : (s.record i).state = .altering ∨ (s.record i).state = .closing) (l : Fin 8)
      (q : Fin 40) :
    carries (s.phase i .egress l q) = (s.record i).names .egress l q := by
  have h := hs.phase_withdrawn hq hst .egress l q
  rw [State.phase_withdrawClaims] at h
  rcases hph : s.phase i .egress l q with _ | ⟨_ | _ | _⟩ <;> rw [hph] at h <;>
    cases hn : (s.record i).names .egress l q <;> simp [hn] at h <;> rfl

theorem State.Switching.cancelled (hs : s.Switching) (hq : s.StagedMatches i)
    (hst : (s.record i).state = .altering ∨ (s.record i).state = .closing) :
    (s.cancelled i).Switching := by
  have hrec := s.record_cancelled i
  have hphase : ∀ (p : Plane) (l : Fin 8) (q : Fin 40), (s.cancelled i).phase i p l q
      = if (s.record i).names p l q then some .live else none := fun p l q => by
    rw [← hs.phase_withdrawn hq hst]
    simp [State.cancelled]
  refine hs.of_sameGroups (s.actsOn_cancelled i) ?_ ?_ ?_ ?_ (fun p l q => ?_) (fun l q => ?_)
    fun l q => ?_
  · rw [hrec]
  · rw [hrec]
  · rw [hrec]
  · exact Record.groupsApart_retired (hs.apart i) (by rw [hrec]) (by rw [hrec]) (by rw [hrec])
  · rw [hphase, Record.phaseAt_active (by rw [hrec]), hrec]
    rfl
  · simp [State.cancelled]
  · rw [hphase, hs.carries_eq_names hq hst]
    cases (s.record i).names .egress l q <;> rfl

theorem State.Switching.expireAltering (hs : s.Switching) (hq : s.StagedMatches i)
    (hst : (s.record i).state = .altering) : (s.expireAltering i).Switching := by
  have hrec := s.record_expireAltering i
  have hphase : ∀ (p : Plane) (l : Fin 8) (q : Fin 40), (s.expireAltering i).phase i p l q
      = if (s.record i).names p l q then some .leaving else none := fun p l q => by
    have h := hs.phase_withdrawn hq (.inl hst) p l q
    simp only [State.expireAltering_eq, State.phase_withdrawn, State.phase_setRecord,
      State.phase_rewriteEntry, State.phase_rephase, h]
    cases (s.record i).names p l q <;> simp [everywhere]
  refine hs.of_sameGroups (s.actsOn_expireAltering i) ?_ ?_ ?_ ?_ (fun p l q => ?_) (fun l q => ?_)
    fun l q => ?_
  · rw [hrec]
  · rw [hrec]
  · rw [hrec]
  · rw [hrec]
    exact Record.groupsApart_of_apart (hs.dests_apart i) fun st hst => by
      cases hst
      simp
  · rw [hphase, Record.phaseAt_closing (by rw [hrec]), hrec]
    rfl
  · simp [State.expireAltering_eq]
  · rw [hphase, hs.carries_eq_names hq (.inl hst)]
    cases (s.record i).names .egress l q <;> rfl

theorem State.Switching.expire (hs : s.Switching) (hq : s.StagedMatches i) :
    (s.expire i).Switching := by
  unfold State.expire
  split
  · next hst => exact hs.expireOpening hst
  · next hst => exact hs.expireAltering hq hst
  · exact hs

end Sys2Proof.Machine
end

-- ==== Proofs: the switching through the application of a change ====
section
/-! SUPPORT. The position map and the egress program follow the circuit table through the
application of each kind of change (R63 to R67), and so through every step. -/

namespace Sys2Proof.Machine

-- The proofs are elaborated one after another: many at once take the text past its memory limit.
set_option Elab.async false

variable {s t : State} {i : RecNo} {k : LinkNo}

/-! ## Names and program after a change of groups -/

theorem Record.exists_inGroup {r : Record} {l q : Nat} (h : r.names .egress l q = true) :
    ∃ d ∈ r.dests, inGroup d r.width l q = true := List.any_eq_true.mp h

/-- The program of a record's destinations is written to a source (R63, R66). -/
theorem State.programEntry_programAll_record (s : State) (r : Record) (src : Option Source)
    {l q : Nat}
    (hl : l < 8) (hq : q < 38) (h : anyOverlap r.width r.dests = false) :
    (s.programAll r.dests r.width src).programEntry l q =
      if r.names .egress l q then ({ r with source := src } : Record).programAt l q
      else s.programEntry l q := by
  rw [State.programEntry_programAll src hl hq r.dests s h]
  cases hf : r.dests.find? fun g => inGroup g r.width l q with
  | none =>
    have hn : r.names .egress l q = false := by
      rw [Record.names_egress, List.any_eq_false]
      simpa using List.find?_eq_none.mp hf
    rw [hn]
    rfl
  | some d =>
    have hn : r.names .egress l q = true :=
      List.any_eq_true.mpr ⟨d, List.mem_of_find?_eq_some hf, by simpa using List.find?_some hf⟩
    rw [hn, Record.programAt, hf]
    rfl

/-- The groups of a record with one more that lies apart from them (R41, R64). -/
theorem anyOverlap_append {w : Nat} {ds : List Group} {g : Group} (h : anyOverlap w ds = false)
    (hg : ∀ d ∈ ds, g.overlaps d w = false) : anyOverlap w (ds ++ [g]) = false := by
  rw [anyOverlap_eq_false, List.pairwise_append]
  refine ⟨anyOverlap_eq_false.mp h, List.pairwise_singleton _ _, fun a ha b hb => ?_⟩
  rw [List.mem_singleton.mp hb, Group.overlaps_comm]
  exact hg a ha

theorem Record.names_append (r : Record) (g : Group) (p : Plane) (l q : Nat) :
    ({ r with dests := r.dests ++ [g] } : Record).names p l q
      = (egressGroup g r.width p l q || r.names p l q) := by
  cases p with
  | ingress => rfl
  | egress => simp [Record.names_egress, egressGroup, Bool.or_comm]

/-- The groups of a record without one of them (R42, R65). -/
theorem anyOverlap_filter {w : Nat} {ds : List Group} (h : anyOverlap w ds = false)
    (p : Group → Bool) : anyOverlap w (ds.filter p) = false :=
  anyOverlap_eq_false.mpr ((anyOverlap_eq_false.mp h).sublist List.filter_sublist)

theorem Record.names_filter {r : Record} (h : anyOverlap r.width r.dests = false) {g : Group}
    (hg : g ∈ r.dests) (p : Plane) (l q : Nat) :
    ({ r with dests := r.dests.filter fun d => d ≠ g } : Record).names p l q
      = (!egressGroup g r.width p l q && r.names p l q) := by
  cases p with
  | ingress => rfl
  | egress =>
    show _ = (!inGroup g r.width l q && _)
    simp only [Record.names_egress]
    rw [Bool.eq_iff_iff]
    simp only [List.any_eq_true, List.mem_filter, decide_eq_true_eq, Bool.and_eq_true,
      Bool.not_eq_true']
    constructor
    · rintro ⟨d, ⟨hd, hne⟩, hin⟩
      refine ⟨?_, d, hd, hin⟩
      rw [← Bool.not_eq_true]
      exact fun hgin => hne (Group.eq_of_inGroup h hd hg hin hgin)
    · rintro ⟨hgin, d, hd, hin⟩
      refine ⟨d, ⟨hd, ?_⟩, hin⟩
      rintro rfl
      rw [hin] at hgin
      cases hgin

/-- Two records of one source and width name the same source slot for a group that both hold (R63).
-/
theorem Record.programAt_eq {r r' : Record} (h : anyOverlap r.width r.dests = false)
    (h' : anyOverlap r'.width r'.dests = false) (hs : r'.source = r.source)
      (hw : r'.width = r.width)
    {d : Group} {l q : Nat} (hd : d ∈ r.dests) (hd' : d ∈ r'.dests)
    (hin : inGroup d r.width l q = true) : r'.programAt l q = r.programAt l q := by
  rw [Record.programAt_of_inGroup h hd hin, Record.programAt_of_inGroup h' hd' (hw ▸ hin), hs]

/-! ## The application of each kind -/

/-- A claim of an ACTIVE record carries octets where its destinations name the position. -/
theorem carries_live (b : Bool) : carries (if b = true then some .live else none) = b := by
  cases b <;> rfl

theorem State.Switching.applyActivate (hs : s.Switching) (hst : (s.record i).state = .opening)
    (f : FrameInfo) : (s.applyActivate i f).Switching := by
  have hrec := s.record_applyActivate i f
  have hap := hs.dests_apart i
  have hphase : ∀ (p : Plane) (l : Fin 8) (q : Fin 40), (s.applyActivate i f).phase i p l q
      = if (s.record i).names p l q then some .live else none := fun p l q => by
    simp only [State.applyActivate, State.phase_notifyOwner, State.phase_setRecord,
      State.phase_programAll, State.phase_rephase, hs.phase, Record.phaseAt_joining (.inr hst)]
    cases (s.record i).names p l q <;> simp [everywhere]
  refine hs.of_actsOn (s.applies_applyActivate i f).acts ?_ (fun p l q => ?_) fun l q => ?_
  · rw [hrec]
    exact Record.groupsApart_of_apart hap (by simp)
  · rw [hphase, Record.phaseAt_active (by rw [hrec]), hrec]
    rfl
  · have hcar := hs.carries_eq_false (.inl hst) l ⟨q, by omega⟩
    have hnew := hphase .egress l ⟨q, by omega⟩
    simp only at hcar hnew
    rw [hnew, carries_live, hcar, hrec]
    have hprog : (s.applyActivate i f).programEntry l q = ((s.rephase i everywhere .joining
        (.claimed i .live)).programAll (s.record i).dests (s.record i).width
          (s.record i).source).programEntry l q := by simp [State.applyActivate]
    rw [hprog, State.programEntry_programAll_record _ _ _ l.isLt q.isLt hap,
      State.programEntry_rephase]
    rfl

theorem State.Switching.applyAdd (hs : s.Switching) {g : Group} {c : Cutover} {ca : Cause}
    (hst : (s.record i).state = .altering) (hstg : (s.record i).staged = some ⟨.add g, c, ca⟩)
    (c' : Cause) : (s.applyAdd i g c').Switching := by
  have hrec := s.record_applyAdd i g c'
  obtain ⟨hap, hgap⟩ := (Record.groupsApart_add hstg).mp (hs.apart i)
  have hap' := anyOverlap_append hap hgap
  have hphase : ∀ (p : Plane) (l : Fin 8) (q : Fin 40), (s.applyAdd i g c').phase i p l q
      = if (egressGroup g (s.record i).width p l q || (s.record i).names p l q) then some .live
        else none := fun p l q => by
    simp only [State.applyAdd, State.phase_tellAltered, State.phase_setRecord,
      State.phase_programGroup, State.phase_rephase, hs.phase, Record.phaseAt_add hst hstg]
    cases egressGroup g (s.record i).width p l q <;> cases (s.record i).names p l q <;> simp
  refine hs.of_actsOn (s.applies_applyAdd i g c').acts ?_ (fun p l q => ?_) fun l q => ?_
  · rw [hrec]
    exact Record.groupsApart_of_apart hap' (by simp)
  · rw [hphase, Record.phaseAt_active (by rw [hrec]), hrec, ← Record.names_append]
    rfl
  · have hnew := hphase .egress l ⟨q, by omega⟩
    have hold := hs.phase i .egress l ⟨q, by omega⟩
    rw [Record.phaseAt_add hst hstg] at hold
    simp only at hnew hold
    have hprog : (s.applyAdd i g c').programEntry l q
        = if inGroup g (s.record i).width l q then
            sourceEntry (s.record i).source (q - g.slot)
          else s.programEntry l q := by
      rw [← State.programEntry_rephase s i (egressGroup g (s.record i).width) .joining
        (.claimed i .live), ← State.programEntry_programGroup _ g _ _ l.isLt q.isLt]
      simp [State.applyAdd]
    rw [hnew, carries_live, hprog, hrec]
    cases hg : inGroup g (s.record i).width l q with
    | true =>
      have hat := Record.programAt_of_inGroup (r := { s.record i with
        state := .active, staged := none, dests := (s.record i).dests ++ [g] }) hap'
        (by simp : g ∈ (s.record i).dests ++ [g]) hg
      simp [egressGroup, hg, hat]
    | false =>
      cases hn : (s.record i).names .egress l q with
      | true =>
        obtain ⟨d, hd, hin⟩ := Record.exists_inGroup hn
        have hat := Record.programAt_eq (r := s.record i) (r' := { s.record i with
          state := .active, staged := none, dests := (s.record i).dests ++ [g] }) hap hap' rfl rfl
          hd (by simp [hd] : d ∈ (s.record i).dests ++ [g]) hin
        have hcar : carries (s.phase i .egress l q) = true := by
          simp [hold, egressGroup, hg, hn, carries]
        simp [egressGroup, hg, hat, hs.programEntry_of_carries hcar]
      | false => simp [egressGroup, hg, hold, hn, carries]

theorem State.Switching.applyDrop (hs : s.Switching) {g : Group} {c : Cutover} {ca : Cause}
    (hst : (s.record i).state = .altering) (hstg : (s.record i).staged = some ⟨.drop g, c, ca⟩)
    (c' : Cause) : (s.applyDrop i g c').Switching := by
  have hrec := s.record_applyDrop i g c'
  obtain ⟨hap, hg⟩ := (Record.groupsApart_drop hstg).mp (hs.apart i)
  have hap' := anyOverlap_filter hap fun d => d ≠ g
  have hphase : ∀ (p : Plane) (l : Fin 8) (q : Fin 40), (s.applyDrop i g c').phase i p l q
      = if (!egressGroup g (s.record i).width p l q && (s.record i).names p l q) then some .live
        else none := fun p l q => by
    simp only [State.applyDrop, State.phase_tellAltered, State.phase_setRecord,
      State.phase_clearGroup, State.phase_rephase, hs.phase, Record.phaseAt_drop hst hstg]
    cases egressGroup g (s.record i).width p l q <;> cases (s.record i).names p l q <;> simp
  refine hs.of_actsOn (s.applies_applyDrop i g c').acts ?_ (fun p l q => ?_) fun l q => ?_
  · rw [hrec]
    exact Record.groupsApart_of_apart hap' (by simp)
  · rw [hphase, Record.phaseAt_active (by rw [hrec]), hrec, ← Record.names_filter hap hg]
    rfl
  · have hnew := hphase .egress l ⟨q, by omega⟩
    have hold := hs.phase i .egress l ⟨q, by omega⟩
    rw [Record.phaseAt_drop hst hstg] at hold
    simp only at hnew hold
    have hprog : (s.applyDrop i g c').programEntry l q
        = if inGroup g (s.record i).width l q then .noEntry else s.programEntry l q := by
      rw [← State.programEntry_rephase s i (egressGroup g (s.record i).width) .leaving .openPos,
        ← State.programEntry_clearGroup _ g _ l.isLt q.isLt]
      simp [State.applyDrop]
    rw [hnew, carries_live, hprog, hrec]
    cases hgin : inGroup g (s.record i).width l q with
    | true => simp [egressGroup, hgin, hold, carries]
    | false =>
      cases hn : (s.record i).names .egress l q with
      | true =>
        obtain ⟨d, hd, hin⟩ := Record.exists_inGroup hn
        have hne : d ≠ g := by
          rintro rfl
          rw [hin] at hgin
          cases hgin
        have hat := Record.programAt_eq (r := s.record i) (r' := { s.record i with
          state := .active, staged := none, dests := (s.record i).dests.filter fun d => d ≠ g })
          hap hap' rfl rfl hd
          (List.mem_filter.mpr ⟨hd, by simpa using hne⟩ :
            d ∈ (s.record i).dests.filter fun d => d ≠ g) hin
        have hcar : carries (s.phase i .egress l q) = true := by
          simp [hold, egressGroup, hgin, hn, carries]
        simp only [egressGroup, hgin, Bool.not_false, Bool.true_and, if_true, Bool.false_eq_true,
          if_false, hs.programEntry_of_carries hcar]
        exact hat.symm
      | false => simp [egressGroup, hgin, hold, hn, carries]

theorem State.Switching.applyMove (hs : s.Switching) {src : Source} {c : Cutover} {ca : Cause}
    (hst : (s.record i).state = .altering) (hstg : (s.record i).staged = some ⟨.move src, c, ca⟩)
    (c' : Cause) : (s.applyMove i src c').Switching := by
  have hrec := s.record_applyMove i src c'
  have hap := hs.dests_apart i
  have hphase : ∀ (p : Plane) (l : Fin 8) (q : Fin 40), (s.applyMove i src c').phase i p l q
      = if ({ s.record i with source := some src } : Record).names p l q then some .live
        else none := fun p l q => by
    simp only [State.applyMove, State.phase_tellAltered, State.phase_setRecord,
      State.phase_programAll, State.phase_rephase, hs.phase, Record.phaseAt_move hst hstg]
    cases p with
    | egress => simp [sourceOutside_egress, Record.names_egress]
    | ingress =>
      simp only [sourceOutside_ingress, Record.names_ingress]
      by_cases hnew : inSource (some src) (s.record i).width l q = true <;>
        by_cases hold : inSource (s.record i).source (s.record i).width l q = true <;>
        simp [hnew, hold]
  refine hs.of_actsOn (s.applies_applyMove i src c').acts ?_ (fun p l q => ?_) fun l q => ?_
  · rw [hrec]
    exact Record.groupsApart_of_apart hap (by simp)
  · rw [hphase, Record.phaseAt_active (by rw [hrec]), hrec]
    rfl
  · have hnew := hphase .egress l ⟨q, by omega⟩
    have hold := hs.phase i .egress l ⟨q, by omega⟩
    rw [Record.phaseAt_move hst hstg] at hold
    simp only [sourceOutside_egress] at hnew hold
    have hprog : (s.applyMove i src c').programEntry l q
        = if (s.record i).names .egress l q then
            ({ s.record i with source := some src } : Record).programAt l q
          else s.programEntry l q := by
      rw [← State.programEntry_rephase s i
        (sourceOutside (s.record i).source (some src) (s.record i).width) .leaving .openPos,
        ← State.programEntry_rephase (s.rephase i _ .leaving .openPos) i
          (sourceOutside (some src) (s.record i).source (s.record i).width) .joining
          (.claimed i .live),
        ← State.programEntry_programAll_record _ (s.record i) _ l.isLt q.isLt hap]
      simp [State.applyMove]
    rw [hnew, carries_live, hprog, hrec, hold]
    show _ = if (s.record i).names .egress l q = true then _ else _
    cases (s.record i).names .egress l q <;> rfl

theorem State.Switching.applyDeactivate (hs : s.Switching) (hst : (s.record i).state = .closing)
    (c : Cause) : (s.applyDeactivate i c).Switching := by
  have hphase : ∀ (p : Plane) (l : Fin 8) (q : Fin 40),
      (s.applyDeactivate i c).phase i p l q = none :=
    fun p l q => by cases c <;> simp [State.applyDeactivate]
  have hprog : ∀ l q, (s.applyDeactivate i c).programEntry l q
      = (s.clearAll (s.record i).dests (s.record i).width).programEntry l q := fun l q => by
    cases c <;> simp [State.applyDeactivate]
  refine hs.of_actsOn (s.applies_applyDeactivate i c).acts ?_ (fun p l q => ?_) fun l q => ?_
  · rcases s.record_applyDeactivate i c with e | ⟨rc, e⟩
    · rw [e]; exact groupsApart_free _
    · exact Record.groupsApart_retired (hs.apart i) (by rw [e]) (by rw [e]) (by rw [e])
  · rw [hphase, Record.phaseAt_none]
    rcases s.record_applyDeactivate i c with e | ⟨rc, e⟩ <;> simp [e]
  · have hnew := hphase .egress l ⟨q, by omega⟩
    have hold := hs.phase i .egress l ⟨q, by omega⟩
    rw [Record.phaseAt_closing hst, Record.names_egress] at hold
    simp only at hnew hold
    rw [hnew, hprog, State.programEntry_clearAll l.isLt q.isLt, hold]
    cases (s.record i).dests.any fun g => inGroup g (s.record i).width l q <;> rfl

/-- The application of a record's staged change (R63 to R67). -/
theorem State.Switching.applyChange (hs : s.Switching) (f : FrameInfo)
    (hk : (s.record i).state.holds ((s.record i).staged.map fun st => st.change.kind) = true) :
    (s.applyChange i f).Switching := by
  unfold State.applyChange
  split
  · exact hs
  · next st hst =>
    obtain ⟨ch, c, ca⟩ := st
    rw [hst, Option.map_some, CircuitState.holds_some] at hk
    cases ch with
    | activate => exact hs.applyActivate (by simpa [Change.kind] using hk) f
    | add g => exact hs.applyAdd (by simpa [Change.kind] using hk) hst ca
    | drop g => exact hs.applyDrop (by simpa [Change.kind] using hk) hst ca
    | move src => exact hs.applyMove (by simpa [Change.kind] using hk) hst ca
    | deactivate => exact hs.applyDeactivate (by simpa [Change.kind] using hk) ca

theorem State.Switching.applyEntry (hs : s.Switching) (f : FrameInfo) (e : QueueEntry)
    (hk : (s.record e.circuit).state.holds
      ((s.record e.circuit).staged.map fun st => st.change.kind) = true) :
    (s.applyEntry f e).Switching := by
  have hm := s.manager_applyEntry f e
  exact (hs.applyChange f hk).same (by rw [hm]) (by rw [hm]) (by rw [hm])

/-! ## The work of the Circuit Manager -/

theorem State.Switching.applyDue (hs : s.Switching) (hm : s.ManagerInOrder) :
    s.applyDue.Switching := by
  have h := hm.applied (P := State.Switching) hs (f := s.manager.frame) (fun e => s.due e)
    fun u i e hu hk he => hu.applyEntry _ e (he ▸ hk)
  refine State.Switching.serveWaiting (s := State.setQueue
    (s.manager.queue.filter fun e => !s.due e)
    _) ?_ _
  exact h.kept.same rfl rfl rfl

theorem State.Switching.countLeases (hs : s.Switching) : s.countLeases.Switching :=
  hs.of_views rfl rfl fun i => by
    rw [State.record_countLeases, Record.countDown_eq]
    rfl

theorem State.Switching.setAttention (hs : s.Switching) (i : RecNo) :
    (s.setAttention i).Switching := by
  refine hs.of_record (s.actsOn_setAttention i) ?_ ?_ ?_
  · rw [State.setAttention_eq]
  · rw [State.setAttention_eq]
  · rw [State.record_setAttention, if_pos rfl]; rfl

theorem State.Switching.clearAttention (hs : s.Switching) (i : RecNo) :
    (s.clearAttention i).Switching := by
  refine hs.of_record (s.actsOn_clearAttention i) ?_ ?_ ?_
  · rw [State.clearAttention_eq]
  · rw [State.clearAttention_eq]
  · rw [State.record_clearAttention, if_pos rfl]; rfl

/-- The circuits through a lease tick, in which the queue stays in agreement with them (R112). -/
theorem State.Switching.leaseTick (hs : s.Switching) (hm : s.ManagerInOrder) :
    s.leaseTick.Switching := by
  obtain ⟨hc, -⟩ := State.managerInOrder_iff.mp hm
  rw [State.leaseTick_eq]
  refine State.Switching.serveWaiting ?_ _
  have hset := foldl_keeps (P := fun u : State => u.Core ∧ u.Switching)
    (fun u i hu => ⟨hu.1.setAttention i, hu.2.setAttention i⟩) s.runningOut s.countLeases
    ⟨hc.countLeases, hs.countLeases⟩
  exact (foldl_keeps (P := fun u : State => u.Core ∧ u.Switching)
    (fun u i hu => ⟨hu.1.expire i, hu.2.expire (hu.1.queue i)⟩) s.runningOut _ hset).2

/-- A bearer entry that no record claims is barred or opened (R53). -/
theorem State.Switching.setEntry (hs : s.Switching) {p : Plane} {l q : Nat} {new : PosEntry}
    (hl : l < 8) (hq : q < 38) (he : (s.entry p l q).isClaimed = false)
    (hn : new = .barred ∨ new = .openPos) : (s.setEntry p l q new).Switching := by
  have hentry : ∀ (p' : Plane) (l' : Fin 8) (q' : Fin 40), (s.setEntry p l q new).entry p' l' q'
      = if p' = p ∧ l'.val = l ∧ q'.val = q then new else s.entry p' l' q' := fun p' l' q' =>
    State.entry_updateMap s _ l'.isLt q'.isLt
  have hfree : ∀ j, s.phase j p l q = none := fun j => by
    rw [State.phase]
    cases h : s.entry p l q with
    | claimed j' ph => rw [h] at he; cases he
    | _ => rfl
  have hphase : ∀ j (p' : Plane) (l' : Fin 8) (q' : Fin 40),
      (s.setEntry p l q new).phase j p' l' q' = s.phase j p' l' q' := fun j p' l' q' => by
    rw [State.phase, hentry]
    split
    · next h =>
      obtain ⟨rfl, rfl, rfl⟩ := h
      rw [hfree]
      rcases hn with rfl | rfl <;> rfl
    · rfl
  refine ⟨?_, hs.apart, fun j p' l' q' => (hphase j p' l' q').trans (hs.phase j p' l' q'),
    fun l' q' => ?_⟩
  · have hf := State.controlSlotsFixed_iff.mp hs.fixed
    refine State.controlSlotsFixed_iff.mpr fun p' l' q' => ?_
    rw [hentry, ← hf p' l' q']
    split
    · next h =>
      refine iff_of_false (by rcases hn with rfl | rfl <;> simp) fun hfx => ?_
      have := (hf p' l' q').mp hfx
      omega
    · rfl
  · have hprog : s.programEntry l' q' = s.programOf l' q' := hs.program l' q'
    show s.programEntry l' q' = _
    rw [hprog]
    by_cases hcl : ∃ j ph, s.phase j .egress l' q' = some ph
    · obtain ⟨j, ph, hph⟩ := hcl
      have hph' := (hphase j .egress l' ⟨q', by omega⟩).trans hph
      rw [State.programOf_of_phase hph, State.programOf_of_phase (l := l') (q := q') hph']
      rfl
    · have hnone : ∀ j, s.phase j .egress l' q' = none := fun j => by
        by_contra h
        obtain ⟨ph, hph⟩ := Option.ne_none_iff_exists'.mp h
        exact hcl ⟨j, ph, hph⟩
      rw [State.programOf_of_noPhase hnone, State.programOf_of_noPhase (l := l') (q := q')
        fun j => (hphase j .egress l' ⟨q', by omega⟩).trans (hnone j)]

/-! ### Referrals -/

theorem State.Switching.enterReferral (hs : s.Switching) {f : OpenFields} (hm : s.MayOpen i f)
    (tag : Byte) : (s.enterReferral k i tag f).Switching := by
  have halloc := hs.allocate hm (.link k) (st := .referred) (.inl rfl)
  rw [State.enterReferral_eq]
  exact halloc.same rfl rfl rfl

/-- An approved referral claims what it claimed (R22, R173). -/
theorem State.Switching.approveReferral (hs : s.Switching) {r : Referral}
    (hst : (s.record r.circuit).state = .referred) : (s.approveReferral k r).Switching := by
  have hrec := s.record_openReferred r
  have hopen : (s.openReferred r).Switching := by
    refine hs.of_sameGroups (s.stages_openReferred r).acts ?_ ?_ ?_ ?_ (fun p l q => ?_)
      (fun l q => rfl) fun l q => rfl
    · rw [hrec]
    · rw [hrec]
    · rw [hrec]
    · rw [hrec]
      exact Record.groupsApart_of_apart (hs.dests_apart _) fun st hst => by
        cases hst
        simp
    · have hold := hs.phase r.circuit p l q
      rw [Record.phaseAt_joining (.inl hst)] at hold
      rw [Record.phaseAt_joining (.inr (by rw [hrec])), hrec]
      exact hold
  have hm : (s.approveReferral k r).manager = (s.openReferred r).manager := by
    rw [State.approveReferral_eq, State.setReferral_manager, State.manager_answerLine]
  exact hopen.same (by rw [hm]) (by rw [hm]) (by rw [hm])

theorem State.Switching.denyReferral (hs : s.Switching) {r : Referral}
    (hst : (s.record r.circuit).state = .referred) : (s.denyReferral k r).Switching := by
  have hm : (s.denyReferral k r).manager = (s.freeRecord r.circuit).manager := by
    rw [State.denyReferral, State.setReferral_manager, State.manager_answerLine]
  exact (hs.freeRecord (.inr (.inl hst))).same (by rw [hm]) (by rw [hm]) (by rw [hm])

theorem State.Switching.endSession (hs : s.Switching) (hr : s.ReferralMatches) (l : Link) :
    (s.endSession k l).Switching := by
  unfold State.endSession State.endReferral
  split
  · next r hk => exact (hs.freeRecord (.inr (.inl (hr.1 k r hk).1))).same rfl rfl rfl
  · exact hs.same rfl rfl rfl

/-! ## Every step -/

theorem State.SwitchingInOrder.mk (hm : s.ManagerInOrder) (hs : s.Switching) :
    s.SwitchingInOrder := State.switchingInOrder_iff.mpr ⟨hm, hs⟩

theorem State.SwitchingInOrder.switching (hs : s.SwitchingInOrder) : s.Switching :=
  (State.switchingInOrder_iff.mp hs).2

/-- A property that rests on the Circuit Manager's order: with it, through every operation. -/
theorem keptByTime_switchingInOrder : KeptByTime State.SwitchingInOrder where
  work :=
    { sides := fun hs h =>
        .mk (hs.1.same h.sameCircuits) (hs.switching.same h.table h.map h.program)
      acceptOpen := fun who _ hs hm hr =>
        .mk (hs.1.acceptOpen who _ hm.old hr) (hs.switching.acceptOpen hm who)
      acceptAdd := fun who _ c hs hm hr =>
        .mk (hs.1.acceptAdd who _ c hm.state hr) (hs.switching.acceptAdd hm who c)
      acceptDrop := fun who _ c hs hst hg hr =>
        .mk (hs.1.acceptDrop who _ c hst hr) (hs.switching.acceptDrop hst hg who c)
      acceptMove := fun c hs hm hr =>
        .mk (hs.1.acceptMove _ c hm.state hr) (hs.switching.acceptMove hm c)
      releaseActive := fun who c hs hst hr =>
        .mk (hs.1.releaseActive who c hst hr) (hs.switching.releaseActive hst who c)
      hostEndsOpening := fun hs hr hst =>
        .mk (hs.1.hostEndsOpening hr hst) ((hs.switching.freeOpening hst).serveWaiting 1)
      lineEndsOpening := fun hs hst =>
        .mk (hs.1.lineEndsOpening hst) ((hs.switching.retireOpening hst).serveWaiting 1)
      cancelChange := fun {s i} hs hr hst =>
        .mk (hs.1.cancelChange hr hst)
          ((hs.switching.cancelled (hs.1.2.1 i) (hst.imp id And.left)).serveWaiting 1)
      acceptRenew := fun i v hs => .mk (hs.1.acceptRenew v) (hs.switching.of_record
        (State.actsOn_acceptRenew _ i v) rfl rfl (by rw [State.record_acceptRenew]; rfl))
      acceptAdopt := fun {s i} hs hst => .mk (hs.1.acceptAdopt hst) (hs.switching.of_record
        (State.actsOn_acceptAdopt _ _) (by simp [State.acceptAdopt]) (by simp [State.acceptAdopt])
        (by
          rw [State.record_acceptAdopt]
          cases hstg : (s.record i).staged with
          | none => simp [Record.circuitView, hstg]
          | some st => 
            by_cases hc : st.cause = Cause.owner <;> simp [Record.circuitView, hstg, hc]))
      clearAttention := fun i hs => .mk (hs.1.clearAttention i) (hs.switching.clearAttention i)
      freeRetired := fun hs hst =>
        .mk (hs.1.freeRetired hst) (hs.switching.freeRecord (.inr (.inr hst)))
      setEntry := fun hs hl hq he hn =>
        .mk (hs.1.setEntry _ _ _ _) (hs.switching.setEntry hl hq he hn)
      beginWait := fun hs hr hst => .mk (hs.1.beginWait hr hst) (hs.switching.same rfl rfl rfl)
      endWait := fun hs hm => .mk (hs.1.endWait hm) (hs.switching.same rfl rfl rfl)
      applyDue := fun hs => .mk hs.1.applyDue (hs.switching.applyDue hs.1)
      leaseTick := fun hs => .mk hs.1.leaseTick (hs.switching.leaseTick hs.1)
      enterReferral := fun tag _ hs hm hh =>
        .mk (hs.1.enterReferral tag _ hm.old hh) (hs.switching.enterReferral hm tag)
      approveReferral := fun hs hk hr => .mk (hs.1.approveReferral hk hr)
        (hs.switching.approveReferral (hs.1.2.2.2.1.1 _ _ hk).1)
      denyReferral := fun hs hk => .mk (hs.1.denyReferral hk)
        (hs.switching.denyReferral (hs.1.2.2.2.1.1 _ _ hk).1)
      endSession := fun hs hl => .mk (hs.1.endSession hl)
        (hs.switching.endSession hs.1.2.2.2.1 _)
      present := fun k hs _ => .mk (hs.1.same (State.sameCircuits_present _ k))
        (hs.switching.same rfl rfl rfl) }
  same hs h := .mk (hs.1.same h) (hs.switching.same h.table h.map h.program)
  deviceReset s := .mk (keptByTime_managerInOrder.deviceReset s)
    (State.switching_reset.same rfl rfl rfl)

/-- Settles O59: each operation keeps the claims and the program of the circuit it works on, and the
others are left alone. -/
theorem everyStepKeepsSwitchingInOrder : Obligations.EveryStepKeepsSwitchingInOrder := by
  unfold Obligations.EveryStepKeepsSwitchingInOrder
  intro s t hs hstep
  exact keptByTime_switchingInOrder.work.step keptByTime_switchingInOrder.keptByTiming hs hstep

end Sys2Proof.Machine
end

-- ==== Proofs: the answers of the mailbox ====
section
/-! SUPPORT. What a command that is taken leaves once it has been answered: the outcome and the
response area (R182, R183), and which parts of the state no circuit request of the host touches.
Then QUERY, MOVE and OPEN. -/

namespace Sys2Proof.Machine

-- The proofs are elaborated one after another: many at once take the text past its memory limit.
set_option Elab.async false

variable {s t u : State} {i : RecNo} {code : BitVec 7} {await : Bool}

/-! ## Entry into FREE -/

/-- Entry into FREE: what it writes beside the record (R11, R15). -/
theorem State.freeRecord_eq (s : State) (i : RecNo) :
    s.freeRecord i = { s with
      manager := { s.manager with
        table := (s.freeRecord i).manager.table
        map := (s.releaseClaims i).manager.map
        attentionCount := s.countCleared i } } := by
  have h : s.freeRecord i = ((s.releaseClaims i).clearAttention i).setRecord i
      { generation := (((s.releaseClaims i).clearAttention i).record i).generation } := rfl
  rw [h, State.clearAttention_eq]
  rfl

/-- The claims of a record that enters FREE are open, and no other entry changes (R11). -/
theorem State.mapBecomes_freeRecord (s : State) (i : RecNo) :
    s.MapBecomes (s.freeRecord i) fun _ _ _ e => released i e := fun p l q => by
  rw [State.entry_congr (s := s.releaseClaims i) (by rw [State.freeRecord_eq])]
  exact s.entry_releaseClaims i l.isLt q.isLt

/-! ## What no circuit request touches -/

theorem State.KeepsElsewhere.trans (h : s.KeepsElsewhere t) (g : t.KeepsElsewhere u) :
    s.KeepsElsewhere u := by
  rw [State.KeepsElsewhere, g, h]

theorem State.keepsElsewhere_clearAttention (s : State) (i : RecNo) :
    s.KeepsElsewhere (s.clearAttention i) := by
  unfold State.clearAttention
  split <;> rfl

theorem State.keepsElsewhere_finishCommand (s : State) (await : Bool) (a : Answer) :
    s.KeepsElsewhere (s.finishCommand await a) := by
  unfold State.finishCommand
  dsimp only
  split
  · split <;> rfl
  · rfl

/-! ## The answer to a command -/

/-- A command is taken in READY (R181). -/
theorem State.takeCommand_ready (hr : s.Ready) {body : State → Answer × State} {a : Answer}
    (hb : body (s.noteCommand code await) = (a, u)) :
    s.takeCommand code await body = u.finishCommand await a := by
  have h : s.mailbox.awaiting = false := hr
  rw [State.takeCommand, if_neg (by simp [h]), hb]

/-- An answer that staged nothing completes at once (R182, R183). -/
theorem State.answersAtOnce_complete (hm : u.mailbox = (s.noteCommand code await).mailbox)
    (c : OutcomeCode) (v : Vector Byte 24) :
    s.AnswersAtOnce ((u.setResponse v).complete c) code await c v u.events.flags := by
  have h : ((u.setResponse v).complete c).mailbox = { u.mailbox with
      response := v, outcome := c, sequence := u.mailbox.sequence + 1, refusedWrite := false,
      awaiting := false } := rfl
  exact ⟨by rw [h, hm]; rfl, rfl⟩

/-! ## QUERY -/

/-- What a QUERY with acknowledge does to its record (R49). -/
def State.acknowledge (i : RecNo) (s : State) : State :=
  if (s.record i).state = .retired then s.freeRecord i else s.clearAttention i

theorem State.takeQuery_eq {v w : Byte} (hi : v.toNat = i.val) :
    s.takeQuery v w = (⟨.ok, queryResponse i (s.record i), none⟩,
      if w.getLsbD 0 then s.acknowledge i else s) := by
  rw [State.takeQuery, recordOf_eq v i hi]
  rfl

/-- An acknowledgement: what it writes beside the record and the map (R15, R49). -/
theorem State.acknowledge_eq (s : State) (i : RecNo) :
    s.acknowledge i = { s with
      manager := { s.manager with
        table := (s.acknowledge i).manager.table
        map := (s.acknowledge i).manager.map
        attentionCount := s.countCleared i } } := by
  unfold State.acknowledge
  split
  · rw [State.freeRecord_eq]
  · rw [State.clearAttention_eq]; rfl

theorem State.keepsElsewhere_acknowledge (s : State) (i : RecNo) :
    s.KeepsElsewhere (s.acknowledge i) := by
  rw [State.KeepsElsewhere, State.acknowledge_eq]

/-- What an acknowledgement leaves of its record and of its claims (R11, R15, R49). -/
theorem State.acknowledge_cases (s : State) (i : RecNo) :
    if (s.record i).state = .retired then
      s.RecordBecomes (s.acknowledge i) i { generation := (s.record i).generation }
        ∧ s.MapBecomes (s.acknowledge i) (fun _ _ _ e => released i e)
    else s.RecordBecomes (s.acknowledge i) i { s.record i with attention := false }
        ∧ (s.acknowledge i).manager.map = s.manager.map := by
  unfold State.acknowledge
  split
  · exact ⟨fun j => s.record_freeRecord i j, s.mapBecomes_freeRecord i⟩
  · refine ⟨fun j => ?_, by rw [State.clearAttention_eq]⟩
    rw [State.record_clearAttention]
    by_cases hj : i = j
    · subst hj; rfl
    · rw [if_neg hj, if_neg hj]

/-- Settles O19: the response area is made from the record before it is acknowledged. -/
theorem queryReportsThenAcknowledges : Obligations.QueryReportsThenAcknowledges := by
  unfold Obligations.QueryReportsThenAcknowledges
  intro s await i hr hi
  have ht := State.takeCommand_ready (code := 0x09) (await := await) (body := State.hostQuery) hr
    (State.takeQuery_eq hi)
  refine ⟨_, congrArg Host.Outcome.next ht, ?_⟩
  rw [State.finishCommand_none]
  have hbit : ((s.noteCommand 0x09 await).request 1).getLsbD 0 = (s.request 1).getLsbD 0 := rfl
  rw [hbit]
  cases (s.request 1).getLsbD 0 with
  | false => exact ⟨rfl, rfl, rfl, rfl, State.answersAtOnce_complete rfl _ _, rfl⟩
  | true =>
    have hack := (s.noteCommand 0x09 await).acknowledge_eq i
    have hrec := (s.noteCommand 0x09 await).acknowledge_cases i
    have hkept : s.KeepsElsewhere ((s.noteCommand 0x09 await).acknowledge i) :=
      State.KeepsElsewhere.trans (t := s.noteCommand 0x09 await) rfl
        (State.keepsElsewhere_acknowledge _ i)
    rw [if_pos rfl]
    generalize (s.noteCommand 0x09 await).acknowledge i = m at hack hrec hkept
    have hmailbox : m.mailbox = (s.noteCommand 0x09 await).mailbox :=
      (congrArg State.mailbox hack :)
    have hflags : m.events.flags = s.events.flags := (congrArg (fun u => u.events.flags) hack :)
    have hans := State.answersAtOnce_complete hmailbox .ok (queryResponse i (s.record i))
    rw [hflags] at hans
    exact ⟨State.KeepsElsewhere.trans hkept rfl, (congrArg State.links hack :),
      (congrArg State.referrals hack :), (congrArg (fun u => u.manager.queue) hack :), hans,
      (congrArg (fun u => u.manager.attentionCount) hack :), hrec⟩

end Sys2Proof.Machine
end

-- ==== Proofs: the host's MOVE and OPEN ====
section
/-! SUPPORT. A host request that stages a change: its checks pass, it is accepted on one record, and
the mailbox answers with AWAIT or without it (R182). MOVE (R21, R43) and OPEN (R9, R10, R38). -/

namespace Sys2Proof.Machine

-- The proofs are elaborated one after another: many at once take the text past its memory limit.
set_option Elab.async false

variable {s t u : State} {i : RecNo} {code : BitVec 7} {await : Bool}

/-! ## The answer to a command that staged a change -/

/-- An answer leaves the circuits alone, but for the awaited mark of the entry staged (R182). -/
theorem State.finishCommand_keeps (s : State) (await : Bool) (a : Answer) :
    (s.finishCommand await a).links = s.links ∧ (s.finishCommand await a).referrals = s.referrals
      ∧ (s.finishCommand await a).manager.attentionCount = s.manager.attentionCount
      ∧ (s.finishCommand await a).manager.table = s.manager.table
      ∧ (s.finishCommand await a).manager.map = s.manager.map := by
  unfold State.finishCommand
  dsimp only
  split
  · split <;> exact ⟨rfl, rfl, rfl, rfl, rfl⟩
  · exact ⟨rfl, rfl, rfl, rfl, rfl⟩

theorem State.ActsOn.recordBecomes (h : s.ActsOn i t) : s.RecordBecomes t i (t.record i) :=
  fun j => by
    by_cases hj : i = j
    · rw [if_pos hj, hj]
    · rw [if_neg hj, h.records j (Ne.symm hj)]

/-- With AWAIT the mailbox waits for the change, without it the mailbox completes (R182). -/
theorem State.answersStaged_finishCommand (hm : u.mailbox = (s.noteCommand code await).mailbox)
    (he : u.events.flags = s.events.flags) (v : Vector Byte 24) (i : RecNo) :
    s.AnswersStaged (u.finishCommand await ⟨.ok, v, some i⟩) code await v := by
  cases await with
  | false =>
    have h := State.answersAtOnce_complete hm .ok v
    rwa [he] at h
  | true =>
    have h : (u.finishCommand true ⟨.ok, v, some i⟩).mailbox
        = { u.mailbox with response := v, awaiting := true } := rfl
    exact ⟨by rw [h, hm]; rfl, he⟩

/-- The entry staged carries the awaited mark where AWAIT was set (R58, R182). -/
theorem State.queue_finishCommand {q : List QueueEntry} {e : QueueEntry}
    (hq : u.manager.queue = q ++ [e]) (ha : e.awaited = false)
    (hn : q.filter (fun x => x.circuit = e.circuit) = []) (v : Vector Byte 24) :
    (u.finishCommand await ⟨.ok, v, some e.circuit⟩).manager.queue
      = q ++ [{ e with awaited := await }] := by
  cases await with
  | false =>
    obtain ⟨c, k, cu, ta, aw⟩ := e
    cases ha
    exact hq
  | true => exact State.markAwaited_append (s := u.setResponse v) _ q e hq rfl hn

/-! ## MOVE -/

theorem mem_sourcePositions {src : Option Source} {w : Nat} {x : Plane × Nat × Nat}
    (hr : sourceInRange src w = true) (hx : x ∈ sourcePositions src w) :
    x.1 = .ingress ∧ x.2.1 < 8 ∧ x.2.2 < 38 ∧ inSource src w x.2.1 x.2.2 = true := by
  rcases src with _ | ⟨a, b⟩ | v
  · cases hx
  · obtain ⟨hp, hl, hge, hlt⟩ := mem_groupPositions _ _ _ _ hx
    simp only at hl hge hlt
    rw [sourceInRange, Group.inRange, Bool.and_eq_true, decide_eq_true_eq] at hr
    have ha : a < 8 := hr.1
    have hle : b + w ≤ 38 := of_decide_eq_true hr.2
    refine ⟨hp, by omega, by omega, ?_⟩
    simp only [inSource, inGroup, Bool.and_eq_true, beq_iff_eq, decide_eq_true_eq]
    exact ⟨⟨hl, hge⟩, hlt⟩
  · cases hx

/-- Positions that lie within the part, and are OPEN by a test, pass the barred-and-busy check
(R35). -/
theorem State.positionsCheck_of_allOpen {picks : Plane → Nat → Nat → Bool}
    {ps : List (Plane × Nat × Nat)} (ho : s.AllOpen picks)
    (h : ∀ x ∈ ps, x.2.1 < 8 ∧ x.2.2 < 40 ∧ picks x.1 x.2.1 x.2.2 = true) :
    s.positionsCheck ps = none :=
  s.positionsCheck_pass ps fun x hx => by
    obtain ⟨hl, hq, hp⟩ := h x hx
    exact ho x.1 ⟨x.2.1, hl⟩ ⟨x.2.2, hq⟩ hp

/-- A MOVE that passes every check is accepted (R27, R43). -/
theorem State.takeMove_accept {x g : Byte} {src : Source} {c : Cutover} (hn : s.Names x g i)
    (hst : (s.record i).state = .active) (hr : sourceInRange (some src) (s.record i).width = true)
    (hc : s.Allows c) (ho : s.AllOpen (sourceOutside (some src) (s.record i).source
      (s.record i).width))
    (hq : s.HasRoom) :
    s.takeMove x g (some src) (some c)
      = ⟨(s.acceptMove i src c).report i, some i, s.acceptMove i src c⟩ := by
  have hl := s.lookup_of_names x g i hn
  refine s.decideOn_accept x g _ _ _ i hl rfl fun d hd => ?_
  simp only [List.mem_cons, List.not_mem_nil, or_false] at hd
  rcases hd with rfl | rfl | rfl | rfl | rfl
  · exact s.circuitCheck_pass _ _ _ _ i hl rfl (by simp [Naming.stateCheck, hst])
  · simp [hr]
  · exact s.cutoverCheck_pass c hc
  · refine State.positionsCheck_of_allOpen ho fun y hy => ?_
    obtain ⟨hy, hnot⟩ := List.mem_filter.mp hy
    obtain ⟨hp, hl, hq, hin⟩ := mem_sourcePositions hr hy
    refine ⟨hl, by omega, ?_⟩
    rw [hp, sourceOutside, hin]
    simpa using hnot
  · exact s.roomCheck_pass hq

/-- Claims of an accepted MOVE: the new source JOINING, the old one LEAVING (R21, R43). -/
theorem State.mapBecomes_acceptMove {src : Source}
    (ho : s.AllOpen (sourceOutside (some src) (s.record i).source (s.record i).width))
      (c : Cutover) :
    s.MapBecomes (s.acceptMove i src c) fun p l q e =>
      if sourceOutside (some src) (s.record i).source (s.record i).width p l q then
        .claimed i .joining
      else if sourceOutside (s.record i).source (some src) (s.record i).width p l q
          ∧ e = .claimed i .live then .claimed i .leaving
      else e := fun p l q => by
  have h : (s.acceptMove i src c).entry p l q = ((s.claim i (sourceOutside (some src)
      (s.record i).source (s.record i).width)).rephase i
        (sourceOutside (s.record i).source (some src)
      (s.record i).width) .live (.claimed i .leaving)).entry p l q := rfl
  rw [h, State.entry_rephase _ _ _ _ _ l.isLt q.isLt, State.entry_claim _ _ _ l.isLt q.isLt]
  by_cases hnew : sourceOutside (some src) (s.record i).source (s.record i).width p l q = true
  · simp [hnew, ho p l q hnew]
  · simp [hnew, and_comm]

/-- Settles O14: the checks pass, and the acceptance is read off its claims and its staged change.
-/
theorem moveStagesAMove : Obligations.MoveStagesAMove := by
  unfold Obligations.MoveStagesAMove
  intro s await i src c hr hn he hsrc hcut hst hrange hc ho hq
  let n := s.noteCommand 0x04 await
  let m := n.acceptMove i src c
  have hstages := State.stages_acceptMove (s := n) (i := i) src c
  have hrec : s.RecordBecomes m i
      { s.record i with state := .altering, staged := some ⟨.move src, c, .host⟩ } := fun j => by
    rw [hstages.acts.recordBecomes j, State.record_acceptMove]
    rfl
  have hrep : m.report i = {
      outcome := .ok
      reference := some (s.request 0, s.request 1)
      state := some .altering
      lease := (s.record i).remaining } := by
    rw [State.report, hrec i, if_pos rfl, indexOctet_eq _ i hn.1]
    rw [show (s.record i).generation = s.request 1 from hn.2.1]
    rfl
  have hbody : State.hostMove n = (⟨.ok, (m.report i).response, some i⟩, m) := by
    have hacc := State.takeMove_accept (s := n) hn hst hrange hc ho hq
    show (n.takeMove (s.request 0) (s.request 1)
      (sourceOf (s.request 2) (s.request 3) (s.request 4))
      s.requestCutover).answer = _
    rw [hsrc, hcut, hacc]
    rfl
  refine ⟨_, congrArg Host.Outcome.next (State.takeCommand_ready hr hbody), ?_⟩
  rw [hrep]
  obtain ⟨hlinks, hreferrals, hcount, htable, hmap⟩ := m.finishCommand_keeps await ⟨.ok, _, some i⟩
  refine ⟨State.KeepsElsewhere.trans (t := m) rfl (m.keepsElsewhere_finishCommand _ _), hlinks,
    hreferrals, hcount, fun j => ?_, fun p l q => ?_, ?_,
    State.answersStaged_finishCommand hstages.mailbox rfl _ i⟩
  · rw [State.record_congr htable]
    exact hrec j
  · rw [State.entry_congr hmap]
    exact n.mapBecomes_acceptMove ho c p l q
  · exact State.queue_finishCommand (e := ⟨i, .move, c, s.timing.tally, false⟩) hstages.queue rfl
      he _

/-! ## OPEN -/

/-- The lowest record that passes a test is the first one. -/
theorem State.firstRecord_eq {p : Record → Bool} (hp : p (s.record i) = true)
    (hlow : ∀ j < i, p (s.record j) = false) : s.firstRecord p = some i := by
  rw [State.firstRecord, List.find?_eq_some_iff_getElem]
  refine ⟨hp, i.val, by simp, by simp, fun j hj => ?_⟩
  simpa using hlow ⟨j, by omega⟩ hj

theorem State.firstRecord_eq_none {p : Record → Bool} (h : ∀ j, p (s.record j) = false) :
    s.firstRecord p = none :=
  List.find?_eq_none.mpr fun j _ => by simp [h j]

/-- Allocation takes the record that R9 names. -/
theorem State.available_of_allocates (h : s.Allocates i) : s.available = some i := by
  unfold State.available
  rcases h with ⟨hst, hlow⟩ | ⟨hnone, hst, hlow⟩
  · rw [State.firstRecord_eq (i := i) (by simp [hst]) fun j hj => by simp [hlow j hj]]
  · rw [State.firstRecord_eq_none fun j => by simp [hnone j]]
    exact State.firstRecord_eq (by simp [hst]) fun j hj => by simp [hlow j hj]

/-- The positions of an OPEN in range are those of its groups. -/
theorem OpenFields.mem_positions {f : OpenFields} (hr : sourceInRange f.source f.width = true)
    (hd : ∀ g ∈ f.dests, g.link < 8 ∧ g.slot + f.width ≤ 38) {x : Plane × Nat × Nat}
    (hx : x ∈ f.positions) : x.2.1 < 8 ∧ x.2.2 < 40
      ∧ inCircuit f.source f.dests f.width x.1 x.2.1 x.2.2 = true := by
  rcases List.mem_append.mp hx with hx | hx
  · obtain ⟨hp, hl, hq, hin⟩ := mem_sourcePositions hr hx
    exact ⟨hl, by omega, by rw [hp]; exact hin⟩
  · obtain ⟨g, hg, hx⟩ := List.mem_flatMap.mp hx
    obtain ⟨hp, hl, hge, hlt⟩ := mem_groupPositions _ _ _ _ hx
    obtain ⟨hgl, hgs⟩ := hd g hg
    refine ⟨by omega, by omega, ?_⟩
    rw [hp, inCircuit, List.any_eq_true]
    refine ⟨g, hg, ?_⟩
    simp only [inGroup, Bool.and_eq_true, beq_iff_eq, decide_eq_true_eq]
    exact ⟨⟨hl, hge⟩, hlt⟩

/-- A host OPEN that passes every check is accepted (R27, R38). -/
theorem State.takeOpen_accept {f : OpenFields} {src : Source} {c : Cutover} (ha : s.Allocates i)
    (hsrc : f.source = some src) (hcut : f.cutover = some c) (hw : 1 ≤ f.width ∧ f.width ≤ 4)
    (hn : 1 ≤ f.count ∧ f.count ≤ 4) (hr : sourceInRange (some src) f.width = true)
    (hd : ∀ g ∈ f.dests, g.link < 8 ∧ g.slot + f.width ≤ 38)
    (hov : anyOverlap f.width f.dests = false) (hc : s.Allows c)
    (ho : s.AllOpen (inCircuit (some src) f.dests f.width)) (hq : s.HasRoom) :
    s.takeOpen .host f = ⟨(s.acceptOpen i .host f).report i, some i, s.acceptOpen i .host f⟩ := by
  have hav := s.available_of_allocates ha
  have hcheck : s.openCheck .host false f = none := by
    rw [State.openCheck, firstFailure_eq_none]
    intro d hmem
    simp only [List.mem_cons, List.not_mem_nil, or_false] at hmem
    rcases hmem with rfl | rfl | rfl | rfl | rfl | rfl | rfl | rfl
    · have h1 : f.width ≠ 0 := by omega
      have h2 : f.count ≠ 0 := by omega
      simp [OpenFields.formatCheck, hsrc, hcut, h1, h2, hw.2, hn.2]
    · have hall : f.dests.all (fun g => g.inRange f.width) = true :=
        List.all_eq_true.mpr fun g hg => by
          rw [Group.inRange, Bool.and_eq_true]
          exact ⟨decide_eq_true (hd g hg).1, decide_eq_true (hd g hg).2⟩
      simp [hsrc, hr, hall]
    · simp [hov]
    · rfl
    · rw [hcut]; exact s.cutoverCheck_pass c hc
    · rw [← hsrc] at ho hr
      exact State.positionsCheck_of_allOpen ho fun x hx => OpenFields.mem_positions hr hd hx
    · simp [hav]
    · exact s.roomCheck_pass hq
  simp only [State.takeOpen, hcheck, hav]

theorem State.keepsElsewhere_acceptOpen (s : State) (i : RecNo) (f : OpenFields) :
    s.KeepsElsewhere (s.acceptOpen i .host f) :=
  State.KeepsElsewhere.trans (s.keepsElsewhere_clearAttention i) rfl

/-- Claims of an accepted OPEN: its positions JOINING (R10, R38). -/
theorem State.mapBecomes_acceptOpen {f : OpenFields}
    (ho : s.AllOpen (inCircuit f.source f.dests f.width)) :
    s.MapBecomes (s.acceptOpen i .host f) fun p l q e =>
      if inCircuit f.source f.dests f.width p l q then .claimed i .joining else e := fun p l q => by
  have h : (s.acceptOpen i .host f).entry p l q =
    (State.claim i (inCircuit f.source f.dests f.width)
      (s.clearAttention i)).entry p l q := rfl
  rw [h, State.entry_claim _ _ _ l.isLt q.isLt, State.entry_clearAttention]
  by_cases hin : inCircuit f.source f.dests f.width p l q = true
  · simp [hin, ho p l q hin]
  · simp [hin]

theorem State.attentionCount_acceptOpen (s : State) (i : RecNo) (f : OpenFields) :
    (s.acceptOpen i .host f).manager.attentionCount = s.countCleared i := by
  have h : (s.acceptOpen i .host f).manager.attentionCount
      = (s.clearAttention i).manager.attentionCount := rfl
  rw [h, State.clearAttention_eq]
  rfl

/-- Settles O11: the checks pass, and the acceptance is read off the allocation and the staged
change. -/
theorem hostOpenStagesAnActivate : Obligations.HostOpenStagesAnActivate := by
  unfold Obligations.HostOpenStagesAnActivate
  intro s await i src c hr ha he hsrc hcut hw1 hw4 hn1 hn4 hrange hd hov hc ho hq
  let n := s.noteCommand 0x01 await
  let f := s.requestOpen
  let m := n.acceptOpen i .host f
  have hstages := State.stages_acceptOpen (s := n) (i := i) .host f
  have hrec : s.RecordBecomes m i {
      generation := (s.record i).generation + 1
      state := .opening
      owner := some .host
      source := some src
      width := s.requestOpen.width
      dests := s.requestOpen.dests
      lease := if s.requestOpen.lease = 0 then none
        else some ⟨s.requestOpen.lease, s.requestOpen.lease⟩
      tag := s.requestOpen.tag
      staged := some ⟨.activate, c, .host⟩ } := fun j => by
    rw [hstages.acts.recordBecomes j, State.record_acceptOpen, allocated,
      show f.source = some src from hsrc, show f.cutover = some c from hcut]
    rfl
  have hrep : m.report i = {
      outcome := .ok
      reference := some (indexOctet i, (s.record i).generation + 1)
      state := some .opening
      lease := if s.requestOpen.lease = 0 then none else some s.requestOpen.lease } := by
    rw [State.report, hrec i, if_pos rfl, apply_ite (Option.map Lease.remaining)]
    rfl
  have hbody : State.hostOpen n = (⟨.ok, (m.report i).response, some i⟩, m) := by
    have hacc := State.takeOpen_accept (s := n) ha hsrc hcut ⟨hw1, hw4⟩
      ⟨hn1, hn4⟩ hrange hd hov hc ho
      hq
    show (n.takeOpen .host s.requestOpen).answer = _
    rw [hacc]
    rfl
  refine ⟨_, congrArg Host.Outcome.next (State.takeCommand_ready hr hbody), ?_⟩
  rw [hrep]
  obtain ⟨hlinks, hreferrals, hcount, htable, hmap⟩ := m.finishCommand_keeps await ⟨.ok, _, some i⟩
  have hm : s.KeepsElsewhere m :=
    State.KeepsElsewhere.trans (t := n) rfl (n.keepsElsewhere_acceptOpen i f)
  have hclear := n.clearAttention_eq i
  have hcut' : f.cutover.getD .nextFrame = c := by rw [show f.cutover = some c from hcut]; rfl
  have hqueue := hstages.queue
  rw [hcut'] at hqueue
  have hevents : m.events.flags = s.events.flags :=
    (congrArg (fun u => u.events.flags) hclear :)
  refine ⟨State.KeepsElsewhere.trans hm (m.keepsElsewhere_finishCommand _ _),
    hlinks.trans (congrArg State.links hclear :),
    hreferrals.trans (congrArg State.referrals hclear :),
    fun j => ?_, fun p l q => ?_, ?_, hcount.trans (n.attentionCount_acceptOpen i f),
    State.answersStaged_finishCommand hstages.mailbox hevents _ i⟩
  · rw [State.record_congr htable]
    exact hrec j
  · rw [State.entry_congr hmap, ← hsrc]
    rw [← hsrc] at ho
    exact n.mapBecomes_acceptOpen ho p l q
  · exact State.queue_finishCommand (e := ⟨i, .activate, c, s.timing.tally, false⟩) hqueue rfl he _

end Sys2Proof.Machine
end

-- ==== Proofs: the control-plane reset ====
section
/-! SUPPORT. The control-plane reset (R149, R163, R175, R188): what it makes of a link, which
records the ended referrals free, and that every link is done once. -/

namespace Sys2Proof.Machine

-- The proofs are elaborated one after another: many at once take the text past its memory limit.
set_option Elab.async false

variable {s t u : State} {i : RecNo} {k : LinkNo}

/-! ## Records that have been freed -/

/-- Two tests that agree but at one element count alike but for it. -/
theorem countP_eq_off {α : Type} [BEq α] [LawfulBEq α] {l : List α} {a : α} {p q : α → Bool}
    (hl : l.Nodup) (ha : a ∈ l) (h : ∀ b, b ≠ a → q b = p b) :
    l.countP q + (if p a then 1 else 0) = l.countP p + (if q a then 1 else 0) := by
  have hrest : (l.erase a).countP q = (l.erase a).countP p :=
    List.countP_congr fun b hb => by
      rw [h b fun e => (List.Nodup.mem_erase_iff hl).mp hb |>.1 e]
  rw [(List.perm_cons_erase ha).countP_eq, (List.perm_cons_erase ha).countP_eq, List.countP_cons,
    List.countP_cons, hrest]
  omega

/-- An entry of the map after the records of a test have been freed (R11). -/
def opened (freed : RecNo → Bool) (e : PosEntry) : PosEntry :=
  match e with
  | .claimed i ph => if freed i then .openPos else .claimed i ph
  | e => e

/-- A record after the records of a test have been freed (R11). -/
def Record.freedIf (b : Bool) (r : Record) : Record := if b then
    { generation := r.generation } else r

/-- The records of a test have gone to FREE, and no other circuit has changed (R11). -/
structure State.Freed (freed : RecNo → Bool) (s t : State) : Prop where
  record : ∀ i, t.record i = (s.record i).freedIf (freed i)
  entry : s.MapBecomes t fun _ _ _ e => opened freed e
  count : t.manager.attentionCount = s.manager.attentionCount
    - (List.finRange 192).countP fun i => freed i && (s.record i).attention

theorem State.Freed.refl (s : State) : s.Freed (fun _ => false) s where
  record _ := rfl
  entry p l q := by cases s.entry p l q <;> rfl
  count := by simp

theorem State.Freed.same {freed : RecNo → Bool} (h : s.Freed freed t)
    (ht : u.manager.table = t.manager.table) (hm : u.manager.map = t.manager.map)
    (hc : u.manager.attentionCount = t.manager.attentionCount) : s.Freed freed u where
  record i := (State.record_congr ht i).trans (h.record i)
  entry p l q := (State.entry_congr hm p l q).trans (h.entry p l q)
  count := hc.trans h.count

/-- One more record goes to FREE; it may be there already. -/
theorem State.Freed.freeRecord {freed : RecNo → Bool} (h : s.Freed freed t) (i : RecNo) :
    s.Freed (fun j => freed j || decide (i = j)) (t.freeRecord i) where
  record j := by
    rw [State.record_freeRecord, h.record, h.record]
    by_cases hj : i = j
    · subst hj
      cases freed i <;> simp [Record.freedIf]
    · simp [hj]
  entry p l q := by
    rw [t.mapBecomes_freeRecord i p l q, h.entry p l q]
    cases s.entry p l q with
    | claimed j ph =>
      by_cases hj : i = j
      · subst hj
        cases hf : freed i <;> simp [opened, released, hf]
      · cases hf : freed j <;> simp [opened, released, hf, hj, Ne.symm hj]
    | _ => rfl
  count := by
    have hn := countP_eq_off (List.nodup_finRange 192) (List.mem_finRange i)
      (p := fun j => freed j && (s.record j).attention)
      (q := fun j => (freed j || decide (i = j)) && (s.record j).attention)
      fun j hj => by simp [Ne.symm hj]
    rw [State.freeRecord_eq]
    show t.countCleared i = _
    rw [State.countCleared, h.count, h.record]
    cases hf : freed i <;> simp [Record.freedIf, hf] at hn ⊢ <;> omega

/-! ## The links -/

/-- The referral of link k has been ended where there was one (R175). -/
theorem State.Freed.endSession {freed : RecNo → Bool} (h : s.Freed freed t) (k : LinkNo)
    (l : Link) :
    s.Freed (fun j => freed j || decide ((t.referral k).map Referral.circuit = some j))
      (t.endSession k l) := by
  unfold State.endSession State.endReferral
  cases hk : t.referral k with
  | none => simpa using h.same (u := t.setLink k l) rfl rfl rfl
  | some r =>
    have hf := (h.freeRecord r.circuit).same
      (u := ((t.freeRecord r.circuit).setReferral k none).setLink k l) rfl rfl rfl
    simpa using hf

theorem State.referral_endSession (s : State) (k j : LinkNo) (l : Link) :
    (s.endSession k l).referral j = if k = j then none else s.referral j := by
  have h : (s.endSession k l).referral j = (s.endReferral k).referral j := rfl
  rw [h, State.endReferral]
  cases hk : s.referral k with
  | none =>
    by_cases hj : k = j
    · rw [if_pos hj, ← hj]; exact hk
    · rw [if_neg hj]
  | some r =>
    rw [State.referral_setReferral, State.freeRecord_eq]
    rfl

theorem State.link_endSession (s : State) (k j : LinkNo) (l : Link) :
    (s.endSession k l).link j = if k = j then l else s.link j := by
  rw [State.endSession, State.link_setLink, State.link_congr (s.endReferral_links k)]

/-- What a control-plane reset makes of a link (R149, R163). -/
def Link.afterReset (l : Link) : Link :=
  if l.enable then l.clear.startAnew else { l with noticeLost := false }

theorem Link.afterReset_disabled {l : Link} (h : l.enable = false) :
    l.afterReset = { l with noticeLost := false } := by
  rw [Link.afterReset, if_neg (by simp [h])]

theorem Link.afterReset_enabled {l : Link} (h : l.enable = true) : l.afterReset =
    { noticeCount := l.noticeCount
      presented := if l.arrived then ⟨0xFF, 0xFF, .other⟩ else { l.presented with kind := .other }
      arrived := l.arrived } := by
  have hstart : l.clear.startAnew = { l.clear.startAnew with enable := true } := by
    rw [← h]; rfl
  rw [Link.afterReset, if_pos h, hstart]
  rfl

/-- The record is named by the referral of an enabled link among these. -/
def State.endsAmong (s : State) (ks : List LinkNo) (i : RecNo) : Bool :=
  ks.any fun k => (s.link k).enable && decide ((s.referral k).map Referral.circuit = some i)

/-- These links have been reset, and nothing else has changed. -/
structure State.ResetOf (ks : List LinkNo) (s t : State) : Prop where
  link : ∀ k, t.link k = if k ∈ ks then (s.link k).afterReset else s.link k
  referral : ∀ k, t.referral k = if k ∈ ks ∧ (s.link k).enable = true then none else s.referral k
  freed : s.Freed (s.endsAmong ks) t
  elsewhere : t = { s with
    manager := { s.manager with
      table := t.manager.table
      map := t.manager.map
      attentionCount := t.manager.attentionCount }
    links := t.links
    referrals := { s.referrals with records := t.referrals.records } }

theorem State.ResetOf.refl (s : State) : s.ResetOf [] s where
  link _ := by simp
  referral _ := by simp
  freed := .refl s
  elsewhere := rfl

/-- Ending a session touches its referral, the record it names, and its link alone. -/
theorem State.endSession_elsewhere (s : State) (k : LinkNo) (l : Link) :
    s.endSession k l = { s with
      manager := { s.manager with
        table := (s.endSession k l).manager.table
        map := (s.endSession k l).manager.map
        attentionCount := (s.endSession k l).manager.attentionCount }
      links := (s.endSession k l).links
      referrals := { s.referrals with records := (s.endSession k l).referrals.records } } := by
  unfold State.endSession State.endReferral
  split
  · rw [State.freeRecord_eq]; rfl
  · rfl

/-- One more link is reset. -/
theorem State.ResetOf.resetLink {ks : List LinkNo} (h : s.ResetOf ks t) (hk : k ∉ ks) :
    s.ResetOf (ks ++ [k]) (t.resetLink k) := by
  have hlink : t.link k = s.link k := by rw [h.link, if_neg hk]
  have href : t.referral k = s.referral k := by rw [h.referral, if_neg fun e => hk e.1]
  cases hen : (s.link k).enable with
  | true =>
    rw [State.resetLink_eq (hlink ▸ hen), hlink]
    have hreset : (s.link k).clear.startAnew = (s.link k).afterReset := by
      rw [Link.afterReset, if_pos hen]
    rw [hreset]
    refine ⟨fun j => ?_, fun j => ?_, ?_, ?_⟩
    · rw [State.link_endSession, h.link]
      by_cases hj : k = j
      · subst hj; simp
      · simp [hj, Ne.symm hj]
    · rw [State.referral_endSession, h.referral]
      by_cases hj : k = j
      · subst hj; simp [hen]
      · simp [hj, Ne.symm hj]
    · have hf := h.freed.endSession k (s.link k).afterReset
      rw [href] at hf
      have hends : s.endsAmong (ks ++ [k]) = fun j => s.endsAmong ks j
          || decide ((s.referral k).map Referral.circuit = some j) :=
        funext fun j => by simp [State.endsAmong, hen]
      rwa [hends]
    · rw [State.endSession_elsewhere, h.elsewhere]
  | false =>
    have hreset : { s.link k with noticeLost := false } = (s.link k).afterReset := by
      rw [Link.afterReset, if_neg (by simp [hen])]
    rw [State.resetLink, hlink, hen, if_neg (by simp), hreset]
    have hends : s.endsAmong (ks ++ [k]) = s.endsAmong ks :=
      funext fun j => by simp [State.endsAmong, hen]
    refine ⟨fun j => ?_, fun j => ?_, hends ▸ h.freed.same rfl rfl rfl, ?_⟩
    · rw [State.link_setLink, h.link]
      by_cases hj : k = j
      · subst hj; simp
      · simp [hj, Ne.symm hj]
    · have hsame : (t.setLink k (s.link k).afterReset).referral j = t.referral j := rfl
      rw [hsame, h.referral]
      by_cases hj : k = j
      · subst hj; simp [hen]
      · simp [Ne.symm hj]
    · have hset : t.setLink k (s.link k).afterReset
          = { t with links := (t.setLink k (s.link k).afterReset).links } := rfl
      rw [hset, h.elsewhere]

/-- Each link of a list is reset once. -/
theorem State.resetOf_foldl (ks : List LinkNo) (h : ks.Nodup) :
    s.ResetOf ks (ks.foldl State.resetLink s) := by
  induction ks using List.reverseRecOn with
  | nil => exact .refl s
  | append_singleton ks k ih =>
    rw [List.foldl_append]
    obtain ⟨hks, -, hdis⟩ := List.nodup_append.mp h
    exact (ih hks).resetLink fun hk => hdis k hk k (by simp) rfl

/-! ## The whole part -/

theorem State.endsAmong_all (s : State) (i : RecNo) :
    s.endsAmong (List.finRange 8) i = decide (s.EndsAtReset i) := by
  rw [Bool.eq_iff_iff]
  simp [State.endsAmong, State.EndsAtReset]

/-- The mailbox at its reset values, and no entry awaited (R188). -/
def State.waitReset (s : State) : State := { s.clearAwaited with mailbox := Mailbox.reset }

/-- A control-plane reset resets every link, from a part whose mailbox and queue have been reset. -/
theorem State.resetOf_linksReset (s : State) :
    s.waitReset.ResetOf (List.finRange 8) s.linksReset := State.resetOf_foldl _
      (List.nodup_finRange 8)

theorem exec_cpReset (s : State) : exec .cpReset s = .next s.controlReset := by rfl

/-- Settles O10, by induction on the links that have been reset. -/
theorem controlResetKeepsSwitching : Obligations.ControlResetKeepsSwitching := by
  unfold Obligations.ControlResetKeepsSwitching
  intro s
  have hreset := s.resetOf_linksReset
  refine ⟨s.controlReset, exec_cpReset s, ?_⟩
  rw [State.controlReset_eq]
  generalize s.linksReset = u at hreset
  obtain ⟨hlink, href, ⟨hrec, hentry, hcount⟩, helse⟩ := hreset
  have hall : ∀ k, u.link k = (s.link k).afterReset := fun k => by
    rw [hlink, if_pos (List.mem_finRange k)]; rfl
  have hrefs : ∀ k, u.referral k = if (s.link k).enable = true then none else s.referral k :=
    fun k => by
      rw [href, if_congr (and_iff_right (List.mem_finRange k)) rfl rfl]; rfl
  have hends : s.waitReset.endsAmong (List.finRange 8) = fun i => decide (s.EndsAtReset i) :=
    funext fun i => State.endsAmong_all _ i
  refine ⟨(congrArg State.mailbox helse :), ?_, (congrArg State.timing helse :),
    (congrArg State.switch helse :), (congrArg State.settings helse :),
      (congrArg State.port helse :),
    (congrArg State.pins helse :), (congrArg State.pending helse :),
    (congrArg (fun u => u.referrals.policy) helse :),
    (congrArg (fun u => u.referrals.timeout) helse :), (congrArg State.manager helse :),
    fun k hk => ?_, fun k hk => ?_, fun i => ?_, fun p l q => ?_, ?_⟩
  · rw [show u.events = s.events from (congrArg State.events helse :)]
  · exact ⟨by rw [← Link.afterReset_disabled hk]; exact hall k, by
      refine (hrefs k).trans ?_; rw [if_neg (by simp [hk])]⟩
  · have hk' := hall k
    rw [Link.afterReset_enabled hk] at hk'
    have hpair : (u.link k).beginFrame.presented.channel = 0xFF
        ∧ (u.link k).beginFrame.presented.handshake = 0xFF := by
      rw [hk']
      exact Link.beginFrame_cutPair { (s.link k).clear.startAnew with
        enable := true, presented := (s.link k).presented } ⟨rfl, rfl⟩
    exact ⟨hk', (hrefs k).trans (if_pos hk), hpair⟩
  · refine (hrec i).trans ?_
    rw [hends, Record.freedIf]
    simp only [decide_eq_true_eq]
    rfl
  · refine (hentry p l q).trans ?_
    rw [hends, show s.waitReset.entry p l q = s.entry p l q from rfl]
    cases s.entry p l q <;> simp [opened]
  · refine hcount.trans ?_
    rw [hends]
    refine congrArg (s.manager.attentionCount - ·) (List.countP_congr fun i _ => ?_)
    rw [show s.waitReset.record i = s.record i from rfl, Bool.and_eq_true, decide_eq_true_eq,
      decide_eq_true_eq]

end Sys2Proof.Machine
end

-- ==== Proofs: the circuits of another party ====
section
/-! SUPPORT. A request of a line unit acts on a circuit of its own or on a record out of use, and
leaves every other circuit as it is (R2, R29). -/

namespace Sys2Proof.Machine

-- The proofs are elaborated one after another: many at once take the text past its memory limit.
set_option Elab.async false

variable {s t u : State} {i j : RecNo} {k : LinkNo}

/-- A circuit keeps every field and every claim. -/
def State.KeepsCircuit (i : RecNo) (s t : State) : Prop :=
  t.record i = s.record i
    ∧ ∀ (p : Plane) (l : Fin 8) (q : Fin 40), t.phase i p l q = s.phase i p l q

theorem State.KeepsCircuit.refl (i : RecNo) (s : State) : s.KeepsCircuit i s :=
  ⟨rfl, fun _ _ _ => rfl⟩

theorem State.ActsOn.keepsCircuit (h : s.ActsOn j t) (hi : i ≠ j) : s.KeepsCircuit i t :=
  ⟨h.records i hi, fun p l q => h.phase_of_ne hi p l q⟩

/-- What leaves the Circuit Manager as it is keeps what has been kept. -/
theorem State.KeepsCircuit.same (h : s.KeepsCircuit i t) (hm : u.manager = t.manager) :
    s.KeepsCircuit i u :=
  ⟨(State.record_congr (by rw [hm]) i).trans h.1,
    fun p l q => (congrArg (PosEntry.phaseOf i) (State.entry_congr (by rw [hm]) p l q)).trans
      (h.2 p l q)⟩

/-- A circuit in use that link k does not own (R29). -/
structure State.Foreign (s : State) (k : LinkNo) (i : RecNo) : Prop where
  used : (s.record i).state ≠ .free ∧ (s.record i).state ≠ .retired
  owner : (s.record i).owner ≠ some (.link k)

theorem State.Foreign.ne_of_allowed (h : s.Foreign k i) (ha : s.Allowed (.line k) j) : i ≠ j := by
  rintro rfl
  exact h.owner (ha k rfl)

theorem State.Foreign.ne_of_mayOpen {f : OpenFields} (h : s.Foreign k i) (ho : s.MayOpen j f) :
    i ≠ j := by
  rintro rfl
  rcases ho.old with hf | hr
  · exact h.used.1 hf
  · exact h.used.2 hr

/-! ## Deferred staging where nobody waits -/

theorem State.serveWaiting_of_none (h : ∀ j, (s.record j).waits = false) :
    s.serveWaiting 1 = s := by
  rcases s.serveWaiting_one with e | ⟨j, -, hj, -⟩
  · exact e
  · have := State.firstRecord_some hj
    rw [h j] at this
    cases this

theorem Record.waits_eq_false {r : Record} (h : r.remaining = some 0 → r.state ≠ .active) :
    r.waits = false := by
  rw [← Bool.not_eq_true, Record.waits_iff]
  exact fun ⟨ha, hr⟩ => h hr ha

/-- An OPENING record that its line unit releases goes to RETIRED, and deferred staging finds
nobody. -/
theorem State.lineEndsOpening_of_nobodyWaits (hw : s.NobodyWaits) (j : RecNo) :
    s.lineEndsOpening j = s.retireOpening j := by
  rw [State.lineEndsOpening_eq]
  refine State.serveWaiting_of_none fun i => Record.waits_eq_false fun h0 => ?_
  by_cases hi : i = j
  · subst hi
    simp [State.retireOpening, State.record_retireRecord]
  · rw [(s.leaves_retireOpening j).acts.records i hi] at h0 ⊢
    rcases hw i h0 with e | e <;> simp [e]

/-! ## Line requests -/

theorem State.KeepsCircuit.finishLine {x : Taken} (h : s.KeepsCircuit i x.after) :
    s.KeepsCircuit i (x.finishLine k) :=
  h.same (State.manager_answerLine _ k _)

theorem State.keepsCircuit_of_unchanged {x : Taken} (h : x.after = s) :
    s.KeepsCircuit i (x.finishLine k) :=
  State.KeepsCircuit.finishLine (h ▸ .refl i s)

theorem State.Foreign.takeLineOpen (h : s.Foreign k i) (tag : Byte) (f : OpenFields) :
    s.KeepsCircuit i (s.takeLineOpen k tag f) := by
  unfold State.takeLineOpen
  split
  · split
    · next j hc ha =>
      have hj := h.ne_of_mayOpen (State.mayOpen_of_check hc ha).1
      rw [State.enterReferral_eq]
      exact ((s.actsOn_allocate j _ _ _).keepsCircuit hj).same rfl
    · exact State.keepsCircuit_of_unchanged rfl
  · rcases s.takeOpen_cases (.line k) f with ⟨ha, -⟩ | ⟨j, hm, -, e⟩
    · exact State.keepsCircuit_of_unchanged ha
    · rw [e]
      exact ((s.stages_acceptOpen j (.line k) f).acts.keepsCircuit (h.ne_of_mayOpen hm)).finishLine

theorem State.Foreign.takeAdd (h : s.Foreign k i) (x gen : Byte) (g : Group) (cu : Option Cutover) :
    s.KeepsCircuit i ((s.takeAdd (.line k) x gen g cu).finishLine k) := by
  rcases s.takeAdd_cases (.line k) x gen g cu with ⟨ha, -⟩ | ⟨j, c, hal, -, -, e⟩
  · exact State.keepsCircuit_of_unchanged ha
  · rw [e]
    exact ((s.stages_acceptAdd j (.line k) g c).acts.keepsCircuit (h.ne_of_allowed hal)).finishLine

theorem State.Foreign.takeDrop (h : s.Foreign k i) (x gen : Byte) (g : Group)
    (cu : Option Cutover) :
    s.KeepsCircuit i ((s.takeDrop (.line k) x gen g cu).finishLine k) := by
  rcases s.takeDrop_cases (.line k) x gen g cu with ⟨ha, -⟩ | ⟨j, c, hal, -, -, -, e⟩
  · exact State.keepsCircuit_of_unchanged ha
  · rw [e]
    exact ((s.stages_acceptDrop j (.line k) g c).acts.keepsCircuit (h.ne_of_allowed hal)).finishLine

theorem State.Foreign.takeRelease (h : s.Foreign k i) (hw : s.NobodyWaits) (x gen : Byte)
    (cu : Option Cutover) :
    s.KeepsCircuit i ((s.takeRelease (.line k) x gen cu).finishLine k) := by
  rcases s.takeRelease_cases (.line k) x gen cu with ⟨ha, -⟩ | ⟨j, c, hal, ha, -, hst⟩
  · exact State.keepsCircuit_of_unchanged ha
  · refine State.KeepsCircuit.finishLine ?_
    have hne := h.ne_of_allowed hal
    rw [ha]
    rcases hst with ho | ⟨hact, -⟩
    · rw [State.acceptRelease_line ho]
      show s.KeepsCircuit i (s.lineEndsOpening j)
      rw [State.lineEndsOpening_of_nobodyWaits hw]
      exact (s.leaves_retireOpening j).acts.keepsCircuit hne
    · rw [State.acceptRelease_active hact]
      exact (s.stages_releaseActive j (.line k) c).acts.keepsCircuit hne

theorem State.Foreign.takeRenew (h : s.Foreign k i) (x gen v : Byte) :
    s.KeepsCircuit i ((s.takeRenew (.line k) x gen v).finishLine k) := by
  rcases s.takeRenew_cases (.line k) x gen v with ⟨ha, -⟩ | ⟨j, hal, e⟩
  · exact State.keepsCircuit_of_unchanged ha
  · rw [e]
    exact ((s.actsOn_acceptRenew j v).keepsCircuit (h.ne_of_allowed hal)).finishLine

/-- Whatever link k has handed on, it leaves the circuits of other parties alone (R29). -/
theorem State.Foreign.takeHanded (h : s.Foreign k i) (hw : s.NobodyWaits)
    (kind : LineRequest → Bool) :
    s.KeepsCircuit i (s.takeHanded k kind) := by
  unfold State.takeHanded
  split
  · next tag q _ =>
    split
    · cases q with
      | openCircuit sl ss w sf v ds => exact h.takeLineOpen tag _
      | add x g l f => exact h.takeAdd x g _ _
      | drop x g l f => exact h.takeDrop x g _ _
      | release x g => exact h.takeRelease hw x g _
      | renew x g v => exact h.takeRenew x g v
      | status x g => exact State.keepsCircuit_of_unchanged (s.takeStatus_after k x g).1
    · exact .refl i s
  · exact .refl i s

/-- Settles O56, by cases on the request: the record that it acts on is link k's own or out of use.
-/
theorem lineRequestsLeaveOtherCircuitsAlone : Obligations.LineRequestsLeaveOtherCircuitsAlone := by
  unfold Obligations.LineRequestsLeaveOtherCircuitsAlone
  intro s t k c i hc hw hstep hfree hretired howner
  have hfor : s.Foreign k i := ⟨⟨hfree, hretired⟩, howner⟩
  have htaken : ∃ kind, t = s.takeHanded k kind := by
    rcases hc with rfl | rfl | rfl | rfl | rfl | rfl <;>
      exact ⟨_, (Host.Outcome.next.inj hstep).symm⟩
  obtain ⟨kind, rfl⟩ := htaken
  obtain ⟨hrec, hphase⟩ := hfor.takeHanded hw kind
  refine ⟨hrec, fun p l q ph => ?_⟩
  rw [← State.phase_eq_some, ← State.phase_eq_some, hphase]

end Sys2Proof.Machine
end

-- ==== Proofs: the checks of a request, in their order ====
section
/-! SUPPORT. The checks that the model makes of a request are those that the statements list, one
after another (R27 to R36): each check of the model is a check of the list, or a run of them. -/

namespace Sys2Proof.Machine

-- The proofs are elaborated one after another: many at once take the text past its memory limit.
set_option Elab.async false

variable {s : State} {i : RecNo}

/-! ## The first check that fails -/

/-- The outcome of the first check of a list that fails, none when each passes (R27). -/
def firstFailing (checks : List (Bool × OutcomeCode)) : Option OutcomeCode :=
  firstFailure (checks.map fun c => failIf c.1 c.2)

theorem firstFailure_cons (a : Option OutcomeCode) (l : List (Option OutcomeCode)) :
    firstFailure (a :: l) = a.or (firstFailure l) := by
  cases a <;> simp [firstFailure]

@[simp] theorem firstFailure_nil : firstFailure [] = none := rfl

@[simp] theorem firstFailing_nil : firstFailing [] = none := rfl

theorem firstFailing_cons (c : Bool × OutcomeCode) (l : List (Bool × OutcomeCode)) :
    firstFailing (c :: l) = (failIf c.1 c.2).or (firstFailing l) :=
  firstFailure_cons _ _

theorem firstFailing_append (a b : List (Bool × OutcomeCode)) :
    firstFailing (a ++ b) = (firstFailing a).or (firstFailing b) := by
  simp only [firstFailing, firstFailure, List.map_append, List.findSome?_append]

theorem firstOutcome_eq (l : List (Bool × OutcomeCode)) :
    firstOutcome l = (firstFailing l).getD .ok := by
  induction l with
  | nil => rfl
  | cons c rest ih =>
    obtain ⟨b, o⟩ := c
    rw [firstFailing_cons]
    cases b with
    | true => rfl
    | false => exact ih

/-- A list whose outcome is not OK has a check that fails. -/
theorem firstFailing_of_outcome {l : List (Bool × OutcomeCode)} (h : firstOutcome l ≠ .ok) :
    firstFailing l = some (firstOutcome l) := by
  rw [firstOutcome_eq] at h ⊢
  cases hl : firstFailing l with
  | none => rw [hl] at h; exact absurd rfl h
  | some o => rfl

/-! ## The reference, the owner and the state -/

/-- A reference is looked up exactly where it names the record (R13). -/
theorem State.lookup_eq_some (x g : Byte) : s.lookup x g = some i ↔ s.Names x g i := by
  refine ⟨fun h => ?_, s.lookup_of_names x g i⟩
  have hst := State.lookup_some h
  unfold State.lookup at h
  split at h
  · next j hj =>
    split at h
    · next hk =>
      cases h
      unfold recordOf at hj
      split at hj
      · cases hj
        simp only [Record.known, Bool.and_eq_true, beq_iff_eq] at hk
        exact ⟨rfl, hk.1.1, hst⟩
      · cases hj
    · cases h
  · cases h

theorem State.lookup_eq_none {x g : Byte} (h : ∀ i, ¬s.Names x g i) : s.lookup x g = none := by
  cases hl : s.lookup x g with
  | none => rfl
  | some i => exact absurd (State.lookup_eq_some x g |>.mp hl) (h i)

/-- But for a RENEW of 0, ownership is a line unit's concern alone (R29). -/
theorem Naming.ownerCheck_eq {q : Naming} (hq : q ≠ .renew 0) (who : Requester) (r : Record) :
    q.ownerCheck who r = failIf (r.ownership who).1 .notOwner := by
  cases who with
  | host => rw [Naming.ownerCheck, decide_eq_false hq]; rfl
  | line k => rfl

theorem Naming.ownerCheck_renew (v : Byte) (who : Requester) (r : Record) :
    (Naming.renew v).ownerCheck who r = (failIf (r.ownership who).1 .notOwner).or
      (failIf (decide (who = .host ∧ v = 0 ∧ r.owner ≠ some .host)) .notOwner) := by
  cases who with
  | host =>
    have hzero : (decide (Naming.renew v = .renew 0) && r.owner != some .host)
        = decide (Requester.host = .host ∧ v = 0 ∧ r.owner ≠ some .host) := by
      rw [Bool.eq_iff_iff]
      simp
    rw [Naming.ownerCheck, hzero]
    rfl
  | line k =>
    rw [decide_eq_false (fun h => by cases h.1)]
    exact (Option.or_none).symm

theorem Naming.stateCheck_add (r : Record) : Naming.add.stateCheck r =
    (failIf r.mustBeActive.1 .pending).or
      (failIf (decide (r.state = .active ∧ 4 ≤ r.dests.length)) .limit) := by
  cases h : r.state <;> simp [Naming.stateCheck, Record.mustBeActive, h, failIf]

theorem Naming.stateCheck_drop (r : Record) : Naming.drop.stateCheck r =
    (failIf r.mustBeActive.1 .pending).or
      (failIf (decide (r.state = .active ∧ r.dests.length ≤ 1)) .limit) := by
  cases h : r.state <;> simp [Naming.stateCheck, Record.mustBeActive, h, failIf]

theorem Naming.stateCheck_move (r : Record) : Naming.move.stateCheck r =
    failIf r.mustBeActive.1 .pending := by
  cases h : r.state <;> simp [Naming.stateCheck, Record.mustBeActive, h, failIf]

/-- Whether a CLOSING record closes by its lease decides what its state check gives (R30). -/
theorem Record.closingByLease_of_closing {r : Record} (h : r.state = .closing) :
    r.closingByLease = decide (r.staged.map Staged.cause = some .lease) := by
  rw [Record.closingByLease, h]
  simp

theorem Record.closingByLease_of_ne {r : Record} (h : r.state ≠ .closing) :
    r.closingByLease = false := by
  rw [Record.closingByLease]
  simp [h]

/-- The state check of a request that a CLOSING record refuses, by lease or not (R30). -/
theorem Naming.stateCheck_closing {q : Naming} {r : Record} (h : r.state = .closing) :
    ((q = .release ∨ ∃ v, q = .renew v) → q.stateCheck r =
        some (if r.closingByLease then .retiring else .pending))
      ∧ ((q = .cancel ∨ q = .adopt) → q.stateCheck r = failIf r.closingByLease .retiring) := by
  rw [Record.closingByLease_of_closing h]
  constructor
  · rintro (rfl | ⟨v, rfl⟩) <;> cases hs : r.staged <;> simp [Naming.stateCheck, h, hs]
  · rintro (rfl | rfl) <;> cases hs : r.staged <;> simp [Naming.stateCheck, h, hs]

theorem Naming.stateCheck_release (r : Record) : Naming.release.stateCheck r =
    (failIf r.closingByLease .retiring).or
      (failIf (decide (r.state = .referred ∨ r.state = .altering ∨ r.state = .closing))
        .pending) := by
  by_cases h : r.state = .closing
  · rw [(Naming.stateCheck_closing h).1 (.inl rfl), h]
    cases r.closingByLease <;> rfl
  · rw [Record.closingByLease_of_ne h]
    cases hs : r.state <;> simp_all [Naming.stateCheck, failIf]

theorem Naming.stateCheck_renew (v : Byte) (r : Record) : (Naming.renew v).stateCheck r =
    (failIf r.closingByLease .retiring).or
      (failIf (decide (r.state = .referred ∨ r.state = .closing)) .pending) := by
  by_cases h : r.state = .closing
  · rw [(Naming.stateCheck_closing h).1 (.inr ⟨v, rfl⟩), h]
    cases r.closingByLease <;> rfl
  · rw [Record.closingByLease_of_ne h]
    cases hs : r.state <;> simp_all [Naming.stateCheck, failIf]

theorem Naming.stateCheck_ending {q : Naming} (hq : q = .cancel ∨ q = .adopt) (r : Record) :
    q.stateCheck r = (failIf r.closingByLease .retiring).or
      (failIf (decide (r.state = .referred)) .pending) := by
  by_cases h : r.state = .closing
  · rw [(Naming.stateCheck_closing h).2 hq, h]
    cases r.closingByLease <;> rfl
  · rw [Record.closingByLease_of_ne h]
    rcases hq with rfl | rfl <;> cases hs : r.state <;> simp_all [Naming.stateCheck, failIf]

theorem Naming.stateCheck_status (r : Record) : Naming.status.stateCheck r = none := by
  simp [Naming.stateCheck]

/-- The circuit-named check of a known reference: ownership, then state (R29). -/
theorem State.circuitCheck_eq {who : Requester} {q : Naming} {x g : Byte} (hn : s.Names x g i) :
    s.circuitCheck who q x g = (q.ownerCheck who (s.record i)).or (q.stateCheck (s.record i)) := by
  simp only [State.circuitCheck, s.lookup_of_names x g i hn, firstFailure_cons, firstFailure_nil,
    Option.or_none]

/-! ## Ranges, reach and distance -/

theorem Group.outside_eq (g : Group) (w : Nat) : g.outside w = !g.inRange w := by
  rw [Group.outside, Group.inRange, Bool.eq_iff_iff, decide_eq_true_eq, Config.bearerSlots]
  simp only [Bool.not_eq_true', Bool.and_eq_false_iff, decide_eq_false_iff_not]
  omega

theorem sourceOutsideRange_eq (src : Option Source) (w : Nat) :
    sourceOutsideRange src w = !sourceInRange src w := by
  rcases src with _ | ⟨l, q⟩ | v
  · rfl
  · exact Group.outside_eq _ w
  · rfl

theorem State.reachCheck_eq (who : Requester) (links : List Nat) :
    s.reachCheck who links = failIf (s.beyondReach who links).1 .notPermitted := by
  cases who with
  | host => rfl
  | line k =>
    simp only [State.reachCheck, State.beyondReach, State.reaches, List.not_all_eq_any_not]

theorem State.cutoverCheck_eq (c : Option Cutover) :
    s.cutoverCheck c = failIf (s.tooFar c).1 .badCutover := by
  rcases c with _ | _ | _ | n
  · rfl
  · rfl
  · rfl
  · rw [State.cutoverCheck, State.tooFar, Config.farthestCutover]
    congr 1
    rw [Bool.eq_iff_iff, decide_eq_true_eq]
    simp only [Bool.not_eq_true', Bool.and_eq_false_iff, decide_eq_false_iff_not]
    omega

theorem State.roomCheck_eq : s.roomCheck = failIf s.noRoom.1 .queueFull := by
  rw [State.roomCheck, State.noRoom, decide_not]
  rfl

/-! ## Positions -/

/-- Some position of a list passes a test that no FIXED entry passes, exactly where some position
that the list holds, of those within the part, passes it. -/
theorem State.any_entry_eq {ps : List (Plane × Nat × Nat)} {picks : Plane → Nat → Nat → Bool}
    (h : ∀ p l q, (p, l, q) ∈ ps ↔ picks p l q = true) {test : PosEntry → Bool}
    (ht : test .fixed = false) :
    (ps.any fun x => test (s.entry x.1 x.2.1 x.2.2)) =
      [Plane.ingress, .egress].any fun p => (List.finRange 8).any fun l =>
        (List.finRange 40).any fun q => picks p l q && test (s.entry p l q) := by
  rw [Bool.eq_iff_iff]
  simp only [List.any_eq_true, Bool.and_eq_true]
  constructor
  · rintro ⟨⟨p, l, q⟩, hx, htest⟩
    have hin : l < 8 ∧ q < 40 := by
      by_contra hout
      rw [s.entry_outside hout, ht] at htest
      cases htest
    exact ⟨p, by cases p <;> simp, ⟨l, hin.1⟩, List.mem_finRange _, ⟨q, hin.2⟩,
      List.mem_finRange _, (h p l q).mp hx, htest⟩
  · rintro ⟨p, -, l, -, q, -, hp, htest⟩
    exact ⟨(p, l, q), (h p l q).mpr hp, htest⟩

/-- The barred-and-busy check over the positions that a test picks (R35). -/
theorem State.positionsCheck_eq {ps : List (Plane × Nat × Nat)} {picks : Plane → Nat → Nat → Bool}
    (h : ∀ p l q, (p, l, q) ∈ ps ↔ picks p l q = true) :
    s.positionsCheck ps = firstFailing (s.taken picks) := by
  have hbarred := s.any_entry_eq h (test := fun e => decide (e = .barred)) rfl
  have hbusy := s.any_entry_eq h (test := PosEntry.isClaimed) rfl
  simp only [State.positionsCheck, State.taken, firstFailure_cons, firstFailing_cons,
    firstFailure_nil, firstFailing_nil, hbarred, hbusy]

theorem mem_groupPositions_iff (p' : Plane) (g : Group) (w : Nat) (p : Plane) (l q : Nat) :
    (p, l, q) ∈ groupPositions p' g w ↔ p = p' ∧ inGroup g w l q = true := by
  refine ⟨fun h => ?_, fun h => h.1 ▸ mem_groupPositions_of_inGroup p h.2⟩
  obtain ⟨hp, hl, hge, hlt⟩ := mem_groupPositions _ _ _ _ h
  refine ⟨hp, ?_⟩
  simp only [inGroup, Bool.and_eq_true, beq_iff_eq, decide_eq_true_eq]
  exact ⟨⟨hl, hge⟩, hlt⟩

theorem mem_sourcePositions_iff (src : Option Source) (w : Nat) (p : Plane) (l q : Nat) :
    (p, l, q) ∈ sourcePositions src w ↔ p = .ingress ∧ inSource src w l q = true := by
  rcases src with _ | ⟨a, b⟩ | v
  · simp [sourcePositions, inSource]
  · exact mem_groupPositions_iff _ _ _ _ _ _
  · simp [sourcePositions, inSource]

theorem mem_egressPositions_iff (g : Group) (w : Nat) (p : Plane) (l q : Nat) :
    (p, l, q) ∈ groupPositions .egress g w ↔ egressGroup g w p l q = true := by
  rw [mem_groupPositions_iff]
  cases p <;> simp [egressGroup]

/-- The positions that a MOVE would newly claim are those of the new source alone (R43). -/
theorem mem_movePositions_iff (src old : Option Source) (w : Nat) (p : Plane) (l q : Nat) :
    ((p, l, q) ∈ (sourcePositions src w).filter fun x => !inSource old w x.2.1 x.2.2)
      ↔ sourceOutside src old w p l q = true := by
  rw [List.mem_filter, mem_sourcePositions_iff]
  cases p <;> simp [sourceOutside]

theorem OpenFields.mem_positions_iff (f : OpenFields) (p : Plane) (l q : Nat) :
    (p, l, q) ∈ f.positions ↔ inCircuit f.source f.dests f.width p l q = true := by
  simp only [OpenFields.positions, List.mem_append, List.mem_flatMap, mem_sourcePositions_iff,
    mem_groupPositions_iff]
  cases p <;> simp [inCircuit]

/-! ## The checks of each request -/

theorem OpenFields.formatCheck_eq (f : OpenFields) (who : Requester) : f.formatCheck who =
    failIf (decide (f.width = 0 ∨ 4 < f.width ∨ f.count = 0 ∨ 4 < f.count ∨ f.source = none
      ∨ f.cutover = none ∨ (who ≠ .host ∧ f.lease = 0))) .badFormat := by
  rw [OpenFields.formatCheck]
  congr 1
  rw [Bool.eq_iff_iff, decide_eq_true_eq]
  simp only [Bool.or_eq_true, beq_iff_eq, decide_eq_true_eq, Option.isNone_iff_eq_none,
    Bool.and_eq_true, bne_iff_ne, or_assoc]

/-- Allocation finds no record where none is FREE or RETIRED (R9, R36). -/
theorem State.available_isNone : s.available.isNone =
    decide (∀ i : RecNo, (s.record i).state ≠ .free ∧ (s.record i).state ≠ .retired) := by
  rw [Bool.eq_iff_iff, Option.isNone_iff_eq_none, decide_eq_true_eq]
  unfold State.available
  constructor
  · intro h i
    split at h
    · cases h
    · next hfree =>
      exact ⟨by simpa using State.firstRecord_none hfree i,
        by simpa using State.firstRecord_none h i⟩
  · intro h
    rw [State.firstRecord_eq_none fun j => by simp [(h j).1]]
    exact State.firstRecord_eq_none fun j => by simp [(h j).2]

/-- The checks of an OPEN (R27, R38, R40). -/
theorem State.openCheck_eq (who : Requester) (referred : Bool) (f : OpenFields) :
    s.openCheck who referred f = firstFailing (s.openChecks who referred f) := by
  have hrange : (sourceOutsideRange f.source f.width || f.dests.any fun g => g.outside f.width)
      = !(sourceInRange f.source f.width && f.dests.all fun g => g.inRange f.width) := by
    simp only [sourceOutsideRange_eq, Group.outside_eq, Bool.not_and, List.not_all_eq_any_not]
  have hroom : firstFailing (if referred then [] else [s.noRoom])
      = if referred then none else s.roomCheck := by
    cases referred with
    | true => rfl
    | false =>
      rw [s.roomCheck_eq]
      exact (firstFailing_cons _ _).trans Option.or_none
  simp only [State.openCheck, State.openChecks, firstFailure_cons, firstFailure_nil, hrange,
    firstFailing_append, firstFailing_cons, firstFailing_nil, hroom, f.formatCheck_eq,
    s.reachCheck_eq, s.cutoverCheck_eq, s.positionsCheck_eq f.mem_positions_iff, OpenFields.links,
    s.available_isNone, Option.or_none, Option.or_assoc]
  rfl

/-- The checks of an ADD on the record that it names (R27, R41). -/
theorem State.addCheck_eq {who : Requester} {x gen : Byte} (hn : s.Names x gen i) (g : Group)
    (c : Option Cutover) : firstFailure [
      s.circuitCheck who .add x gen,
      failIf (!g.inRange (s.record i).width) .badPosition,
      failIf ((s.record i).dests.any fun h => g.overlaps h (s.record i).width) .overlap,
      s.reachCheck who [g.link],
      s.cutoverCheck c,
      s.positionsCheck (groupPositions .egress g (s.record i).width),
      s.roomCheck] = firstFailing (s.addChecks who g c (s.record i)) := by
  simp only [State.addChecks, State.circuitCheck_eq hn, Naming.stateCheck_add,
    Naming.ownerCheck_eq (q := .add) (by simp), Group.outside_eq, s.reachCheck_eq,
    s.cutoverCheck_eq,
    s.positionsCheck_eq (mem_egressPositions_iff _ _), s.roomCheck_eq, firstFailure_cons,
    firstFailing_append, List.cons_append, List.nil_append,
    firstFailing_cons, Option.or_assoc]
  rfl

/-- The checks of a DROP on the record that it names (R27, R42). -/
theorem State.dropCheck_eq {who : Requester} {x gen : Byte} (hn : s.Names x gen i) (g : Group)
    (c : Option Cutover) : firstFailure [
      s.circuitCheck who .drop x gen,
      failIf (!(g.inRange (s.record i).width && (s.record i).dests.contains g)) .badPosition,
      s.reachCheck who [g.link],
      s.cutoverCheck c,
      s.roomCheck] = firstFailing (s.dropChecks who g c (s.record i)) := by
  have hrange : (g.outside (s.record i).width || decide (g ∉ (s.record i).dests))
      = !(g.inRange (s.record i).width && (s.record i).dests.contains g) := by
    rw [Group.outside_eq, Bool.not_and, decide_not, List.contains_eq_mem]
  simp only [State.dropChecks, State.circuitCheck_eq hn, Naming.stateCheck_drop,
    Naming.ownerCheck_eq (q := .drop) (by simp), hrange, s.reachCheck_eq, s.cutoverCheck_eq,
    s.roomCheck_eq, firstFailure_cons, firstFailing_cons, Option.or_assoc]
  rfl

/-- The checks of a MOVE on the record that it names (R27, R43). -/
theorem State.moveCheck_eq {x gen : Byte} (hn : s.Names x gen i) (src : Option Source)
    (c : Option Cutover) : firstFailure [
      s.circuitCheck .host .move x gen,
      failIf (!sourceInRange src (s.record i).width) .badPosition,
      s.cutoverCheck c,
      s.positionsCheck ((sourcePositions src (s.record i).width).filter fun x =>
        !inSource (s.record i).source (s.record i).width x.2.1 x.2.2),
      s.roomCheck] = firstFailing (s.moveChecks src c (s.record i)) := by
  have howner : Naming.move.ownerCheck .host (s.record i) = none := rfl
  simp only [State.moveChecks, State.circuitCheck_eq hn, Naming.stateCheck_move, howner,
    sourceOutsideRange_eq, s.cutoverCheck_eq, s.positionsCheck_eq (mem_movePositions_iff _ _ _),
    s.roomCheck_eq, firstFailure_cons, firstFailing_append, List.cons_append, List.nil_append,
    firstFailing_cons, Option.none_or]
  rfl

/-- The checks of a RELEASE on the record that it names (R27, R44, R45). -/
theorem State.releaseCheck_eq {who : Requester} {x gen : Byte} (hn : s.Names x gen i)
    (c : Option Cutover) : firstFailure [
      s.circuitCheck who .release x gen,
      s.cutoverCheck c,
      if (s.record i).state = .active then s.roomCheck else none]
        = firstFailing (s.releaseChecks who c (s.record i)) := by
  have hroom : (if (s.record i).state = .active then s.roomCheck else none)
      = failIf (decide ((s.record i).state = .active ∧ ¬s.HasRoom)) .queueFull := by
    rw [s.roomCheck_eq]
    by_cases ha : (s.record i).state = .active <;> simp [ha, State.noRoom, failIf]
  simp only [State.releaseChecks, State.circuitCheck_eq hn, Naming.stateCheck_release,
    Naming.ownerCheck_eq (q := .release) (by simp), s.cutoverCheck_eq, hroom, firstFailure_cons,
    firstFailing_cons, Option.or_assoc]
  rfl

/-- The checks of a RENEW on the record that it names (R27, R47). -/
theorem State.renewCheck_eq {who : Requester} {x gen : Byte} (hn : s.Names x gen i) (v : Byte) :
    firstFailure [s.circuitCheck who (.renew v) x gen]
      = firstFailing (Record.renewChecks who v (s.record i)) := by
  simp only [Record.renewChecks, State.circuitCheck_eq hn, Naming.stateCheck_renew,
    Naming.ownerCheck_renew, firstFailure_cons, firstFailing_cons, Option.or_assoc]
  rfl

/-- The checks of a CANCEL and of an ADOPT on the record that it names (R27, R46, R48). -/
theorem State.endingCheck_eq {q : Naming} (hq : q = .cancel ∨ q = .adopt) {x gen : Byte}
    (hn : s.Names x gen i) : firstFailure [s.circuitCheck .host q x gen]
      = firstFailing (s.record i).endingChecks := by
  have howner : q.ownerCheck .host (s.record i) = none := by rcases hq with rfl | rfl <;> rfl
  simp only [Record.endingChecks, State.circuitCheck_eq hn, Naming.stateCheck_ending hq, howner,
    firstFailure_cons, firstFailing_cons, Option.or_assoc, Option.none_or]
  rfl

/-- The checks of a STATUS on the record that it names (R27, R50). -/
theorem State.statusCheck_eq {who : Requester} {x gen : Byte} (hn : s.Names x gen i) :
    firstFailure [s.circuitCheck who .status x gen]
      = firstFailing [(s.record i).ownership who] := by
  rw [State.circuitCheck_eq hn, Naming.stateCheck_status, Naming.ownerCheck_eq (by simp),
    Option.or_none]
  rfl

end Sys2Proof.Machine
end

-- ==== Proofs: refused requests ====
section
/-! SUPPORT. A request that is refused (R24, R26, R27): the host's changes the mailbox alone, the
line unit's its own link alone, and each is answered with the outcome of its first failing check. -/

namespace Sys2Proof.Machine

-- The proofs are elaborated one after another: many at once take the text past its memory limit.
set_option Elab.async false

variable {s t u : State} {i : RecNo} {k : LinkNo} {code : BitVec 7} {await : Bool}

/-! ## A request on a circuit that is refused -/

section decideOn

variable {x g : Byte} {checks : Record → List (Option OutcomeCode)}
  {accept : RecNo → Option RecNo × State}

/-- A request of a wrong format, or with an unknown reference (R13, R26, R28). -/
theorem State.decideOn_unknown {b : Bool} (h : b = true ∨ ∀ i, ¬s.Names x g i) :
    s.decideOn x g (failIf b .badFormat) checks accept =
      ⟨s.refusal (if b then .badFormat else .unknownCircuit) x g none, none, s⟩ := by
  cases b with
  | true =>
    have hfirst : ∀ l, firstFailure (failIf true .badFormat :: l) = some .badFormat := fun l =>
      firstFailure_cons _ l
    unfold State.decideOn
    cases hl : s.lookup x g with
    | none => rfl
    | some j => simp only [hfirst]; rfl
  | false =>
    have hl : s.lookup x g = none := State.lookup_eq_none (h.resolve_left (by simp))
    simp only [State.decideOn, State.refuse, hl]
    rfl

/-- A request of the right format and with a known reference, at its first failing check (R26, R27).
-/
theorem State.decideOn_failed {o : OutcomeCode} (hn : s.Names x g i)
    (hc : firstFailure (checks (s.record i)) = some o) :
    s.decideOn x g none checks accept = ⟨s.refusal o x g (some i), none, s⟩ := by
  have hl := s.lookup_of_names x g i hn
  have hfirst : firstFailure (none :: checks (s.record i)) = some o := hc
  simp only [State.decideOn, State.refuse, hl, hfirst]
  rfl

end decideOn

/-! ## The host's commands -/

/-- An answer that is a refusal changes nothing and stages nothing (R26). -/
def RefusedCleanly (s : State) (x : Answer × State) : Prop :=
  x.1.outcome ≠ .ok → x.2 = s ∧ x.1.staged = none

theorem refusedCleanly_of_same (s : State) (o : OutcomeCode) (v : Vector Byte 24) :
    RefusedCleanly s (⟨o, v, none⟩, s) := fun _ => ⟨rfl, rfl⟩

theorem refusedCleanly_of_ok {x : Answer × State} (h : x.1.outcome = .ok) : RefusedCleanly s x :=
  fun hne => absurd h hne

theorem State.refusedCleanly_decideOn (s : State) (x g : Byte) (format : Option OutcomeCode)
    (checks : Record → List (Option OutcomeCode)) (accept : RecNo → Option RecNo × State) :
    RefusedCleanly s (s.decideOn x g format checks accept).answer := by
  rcases s.decideOn_cases x g format checks accept with h | ⟨i, -, -, -, e⟩
  · exact fun _ => h
  · rw [e]
    exact refusedCleanly_of_ok rfl

theorem State.refusedCleanly_hostOpen (s : State) : RefusedCleanly s s.hostOpen := by
  rcases s.takeOpen_cases .host s.requestOpen with h | ⟨i, -, -, e⟩
  · exact fun _ => h
  · rw [State.hostOpen, e]
    exact refusedCleanly_of_ok rfl

theorem State.refusedCleanly_takeQuery (s : State) (x v : Byte) :
    RefusedCleanly s (s.takeQuery x v) := by
  unfold State.takeQuery
  split
  · exact refusedCleanly_of_same _ _ _
  · exact refusedCleanly_of_ok rfl

theorem State.refusedCleanly_takeBar (s : State) (new : PosEntry) (p l q : Byte) :
    RefusedCleanly s (s.takeBar new p l q) := by
  unfold State.takeBar
  split
  · exact refusedCleanly_of_same _ _ _
  · split
    · split
      · exact refusedCleanly_of_same _ _ _
      · exact refusedCleanly_of_ok rfl
    · exact refusedCleanly_of_same _ _ _

theorem State.refusedCleanly_takeDecide (s : State) (l v : Byte) :
    RefusedCleanly s (s.takeDecide l v) := by
  unfold State.takeDecide
  split
  · split
    · exact refusedCleanly_of_same _ _ _
    · dsimp only
      split
      · exact refusedCleanly_of_ok rfl
      · exact refusedCleanly_of_same _ _ _
  · split
    · exact refusedCleanly_of_same _ _ _
    · exact refusedCleanly_of_ok rfl
  · exact refusedCleanly_of_same _ _ _

theorem State.refusedCleanly_hostSetSuperframe (s : State) :
    RefusedCleanly s s.hostSetSuperframe := by
  unfold State.hostSetSuperframe
  dsimp only
  split
  · exact refusedCleanly_of_same _ _ _
  · exact refusedCleanly_of_ok rfl

/-- A command body that changes nothing and stages nothing where it refuses (R26). -/
def RefusesCleanly (body : State → Answer × State) : Prop := ∀ s, RefusedCleanly s (body s)

/-- Whatever its code, a command that is refused changes nothing (R24, R26). -/
theorem refusesCleanly_commandBody (code : BitVec 7) : RefusesCleanly (commandBody code) := by
  unfold commandBody
  split
  · exact fun s => s.refusedCleanly_hostOpen
  · exact fun s => s.refusedCleanly_decideOn _ _ _ _ _
  · exact fun s => s.refusedCleanly_decideOn _ _ _ _ _
  · exact fun s => s.refusedCleanly_decideOn _ _ _ _ _
  · exact fun s => s.refusedCleanly_decideOn _ _ _ _ _
  · exact fun s => s.refusedCleanly_decideOn _ _ _ _ _
  · exact fun s => s.refusedCleanly_decideOn _ _ _ _ _
  · exact fun s => s.refusedCleanly_decideOn _ _ _ _ _
  · exact fun s => s.refusedCleanly_takeQuery _ _
  · exact fun s _ => ⟨rfl, s.takeLocate_staged _ _ _⟩
  · exact fun s _ => ⟨rfl, s.takeNext_staged _ _ _⟩
  · exact fun s => s.refusedCleanly_takeBar _ _ _ _
  · exact fun s => s.refusedCleanly_takeBar _ _ _ _
  · exact fun s _ => ⟨rfl, s.takeReadReferral_staged _⟩
  · exact fun s => s.refusedCleanly_takeDecide _ _
  · exact fun s => s.refusedCleanly_hostSetSuperframe
  · exact fun s => refusedCleanly_of_same _ _ _

/-- The row of a command code, and either row of DECIDE, is a COMMAND write of that code (R181). -/
theorem exec_commandRow (code : BitVec 7) (await : Bool) (s : State) :
    exec (Decode.commandRow code await) s = .next (s.writeCommand code await) := by
  have hcode : code = BitVec.ofNat 7 code.toNat := (BitVec.ofNat_toNat 7 code).symm.trans (by simp)
  unfold Decode.commandRow
  split
  case h_17 => rfl
  all_goals
    next h =>
      rw [h] at hcode
      subst hcode
      rfl

/-- An answer leaves the mailbox AWAITING, or completes it with the outcome it has (R182). -/
theorem State.finishCommand_cases (s : State) (await : Bool) (a : Answer) :
    (s.finishCommand await a).mailbox.awaiting = true
      ∨ s.finishCommand await a = (s.setResponse a.response).complete a.outcome := by
  unfold State.finishCommand
  dsimp only
  split
  · split
    · exact .inl rfl
    · exact .inr rfl
  · exact .inr rfl

/-- A command whose outcome is not OK has changed nothing but the mailbox (R24, R26, R183). -/
theorem State.writeCommand_refused (hr : s.Ready) (ht : t = s.writeCommand code await)
    (haw : t.mailbox.awaiting = false) (ho : t.mailbox.outcome ≠ .ok) :
    t = { s with mailbox := t.mailbox, events := { s.events with flags := t.events.flags } }
      ∧ s.AnswersAtOnce t code await t.mailbox.outcome t.mailbox.response s.events.flags := by
  have hclean := refusesCleanly_commandBody code (s.noteCommand code await)
  rw [State.writeCommand, State.takeCommand_ready hr
    (Prod.mk.eta (p := commandBody code (s.noteCommand code await))).symm] at ht
  generalize commandBody code (s.noteCommand code await) = x at ht hclean
  obtain ⟨a, u⟩ := x
  rcases u.finishCommand_cases await a with hw | e
  · rw [ht, hw] at haw
    cases haw
  · rw [e] at ht
    rw [ht] at ho ⊢
    obtain ⟨rfl, -⟩ := hclean ho
    exact ⟨rfl, State.answersAtOnce_complete rfl _ _⟩

section hostCommand

variable {c : Instr} {body : State → Answer × State}

/-- A command whose answer is a refusal (R24, R183). -/
theorem State.hostRefused (hr : s.Ready) (hexec : exec c s = .next (s.takeCommand code await body))
    {o : OutcomeCode} {v : Vector Byte 24}
    (hbody : body (s.noteCommand code await) = (⟨o, v, none⟩, s.noteCommand code await)) :
    s.HostRefused c code await o v := by
  rw [State.takeCommand_ready hr hbody] at hexec
  exact ⟨_, hexec, rfl, State.answersAtOnce_complete rfl o v⟩

/-- A command on a circuit, checked as the statements list it (R26, R27). -/
theorem State.hostChecked (hr : s.Ready) (hexec : exec c s = .next (s.takeCommand code await body))
    {format b : Bool} (hformat : b = format) {checks : Record → List (Bool × OutcomeCode)}
    {checks' : Record → List (Option OutcomeCode)} {accept : RecNo → Option RecNo × State}
    (hbody : body (s.noteCommand code await) = ((s.noteCommand code await).decideOn (s.request 0)
      (s.request 1) (failIf b .badFormat) checks' accept).answer)
    (hchecks : ∀ i, s.Names (s.request 0) (s.request 1) i →
      firstFailure (checks' (s.record i)) = firstFailing (checks (s.record i))) :
    s.HostChecked c code await format checks := by
  subst hformat
  refine ⟨fun h => ?_, fun i hf hn ho => ?_⟩
  · rw [State.decideOn_unknown (s := s.noteCommand code await) h] at hbody
    exact State.hostRefused hr hexec hbody
  · have hfail := (hchecks i hn).trans (firstFailing_of_outcome ho)
    subst hf
    rw [show failIf false .badFormat = none from rfl,
      State.decideOn_failed (s := s.noteCommand code await) hn hfail] at hbody
    exact State.hostRefused hr hexec hbody

end hostCommand

theorem sourceOf_eq_none (kind a b : Byte) : sourceOf kind a b = none ↔ 1 < kind.toNat := by
  unfold sourceOf
  generalize kind.toNat = n
  match n with
  | 0 => simp
  | 1 => simp
  | n + 2 => simp

theorem Option.isNone_eq_decide {α : Type} [DecidableEq α] (x : Option α) :
    x.isNone = decide (x = none) := by
  cases x <;> rfl

theorem State.hostChecked_add (hr : s.Ready) (await : Bool) :
    s.HostChecked (.add await) 0x02 await (decide (s.requestCutover = none))
      (s.addChecks .host (groupOf (s.request 2) (s.request 3)) s.requestCutover) :=
  State.hostChecked hr (body := State.hostAdd) rfl (Option.isNone_eq_decide s.requestCutover) rfl
    fun _ hn => State.addCheck_eq (s := s.noteCommand 0x02 await) hn _ _

theorem State.hostChecked_drop (hr : s.Ready) (await : Bool) :
    s.HostChecked (.drop await) 0x03 await (decide (s.requestCutover = none))
      (s.dropChecks .host (groupOf (s.request 2) (s.request 3)) s.requestCutover) :=
  State.hostChecked hr (body := State.hostDrop) rfl (Option.isNone_eq_decide s.requestCutover) rfl
    fun _ hn => State.dropCheck_eq (s := s.noteCommand 0x03 await) hn _ _

theorem State.hostChecked_move (hr : s.Ready) (await : Bool) :
    s.HostChecked (.move await) 0x04 await
      (decide (s.requestCutover = none ∨ 1 < (s.request 2).toNat))
      (s.moveChecks (sourceOf (s.request 2) (s.request 3) (s.request 4)) s.requestCutover) := by
  refine State.hostChecked hr (body := State.hostMove) rfl ?_ rfl
    fun _ hn => State.moveCheck_eq (s := s.noteCommand 0x04 await) hn _ _
  rw [Bool.eq_iff_iff]
  simp [← sourceOf_eq_none _ (s.request 3) (s.request 4)]
  rfl

theorem State.hostChecked_release (hr : s.Ready) (await : Bool) :
    s.HostChecked (.release await) 0x05 await (decide (s.requestCutover = none))
      (s.releaseChecks .host s.requestCutover) :=
  State.hostChecked hr (body := State.hostRelease) rfl (Option.isNone_eq_decide s.requestCutover)
    rfl fun _ hn => State.releaseCheck_eq (s := s.noteCommand 0x05 await) hn _

theorem State.hostChecked_renew (hr : s.Ready) (await : Bool) :
    s.HostChecked (.renew await) 0x06 await false (Record.renewChecks .host (s.request 2)) :=
  State.hostChecked hr (body := State.hostRenew) (b := false) rfl rfl rfl
    fun _ hn => State.renewCheck_eq (s := s.noteCommand 0x06 await) hn _

theorem State.hostChecked_cancel (hr : s.Ready) (await : Bool) :
    s.HostChecked (.cancel await) 0x07 await false Record.endingChecks :=
  State.hostChecked hr (body := State.hostCancel) (b := false) rfl rfl rfl
    fun _ hn => State.endingCheck_eq (s := s.noteCommand 0x07 await) (.inl rfl) hn

theorem State.hostChecked_adopt (hr : s.Ready) (await : Bool) :
    s.HostChecked (.adopt await) 0x08 await false Record.endingChecks :=
  State.hostChecked hr (body := State.hostAdopt) (b := false) rfl rfl rfl
    fun _ hn => State.endingCheck_eq (s := s.noteCommand 0x08 await) (.inr rfl) hn

/-! ## OPEN -/

/-- An OPEN that fails a check is refused, and names no circuit in its answer (R26, R27). -/
theorem State.takeOpen_failed {who : Requester} {f : OpenFields} {o : OutcomeCode}
    (h : firstFailing (s.openChecks who false f) = some o) :
    s.takeOpen who f = ⟨{ outcome := o }, none, s⟩ := by
  simp only [State.takeOpen, State.openCheck_eq, h]
  rfl

/-! ## The commands that name no circuit by reference -/

theorem recordOf_eq_none {v : Byte} (h : 192 ≤ v.toNat) : recordOf v = none := dif_neg (by omega)

theorem linkOf_eq_none {v : Byte} (h : 8 ≤ v.toNat) : linkOf v = none := dif_neg (by omega)

theorem planeOf_eq_none {v : Byte} (h : 1 < v.toNat) : planeOf v = none := by
  unfold planeOf
  generalize v.toNat = n at h
  match n, h with
  | n + 2, _ => rfl

theorem planeOf_isSome {v : Byte} (h : v.toNat ≤ 1) : ∃ p, planeOf v = some p := by
  unfold planeOf
  generalize v.toNat = n at h
  match n, h with
  | 0, _ => exact ⟨.ingress, rfl⟩
  | 1, _ => exact ⟨.egress, rfl⟩

theorem filterOf_eq_none {v owner : Byte}
    (h : 5 < v.toNat ∨ (v = 2 ∧ 8 ≤ owner.toNat ∧ owner.toNat < 128)) :
    filterOf v owner = none := by
  rcases h with h | ⟨rfl, h8, h128⟩
  · unfold filterOf
    generalize v.toNat = n at h
    match n, h with
    | n + 6, _ => rfl
  · have hbit : owner[7] = false := Nat.testBit_lt_two_pow h128
    have hlink : ¬owner.toNat < 8 := by omega
    simp [filterOf, hbit, hlink]

theorem State.takeLocate_badFormat {p l q : Byte} (h : 1 < p.toNat) :
    s.takeLocate p l q = ⟨.badFormat, respond [], none⟩ := by
  rw [State.takeLocate, planeOf_eq_none h]

theorem State.takeLocate_badPosition {p l q : Byte} (hp : p.toNat ≤ 1)
    (h : 8 ≤ l.toNat ∨ 40 ≤ q.toNat) : s.takeLocate p l q = ⟨.badPosition, respond [], none⟩ := by
  obtain ⟨pl, hpl⟩ := planeOf_isSome hp
  rw [State.takeLocate, hpl]
  exact if_neg (by rw [Config.slotsPerFrame]; omega)

theorem State.takeDecide_badFormat {l v : Byte} (h : 8 ≤ l.toNat ∨ v = 0 ∨ 2 < v.toNat) :
    s.takeDecide l v = (⟨.badFormat, respond [(8, l)], none⟩, s) := by
  unfold State.takeDecide
  rcases h with h | rfl | h
  · rw [linkOf_eq_none h]; rfl
  · cases linkOf l <;> rfl
  · generalize v.toNat = n at h
    cases linkOf l with
    | none => rfl
    | some k =>
      match n, h with
      | n + 3, _ => rfl

theorem State.takeDecide_noReferral {l v : Byte} (hl : l.toNat = k.val) (hv : v = 1 ∨ v = 2)
    (hk : s.referral k = none) : s.takeDecide l v = (⟨.noReferral, respond [(8, l)], none⟩, s) := by
  unfold State.takeDecide
  rw [linkOf_eq l k hl]
  rcases hv with rfl | rfl
  · simp only [show (1 : Byte).toNat = 1 from rfl, hk]
    rfl
  · simp only [show (2 : Byte).toNat = 2 from rfl, hk]
    rfl

theorem State.takeDecide_queueFull {l : Byte} {r : Referral} (hl : l.toNat = k.val)
    (hk : s.referral k = some r) (hroom : ¬s.HasRoom) :
    s.takeDecide l 1 = (⟨.queueFull, respond [(0, 3), (1, indexOctet r.circuit),
      (2, r.generation), (3, octet (s.record r.circuit).state.code), (8, l)], none⟩, s) := by
  have hfull : s.queueHasRoom = false := decide_eq_false hroom
  unfold State.takeDecide
  rw [linkOf_eq l k hl]
  simp only [show (1 : Byte).toNat = 1 from rfl, hk, hfull]
  rfl

/-- A DECIDE, whichever row names it, that is refused (R29, R173). -/
theorem State.hostRefused_decide (hr : s.Ready) {c : Instr}
    (hc : c = .approve await ∨ c = .deny await) {o : OutcomeCode} {v : Vector Byte 24}
    (h : (s.noteCommand 0x0F await).takeDecide (s.request 0) (s.request 1)
      = (⟨o, v, none⟩, s.noteCommand 0x0F await)) : s.HostRefused c 0x0F await o v := by
  rcases hc with rfl | rfl
  · exact State.hostRefused hr (body := State.hostDecide) rfl h
  · exact State.hostRefused hr (body := State.hostDecide) rfl h

/-- Settles O8: each command's checks are those listed, and a refused answer leaves the state as it
was. -/
theorem refusedRequestsChangeNothing : Obligations.RefusedRequestsChangeNothing := by
  unfold Obligations.RefusedRequestsChangeNothing
  intro s code await hr
  refine ⟨fun t c hc hexec haw ho => ?_, fun ho => ?_, State.hostChecked_add hr await,
    State.hostChecked_drop hr await, State.hostChecked_move hr await,
    State.hostChecked_release hr await, State.hostChecked_renew hr await,
    State.hostChecked_cancel hr await, State.hostChecked_adopt hr await, fun h => ?_, fun h => ?_,
    fun hp h => ?_, fun h => ?_, fun h => ?_, fun c hc => ⟨fun h => ?_, fun k hk =>
      ⟨fun hv href => ?_, fun r hv href hroom => ?_⟩⟩⟩
  · refine State.writeCommand_refused hr ?_ haw ho
    rcases hc with rfl | ⟨rfl, rfl | rfl⟩
    · rw [exec_commandRow] at hexec
      exact (Host.Outcome.next.inj hexec).symm
    · exact (Host.Outcome.next.inj hexec).symm
    · exact (Host.Outcome.next.inj hexec).symm
  · refine State.hostRefused hr (body := State.hostOpen) rfl ?_
    exact congrArg Taken.answer (State.takeOpen_failed (s := s.noteCommand 0x01 await)
      (firstFailing_of_outcome ho))
  · refine State.hostRefused hr (body := State.hostQuery) rfl ?_
    show State.takeQuery (s.request 0) (s.request 1) _ = _
    rw [State.takeQuery, recordOf_eq_none h]
  · exact State.hostRefused hr (body := State.hostLocate) rfl
      (congrArg (·, s.noteCommand 0x0A await) (State.takeLocate_badFormat h))
  · exact State.hostRefused hr (body := State.hostLocate) rfl
      (congrArg (·, s.noteCommand 0x0A await) (State.takeLocate_badPosition hp h))
  · refine State.hostRefused hr (body := State.hostNext) rfl ?_
    show (State.takeNext (s.request 0) (s.request 1) (s.request 2) _, _) = _
    rw [State.takeNext, filterOf_eq_none h]
  · refine State.hostRefused hr (body := State.hostReadReferral) rfl ?_
    show (State.takeReadReferral (s.request 0) _, _) = _
    rw [State.takeReadReferral, linkOf_eq_none h]
  · exact State.hostRefused_decide hr hc (State.takeDecide_badFormat h)
  · exact State.hostRefused_decide hr hc
      (State.takeDecide_noReferral (s := s.noteCommand 0x0F await) hk hv href)
  · refine State.hostRefused_decide hr hc ?_
    rw [hv]
    exact State.takeDecide_queueFull (s := s.noteCommand 0x0F await) hk href hroom

/-! ## The requests of a line unit -/

/-- The command that takes a request that link k has handed on (R155). -/
theorem State.takeHanded_eq {tag : Byte} {q : LineRequest} (h : s.handed k = some (tag, q))
    {kind : LineRequest → Bool} (hk : kind q = true) :
    s.takeHanded k kind = s.takeLine k tag q := by
  simp only [State.takeHanded, h, hk, if_true]

/-- A command that finds no request of its kind does nothing (R155). -/
theorem State.takeHanded_none {kind : LineRequest → Bool}
    (h : ∀ tag q, s.handed k = some (tag, q) → kind q = false) : s.takeHanded k kind = s := by
  unfold State.takeHanded
  split
  · next tag q hq => rw [h tag q hq]; rfl
  · rfl

/-- A refused request of a line unit is answered on its link, and nothing else changes (R24). -/
theorem State.lineRefused {c : Instr} {reply : Reply} {x : Taken}
    (hexec : exec c s = .next (x.finishLine k)) (hx : x = ⟨reply, none, s⟩) :
    s.LineRefused c k reply := by
  rw [State.LineRefused, hexec, hx]
  exact congrArg Host.Outcome.next (s.answerLine_eq k reply)

/-- A line request on a circuit, checked as the statements list it (R26, R27). -/
theorem State.lineChecked {c : Instr} {x g : Byte} {format : Bool}
    {checks : Record → List (Bool × OutcomeCode)} {checks' : Record → List (Option OutcomeCode)}
    {accept : RecNo → Option RecNo × State}
    (hexec : exec c s =
      .next ((s.decideOn x g (failIf format .badFormat) checks' accept).finishLine k))
    (hchecks : ∀ i, s.Names x g i →
      firstFailure (checks' (s.record i)) = firstFailing (checks (s.record i))) :
    s.LineChecked c k x g format checks := by
  refine ⟨fun h => State.lineRefused hexec (State.decideOn_unknown h), fun i hf hn ho => ?_⟩
  subst hf
  exact State.lineRefused hexec
    (State.decideOn_failed hn ((hchecks i hn).trans (firstFailing_of_outcome ho)))

/-- A line OPEN that fails a check, the queue-room check apart on a REFER link (R27, R40). -/
theorem State.takeLineOpen_failed {tag : Byte} {f : OpenFields} {o : OutcomeCode}
    (h : firstFailing (s.openChecks (.line k) (s.refers k) f) = some o) :
    s.takeLineOpen k tag f = Taken.finishLine k ⟨{ outcome := o }, none, s⟩ := by
  cases hk : s.refers k with
  | true =>
    rw [hk] at h
    simp only [State.takeLineOpen, hk, if_true, State.openCheck_eq, h]
    rfl
  | false =>
    rw [hk] at h
    simp only [State.takeLineOpen, hk, Bool.false_eq_true, if_false, State.takeOpen_failed h]

/-- Settles O55: each request's checks are those listed, and its RESULT is placed on its link. -/
theorem refusedLineRequestsChangeTheirLinkAlone :
    Obligations.RefusedLineRequestsChangeTheirLinkAlone := by
  unfold Obligations.RefusedLineRequestsChangeTheirLinkAlone
  intro s k tag
  refine ⟨fun sl ss w sf v ds f h hf ho => ?_, fun x g l q h => ?_, fun x g l q h => ?_,
    fun x g h => ?_, fun x g v h => ?_, fun x g h => ?_, fun c hc => ?_⟩
  · subst hf
    have htaken := State.takeHanded_eq h (kind := isLineOpen) rfl
    rw [State.takeLine, State.takeLineOpen_failed (firstFailing_of_outcome ho)] at htaken
    exact State.lineRefused (congrArg Host.Outcome.next htaken) rfl
  · exact State.lineChecked (congrArg Host.Outcome.next (State.takeHanded_eq h rfl))
      fun i hn => State.addCheck_eq hn _ _
  · exact State.lineChecked (congrArg Host.Outcome.next (State.takeHanded_eq h rfl))
      fun i hn => State.dropCheck_eq hn _ _
  · exact State.lineChecked (congrArg Host.Outcome.next (State.takeHanded_eq h rfl))
      fun i hn => State.releaseCheck_eq hn _
  · exact State.lineChecked (congrArg Host.Outcome.next (State.takeHanded_eq h rfl))
      fun i hn => State.renewCheck_eq hn _
  · exact State.lineChecked (congrArg Host.Outcome.next (State.takeHanded_eq h rfl))
      fun i hn => State.statusCheck_eq hn
  · have hnone : ∀ kind : LineRequest → Bool, (∀ y q, s.handed k = some (y, q) → kind q = false) →
        Host.Outcome.next (s.takeHanded k kind) = (.next s : Host.Outcome State Fault Refusal) :=
      fun kind h => congrArg Host.Outcome.next (State.takeHanded_none h)
    rcases hc with ⟨rfl, h⟩ | ⟨rfl, h⟩ | ⟨rfl, h⟩ | ⟨rfl, h⟩ | ⟨rfl, h⟩ | ⟨rfl, h⟩
    · exact hnone _ fun y q hq => by
        cases q with
        | openCircuit => exact absurd hq (by apply h)
        | _ => rfl
    · exact hnone _ fun y q hq => by
        cases q with
        | add => exact absurd hq (by apply h)
        | _ => rfl
    · exact hnone _ fun y q hq => by
        cases q with
        | drop => exact absurd hq (by apply h)
        | _ => rfl
    · exact hnone _ fun y q hq => by
        cases q with
        | release => exact absurd hq (by apply h)
        | _ => rfl
    · exact hnone _ fun y q hq => by
        cases q with
        | renew => exact absurd hq (by apply h)
        | _ => rfl
    · exact hnone _ fun y q hq => by
        cases q with
        | status => exact absurd hq (by apply h)
        | _ => rfl
end Sys2Proof.Machine
end

-- ==== Proofs: requests that stage a change ====
section
/-! SUPPORT. ADD, DROP and RELEASE from the host and from a line unit (R41, R42, R44): the request
passes its checks, one record is claimed and staged, and the requester is answered. -/

namespace Sys2Proof.Machine

-- The proofs are elaborated one after another: many at once take the text past its memory limit.
set_option Elab.async false

variable {s t u : State} {i : RecNo} {k : LinkNo} {code : BitVec 7} {await : Bool}
  {who : Requester} {x gen : Byte} {g : Group} {c : Cutover}

/-! ## Requests whose checks pass -/

theorem firstFailing_eq_none {l : List (Bool × OutcomeCode)} :
    firstFailing l = none ↔ ∀ d ∈ l, d.1 = false := by
  induction l with
  | nil => simp
  | cons d rest ih => cases h : d.1 <;> simp [firstFailing_cons, failIf, h, ih]

/-- No position is BARRED or CLAIMED where every one is OPEN (R35). -/
theorem State.taken_passes {picks : Plane → Nat → Nat → Bool} (ho : s.AllOpen picks) :
    ∀ d ∈ s.taken picks, d.1 = false := by
  have hnone : ∀ test : PosEntry → Bool, test .openPos = false →
      ([Plane.ingress, .egress].any fun p => (List.finRange 8).any fun l =>
        (List.finRange 40).any fun q => picks p l q && test (s.entry p l q)) = false := by
    intro test htest
    simp only [List.any_eq_false, Bool.not_eq_true]
    intro p _ l _ q _
    cases hp : picks p l q with
    | false => rfl
    | true => rw [ho p l q hp, htest, Bool.and_false]
  simp only [State.taken, List.mem_cons, List.not_mem_nil, or_false]
  rintro d (rfl | rfl)
  · exact hnone (fun e => decide (e = .barred)) rfl
  · exact hnone PosEntry.isClaimed rfl

/-- A host may ask for any circuit; a line unit for its own, within its reach (R29, R33). -/
def State.MayAsk (who : Requester) (i : RecNo) (links : List Nat) (s : State) : Prop :=
  ((s.record i).ownership who).1 = false ∧ (s.beyondReach who links).1 = false

theorem State.mayAsk_host (s : State) (i : RecNo) (links : List Nat) : s.MayAsk .host i links :=
  ⟨rfl, rfl⟩

theorem State.beyondReach_line {links : List Nat}
    (hl : ∀ l ∈ links, (s.manager.reach[k]).getLsbD l = true) :
    (s.beyondReach (.line k) links).1 = false := by
  simp only [State.beyondReach, List.any_eq_false, Bool.not_eq_true', Bool.not_eq_false]
  exact hl

theorem State.mayAsk_line {links : List Nat} (ho : (s.record i).owner = some (.link k))
    (hl : ∀ l ∈ links, (s.manager.reach[k]).getLsbD l = true) : s.MayAsk (.line k) i links :=
  ⟨by simp [Record.ownership, ho], State.beyondReach_line hl⟩

theorem State.tooFar_passes (hc : s.Allows c) : (s.tooFar (some c)).1 = false := by
  have h := s.cutoverCheck_eq (some c)
  rw [s.cutoverCheck_pass c hc] at h
  cases hb : (s.tooFar (some c)).1 with
  | false => rfl
  | true => rw [hb] at h; cases h

theorem State.noRoom_passes (hq : s.HasRoom) : s.noRoom.1 = false := by simp [State.noRoom, hq]

/-- A record that is ACTIVE is not in any of the states that R30 answers with PENDING. -/
theorem Record.mustBeActive_passes {r : Record} (h : r.state = .active) :
    r.mustBeActive.1 = false := by simp [Record.mustBeActive, h]

theorem Group.outside_passes {w : Nat} (hl : g.link < 8) (hs : g.slot + w ≤ 38) :
    g.outside w = false := by
  rw [Group.outside, decide_eq_false_iff_not]
  omega

/-- A request with a reference whose checks all pass is accepted (R27). -/
theorem State.decideOn_passed {checks : Record → List (Option OutcomeCode)}
    {accept : RecNo → Option RecNo × State} (hn : s.Names x gen i)
    (hc : firstFailure (checks (s.record i)) = none) :
    s.decideOn x gen none checks accept
      = ⟨(accept i).2.report i, (accept i).1, (accept i).2⟩ :=
  s.decideOn_accept x gen none checks accept i (s.lookup_of_names x gen i hn) rfl
    ((firstFailure_eq_none _).mp hc)

/-- An ADD that passes every check is accepted (R27, R41). -/
theorem State.takeAdd_accept (hn : s.Names x gen i) (hm : s.MayAsk who i [g.link])
    (hst : (s.record i).state = .active) (hlen : (s.record i).dests.length < 4)
    (hl : g.link < 8) (hs : g.slot + (s.record i).width ≤ 38)
    (hov : ∀ h ∈ (s.record i).dests, g.overlaps h (s.record i).width = false) (hc : s.Allows c)
    (ho : s.AllOpen (egressGroup g (s.record i).width)) (hq : s.HasRoom) :
    s.takeAdd who x gen g (some c)
      = ⟨(s.acceptAdd i who g c).report i, some i, s.acceptAdd i who g c⟩ := by
  refine State.decideOn_passed hn ((State.addCheck_eq hn g (some c)).trans ?_)
  rw [firstFailing_eq_none, State.addChecks]
  intro d hd
  simp only [List.mem_append, List.mem_cons, List.not_mem_nil, or_false] at hd
  rcases hd with ((rfl | rfl | rfl | rfl | rfl | rfl | rfl) | hd) | rfl
  · exact hm.1
  · exact Record.mustBeActive_passes hst
  · exact decide_eq_false (by omega)
  · exact Group.outside_passes hl hs
  · simpa using hov
  · exact hm.2
  · exact State.tooFar_passes hc
  · exact State.taken_passes ho d hd
  · exact State.noRoom_passes hq

/-- A DROP that passes every check is accepted (R27, R42). -/
theorem State.takeDrop_accept (hn : s.Names x gen i) (hm : s.MayAsk who i [g.link])
    (hst : (s.record i).state = .active) (hlen : 2 ≤ (s.record i).dests.length)
    (hg : g ∈ (s.record i).dests) (hl : g.link < 8) (hs : g.slot + (s.record i).width ≤ 38)
    (hc : s.Allows c) (hq : s.HasRoom) :
    s.takeDrop who x gen g (some c)
      = ⟨(s.acceptDrop i who g c).report i, some i, s.acceptDrop i who g c⟩ := by
  refine State.decideOn_passed hn ((State.dropCheck_eq hn g (some c)).trans ?_)
  rw [firstFailing_eq_none, State.dropChecks]
  intro d hd
  simp only [List.mem_cons, List.not_mem_nil, or_false] at hd
  rcases hd with rfl | rfl | rfl | rfl | rfl | rfl | rfl
  · exact hm.1
  · exact Record.mustBeActive_passes hst
  · exact decide_eq_false (by omega)
  · simp [Group.outside_passes hl hs, hg]
  · exact hm.2
  · exact State.tooFar_passes hc
  · exact State.noRoom_passes hq

/-- A RELEASE of an OPENING or ACTIVE record that passes every check is accepted (R27, R44, R45). -/
theorem State.takeRelease_accept (hn : s.Names x gen i) (hm : s.MayAsk who i [])
    (hst : (s.record i).state = .opening ∨ (s.record i).state = .active ∧ s.HasRoom)
    (hc : s.Allows c) :
    s.takeRelease who x gen (some c) = ⟨(s.acceptRelease i who c).2.report i,
      (s.acceptRelease i who c).1, (s.acceptRelease i who c).2⟩ := by
  refine State.decideOn_passed hn ((State.releaseCheck_eq hn (some c)).trans ?_)
  rw [firstFailing_eq_none, State.releaseChecks]
  intro d hd
  simp only [List.mem_cons, List.not_mem_nil, or_false] at hd
  rcases hd with rfl | rfl | rfl | rfl | rfl
  · exact hm.1
  · refine Record.closingByLease_of_ne ?_
    rcases hst with h | ⟨h, -⟩ <;> simp [h]
  · rcases hst with h | ⟨h, -⟩ <;> simp [h]
  · exact State.tooFar_passes hc
  · rcases hst with h | ⟨h, hq⟩
    · simp [h]
    · simp [hq]

/-! ## The attention mark of a line unit's request -/

/-- The mark of a requester's own request: what it writes beside the record (R14, R25). -/
theorem State.attend_eq (s : State) (who : Requester) (i : RecNo) :
    s.attend who i = { s with
      manager := { s.manager with
        table := (s.attend who i).manager.table
        attentionCount := if who = .host then s.manager.attentionCount else s.countSet i }
      events := { s.events with
        flags := if who = .host then s.events.flags else s.flagsSet i } } := by
  cases who with
  | host => rfl
  | line k => exact s.setAttention_eq i

theorem State.entry_attend (s : State) (who : Requester) (i : RecNo) (p : Plane) (l q : Nat) :
    (s.attend who i).entry p l q = s.entry p l q :=
  State.entry_congr (by rw [State.attend_eq]) p l q

/-! ## Acceptance on a record in use -/

/-- A change has been accepted on a record in use: it is staged, the record has its next state, and
the request of a line unit has marked it (R25, R41, R42, R44). -/
structure State.Accepts (who : Requester) (i : RecNo) (ch : Change) (c : Cutover)
    (st : CircuitState) (s t : State) : Prop where
  kept : s.KeepsElsewhere t
  links : t.links = s.links
  referrals : t.referrals = s.referrals
  mailbox : t.mailbox = s.mailbox
  count : t.manager.attentionCount =
    if who = .host then s.manager.attentionCount else s.countSet i
  flags : t.events.flags = if who = .host then s.events.flags else s.flagsSet i
  queue : t.manager.queue = s.manager.queue ++ [⟨i, ch.kind, c, s.timing.tally, false⟩]
  records : s.RecordBecomes t i { s.record i with
    state := st
    staged := some ⟨ch, c, who.cause⟩
    attention := (s.record i).attention || decide (who ≠ .host) }

/-- What a change of claims, a staged entry and a mark make of the state is read off the operations
on the record. -/
theorem State.Accepts.of_attend {ch : Change} {st : CircuitState}
    (ht : t = u.attend who i) (hu : u = { s with manager := { s.manager with
      table := u.manager.table, map := u.manager.map, queue := u.manager.queue } })
    (ha : (u.record i).attention = (s.record i).attention) (hs : s.Stages i ch c who.cause t)
    (hr : t.record i = { s.record i with
      state := st
      staged := some ⟨ch, c, who.cause⟩
      attention := (s.record i).attention || decide (who ≠ .host) }) :
    s.Accepts who i ch c st t := by
  have hcount : u.countSet i = s.countSet i := by
    rw [State.countSet, State.countSet, ha, hu]
  have hflags : u.flagsSet i = s.flagsSet i := by
    rw [State.flagsSet, State.flagsSet, ha, hu]
  have he := u.attend_eq who i
  rw [hcount, hflags, ← ht] at he
  refine ⟨?_, ?_, ?_, hs.mailbox, ?_, ?_, hs.queue, hr ▸ hs.acts.recordBecomes⟩
  · rw [State.KeepsElsewhere, he, hu]
  · rw [he, hu]
  · rw [he, hu]
  · rw [he, hu]
  · rw [he, hu]

theorem State.accepts_acceptAdd (s : State) (who : Requester) (i : RecNo) (g : Group)
    (c : Cutover) : s.Accepts who i (.add g) c .altering (s.acceptAdd i who g c) :=
  .of_attend (u := ((s.claim i (egressGroup g (s.record i).width)).stage i (.add g) c
    who.cause).setCircuitState i .altering) rfl rfl (by simp) (State.stages_acceptAdd _ _ who g c)
    (State.record_acceptAdd _ _ who g c)

theorem State.accepts_acceptDrop (s : State) (who : Requester) (i : RecNo) (g : Group)
    (c : Cutover) : s.Accepts who i (.drop g) c .altering (s.acceptDrop i who g c) :=
  .of_attend (u := ((s.rephase i (egressGroup g (s.record i).width) .live
    (.claimed i .leaving)).stage i (.drop g) c who.cause).setCircuitState i .altering) rfl rfl
    (by simp) (State.stages_acceptDrop _ _ who g c) (State.record_acceptDrop _ _ who g c)

theorem State.accepts_releaseActive (s : State) (who : Requester) (i : RecNo) (c : Cutover) :
    s.Accepts who i .deactivate c .closing (s.releaseActive i who c) :=
  .of_attend (u := ((s.rephase i everywhere .live (.claimed i .leaving)).stage i .deactivate c
    who.cause).setCircuitState i .closing) rfl rfl (by simp) (State.stages_releaseActive _ _ who c)
    (State.record_releaseActive _ _ who c)

/-- Claims of an accepted ADD: its new group JOINING (R10, R41). -/
theorem State.mapBecomes_acceptAdd (ho : s.AllOpen (egressGroup g (s.record i).width))
    (who : Requester) (c : Cutover) : s.MapBecomes (s.acceptAdd i who g c) fun p l q e =>
      if egressGroup g (s.record i).width p l q then .claimed i .joining else e := fun p l q => by
  have h : (s.acceptAdd i who g c).entry p l q
      = (s.claim i (egressGroup g (s.record i).width)).entry p l q := State.entry_attend _ ..
  rw [h, State.entry_claim _ _ _ l.isLt q.isLt]
  by_cases hin : egressGroup g (s.record i).width p l q = true
  · simp [hin, ho p l q hin]
  · simp [hin]

/-- Claims of an accepted DROP: its group's LIVE ones LEAVING (R42). -/
theorem State.mapBecomes_acceptDrop (s : State) (i : RecNo) (who : Requester) (g : Group)
    (c : Cutover) : s.MapBecomes (s.acceptDrop i who g c) fun p l q e =>
      if egressGroup g (s.record i).width p l q ∧ e = .claimed i .live then .claimed i .leaving
      else e := fun p l q => by
  have h : (s.acceptDrop i who g c).entry p l q = (s.rephase i
      (egressGroup g (s.record i).width) .live (.claimed i .leaving)).entry p l q :=
    State.entry_attend _ ..
  rw [h, State.entry_rephase _ _ _ _ _ l.isLt q.isLt]
  simp only [and_comm]

/-- Claims of an accepted RELEASE: the record's LIVE ones LEAVING (R44). -/
theorem State.mapBecomes_releaseActive (s : State) (i : RecNo) (who : Requester) (c : Cutover) :
    s.MapBecomes (s.releaseActive i who c) fun _ _ _ e =>
      if e = .claimed i .live then .claimed i .leaving else e := fun p l q => by
  have h : (s.releaseActive i who c).entry p l q
      = (s.rephase i everywhere .live (.claimed i .leaving)).entry p l q := State.entry_attend _ ..
  rw [h, State.entry_rephase _ _ _ _ _ l.isLt q.isLt]
  simp only [everywhere, and_true]

/-! ## The answers -/

/-- The report on a record that the request named (R26). -/
theorem State.report_eq (hn : s.Names x gen i) {r : Record} (hr : t.record i = r)
    (hg : r.generation = (s.record i).generation) : t.report i = {
      outcome := .ok
      reference := some (x, gen)
      state := some r.state
      lease := r.remaining } := by
  obtain ⟨hx, hgen, -⟩ := hn
  rw [State.report, hr, indexOctet_eq _ i hx, hg, hgen]
  rfl

/-- A host command whose change has been accepted: what the state is, and the answer (R26, R182). -/
theorem State.Accepts.hostAnswers {cmd : Instr} {body : State → Answer × State} {ch : Change}
    {st : CircuitState} {m : State} {f : Plane → Nat → Nat → PosEntry → PosEntry} (hr : s.Ready)
    (hn : s.Names (s.request 0) (s.request 1) i) (he : s.entriesOf i = [])
    (hexec : exec cmd s = .next (s.takeCommand code await body))
    (hbody : body (s.noteCommand code await) = Taken.answer ⟨m.report i, some i, m⟩)
    (h : (s.noteCommand code await).Accepts .host i ch c st m) (hmap : s.MapBecomes m f) :
    ∃ t, exec cmd s = .next t ∧ s.KeepsElsewhere t
      ∧ t.links = s.links ∧ t.referrals = s.referrals
      ∧ t.manager.attentionCount = s.manager.attentionCount
      ∧ s.RecordBecomes t i { s.record i with state := st, staged := some ⟨ch, c, .host⟩ }
      ∧ s.MapBecomes t f
      ∧ t.manager.queue = s.manager.queue ++ [⟨i, ch.kind, c, s.timing.tally, await⟩]
      ∧ s.AnswersStaged t code await (Reply.response {
          outcome := .ok
          reference := some (s.request 0, s.request 1)
          state := some st
          lease := (s.record i).remaining }) := by
  have hrec : s.RecordBecomes m i { s.record i with
      state := st, staged := some ⟨ch, c, .host⟩ } := fun j => by
    rw [h.records j]
    simp only [ne_eq, not_true_eq_false, decide_false, Bool.or_false]
    rfl
  have hrep := State.report_eq hn ((hrec i).trans (if_pos rfl)) rfl
  refine ⟨_, hexec.trans (congrArg Host.Outcome.next (State.takeCommand_ready hr hbody)), ?_⟩
  rw [hrep]
  obtain ⟨hlinks, hreferrals, hcount, htable, hmaps⟩ := m.finishCommand_keeps await ⟨.ok, _, some i⟩
  refine ⟨State.KeepsElsewhere.trans (State.KeepsElsewhere.trans (t := s.noteCommand code await)
      rfl h.kept) (m.keepsElsewhere_finishCommand _ _), hlinks.trans h.links,
    hreferrals.trans h.referrals, hcount.trans h.count, fun j => ?_, fun p l q => ?_,
    State.queue_finishCommand (e := ⟨i, ch.kind, c, s.timing.tally, false⟩) h.queue rfl he _,
    State.answersStaged_finishCommand h.mailbox h.flags _ i⟩
  · rw [State.record_congr htable]
    exact hrec j
  · rw [State.entry_congr hmaps]
    exact hmap p l q

/-- Settles O12: the checks pass, and the acceptance is that of an ADD. -/
theorem hostAddStagesAnAdd : Obligations.HostAddStagesAnAdd := by
  unfold Obligations.HostAddStagesAnAdd
  intro s await i g c hr hn he hg hcut hst hlen hl hs hov hc ho hq
  subst hg
  refine State.Accepts.hostAnswers (body := State.hostAdd) hr hn he rfl ?_
    ((s.noteCommand 0x02 await).accepts_acceptAdd .host i _ c)
    ((s.noteCommand 0x02 await).mapBecomes_acceptAdd ho .host c)
  have hacc := State.takeAdd_accept (s := s.noteCommand 0x02 await) hn (State.mayAsk_host _ _ _)
    hst hlen hl hs hov hc ho hq
  rw [← hcut] at hacc
  exact congrArg Taken.answer hacc

/-- Settles O13: the checks pass, and the acceptance is that of a DROP. -/
theorem hostDropStagesADrop : Obligations.HostDropStagesADrop := by
  unfold Obligations.HostDropStagesADrop
  intro s await i g c hr hn he hg hcut hst hlen hmem hl hs hc hq
  subst hg
  refine State.Accepts.hostAnswers (body := State.hostDrop) hr hn he rfl ?_
    ((s.noteCommand 0x03 await).accepts_acceptDrop .host i _ c)
    ((s.noteCommand 0x03 await).mapBecomes_acceptDrop i .host _ c)
  have hacc := State.takeDrop_accept (s := s.noteCommand 0x03 await) hn (State.mayAsk_host _ _ _)
    hst hlen hmem hl hs hc hq
  rw [← hcut] at hacc
  exact congrArg Taken.answer hacc

/-- Settles O15: the checks pass, and the acceptance is that of a RELEASE of an ACTIVE record. -/
theorem hostReleaseStagesADeactivate : Obligations.HostReleaseStagesADeactivate := by
  unfold Obligations.HostReleaseStagesADeactivate
  intro s await i c hr hn he hcut hst hc hq
  refine State.Accepts.hostAnswers (body := State.hostRelease) hr hn he rfl ?_
    ((s.noteCommand 0x05 await).accepts_releaseActive .host i c)
    ((s.noteCommand 0x05 await).mapBecomes_releaseActive i .host c)
  have hacc := State.takeRelease_accept (s := s.noteCommand 0x05 await) hn
    (State.mayAsk_host _ _ _) (.inr ⟨hst, hq⟩) hc
  rw [← hcut, State.acceptRelease_active (s := s.noteCommand 0x05 await) hst] at hacc
  exact congrArg Taken.answer hacc

/-- The RESULT that is placed is made from the link alone (R155). -/
theorem State.links_answerLine_congr (h : t.links = s.links) (k : LinkNo) (r : Reply) :
    (t.answerLine k r).links = (s.answerLine k r).links := by
  have hk : t.link k = s.link k := by rw [State.link, State.link, h]
  unfold State.answerLine
  rw [hk]
  cases (s.link k).inProcess with
  | none => exact h
  | some q => exact congrArg (Vector.set · k _) h

/-- A line request whose change has been accepted: what the state is, and the answer (R26, R155). -/
theorem State.Accepts.lineAnswers {cmd : Instr} {ch : Change} {st : CircuitState} {m : State}
    {f : Plane → Nat → Nat → PosEntry → PosEntry} (hn : s.Names x gen i)
    (hexec : exec cmd s = .next (Taken.finishLine k ⟨m.report i, some i, m⟩))
    (h : s.Accepts (.line k) i ch c st m) (hmap : s.MapBecomes m f) :
    ∃ t, exec cmd s = .next t ∧ s.KeepsElsewhere t ∧ t.mailbox = s.mailbox
      ∧ t.referrals = s.referrals
      ∧ s.RecordBecomes t i { s.record i with
          state := st, staged := some ⟨ch, c, .owner⟩, attention := true }
      ∧ s.MapBecomes t f
      ∧ t.manager.queue = s.manager.queue ++ [⟨i, ch.kind, c, s.timing.tally, false⟩]
      ∧ t.manager.attentionCount = s.countSet i ∧ t.events.flags = s.flagsSet i
      ∧ t.links = (s.answerLine k {
          outcome := .ok
          reference := some (x, gen)
          state := some st
          lease := (s.record i).remaining }).links := by
  have hrec : s.RecordBecomes m i { s.record i with
      state := st, staged := some ⟨ch, c, .owner⟩, attention := true } := fun j => by
    rw [h.records j]
    simp [Requester.cause]
  have hrep := State.report_eq hn ((hrec i).trans (if_pos rfl)) rfl
  refine ⟨_, hexec, ?_⟩
  rw [Taken.finishLine, hrep, State.answerLine_eq]
  refine ⟨?_, h.mailbox, h.referrals, hrec, hmap, h.queue, h.count, h.flags, ?_⟩
  · exact State.KeepsElsewhere.trans h.kept rfl
  · exact State.links_answerLine_congr h.links _ _
end Sys2Proof.Machine
end

-- ==== Proofs: requests that withdraw a change ====
section
/-! SUPPORT. The host's RELEASE and CANCEL where a staged change is withdrawn (R45, R46, R70, R71),
and the deferred staging that follows, which no answer comes between (R75). -/

namespace Sys2Proof.Machine

-- The proofs are elaborated one after another: many at once take the text past its memory limit.
set_option Elab.async false

variable {s t u : State} {i j : RecNo} {k : LinkNo} {code : BitVec 7} {await : Bool}
  {x gen : Byte} {c : Cutover}

/-! ## Deferred staging and what stands beside the Circuit Manager -/

/-- Deferred staging reads the Circuit Manager and the frame tally, and writes the Circuit Manager
alone (R75). -/
theorem State.serveWaiting_congr : ∀ (n : Nat) {s t : State}, t.manager = s.manager →
    t.timing = s.timing → t.serveWaiting n = { t with manager := (s.serveWaiting n).manager }
  | 0, s, t, hm, _ => by rw [State.serveWaiting, State.serveWaiting, ← hm]
  | n + 1, s, t, hm, ht => by
    have hroom : t.queueHasRoom = s.queueHasRoom := by
      rw [State.queueHasRoom, State.queueHasRoom, hm]
    have hfirst : t.firstRecord Record.waits = s.firstRecord Record.waits := by
      simp only [State.firstRecord, State.record, hm]
    simp only [State.serveWaiting, hroom, hfirst]
    split
    · split
      · next i _ =>
        have hstage : t.stageExpiry i = { t with manager := (s.stageExpiry i).manager } := by
          obtain ⟨_⟩ := t
          cases hm
          cases ht
          rfl
        rw [State.serveWaiting_congr n (s := s.stageExpiry i) (by rw [hstage])
          (by rw [hstage]; exact ht), hstage]
      · rw [← hm]
    · rw [← hm]

theorem State.manager_serveWaiting (n : Nat) (hm : t.manager = s.manager)
    (ht : t.timing = s.timing) : (t.serveWaiting n).manager = (s.serveWaiting n).manager := by
  rw [State.serveWaiting_congr n hm ht]

/-- An answer of the mailbox and deferred staging do not meet. -/
theorem State.complete_serveWaiting (s : State) (v : Vector Byte 24) (o : OutcomeCode) :
    ((s.serveWaiting 1).setResponse v).complete o
      = ((s.setResponse v).complete o).serveWaiting 1 := by
  rw [State.serveWaiting_congr 1 (s := s) (t := (s.setResponse v).complete o) rfl rfl,
    State.serveWaiting_congr 1 (s := s) (t := s) rfl rfl]
  rfl

theorem State.record_serveWaiting_answered (s : State) (v : Vector Byte 24) (o : OutcomeCode)
    (n : Nat) (i : RecNo) :
    (((s.setResponse v).complete o).serveWaiting n).record i = (s.serveWaiting n).record i :=
  State.record_congr (by
    rw [State.manager_serveWaiting n (s := s) (t := (s.setResponse v).complete o) rfl rfl]) i

/-- Deferred staging passes over a record that does not wait. -/
theorem State.record_serveWaiting (h : (s.record i).waits = false) :
    (s.serveWaiting 1).record i = s.record i := by
  rcases s.serveWaiting_one with e | ⟨j, -, hj, e⟩
  · rw [e]
  · rw [e]
    refine (s.stages_stageExpiry j).acts.records i ?_
    rintro rfl
    rw [State.firstRecord_some hj] at h
    cases h

/-- Deferred staging keeps the generation and the lease of every record (R75). -/
theorem State.serveWaiting_keepsLease (s : State) (i : RecNo) :
    ((s.serveWaiting 1).record i).generation = (s.record i).generation
      ∧ ((s.serveWaiting 1).record i).remaining = (s.record i).remaining := by
  rcases s.serveWaiting_one with e | ⟨j, -, -, e⟩
  · rw [e]; exact ⟨rfl, rfl⟩
  · rw [e]
    by_cases h : i = j
    · subst h
      rw [State.record_stageExpiry]
      exact ⟨rfl, rfl⟩
    · rw [(s.stages_stageExpiry j).acts.records i h]
      exact ⟨rfl, rfl⟩

/-! ## Notices -/

/-- A notice reads and writes its link and the flags alone (R156). -/
theorem State.notifyOwner_congr (hl : t.links = s.links) (he : t.events = s.events)
    (o : Option Owner) (n : Notice) (i : RecNo) (g : Byte) :
    (t.notifyOwner o n i g).links = (s.notifyOwner o n i g).links
      ∧ (t.notifyOwner o n i g).events = (s.notifyOwner o n i g).events := by
  unfold State.notifyOwner
  split
  · next k =>
    have hk : t.link k = s.link k := by rw [State.link, State.link, hl]
    simp only [State.notify, hk, State.setLink, State.raise, hl, he]
    split
    · split
      · exact ⟨rfl, rfl⟩
      · exact ⟨rfl, rfl⟩
    · exact ⟨rfl, rfl⟩
  · exact ⟨hl, he⟩

theorem State.referrals_notifyOwner (s : State) (o : Option Owner) (n : Notice) (i : RecNo)
    (g : Byte) : (s.notifyOwner o n i g).referrals = s.referrals := by rw [State.notifyOwner_eq]

/-! ## The end of an OPENING record -/

theorem State.recordBecomes_freeOpening (s : State) (i : RecNo) :
    s.RecordBecomes (s.freeOpening i) i { generation := (s.record i).generation } := fun j => by
  simp [State.freeOpening, State.record_freeRecord]

theorem State.mapBecomes_freeOpening (s : State) (i : RecNo) :
    s.MapBecomes (s.freeOpening i) fun _ _ _ e => released i e := fun p l q => by
  have h : (s.freeOpening i).entry p l q = ((s.removeEntry i).freeRecord i).entry p l q :=
    State.entry_congr (by simp [State.freeOpening]) p l q
  exact h.trans ((s.removeEntry i).mapBecomes_freeRecord i p l q)

theorem State.keepsElsewhere_notifyOwner (s : State) (o : Option Owner) (n : Notice) (i : RecNo)
    (g : Byte) : s.KeepsElsewhere (s.notifyOwner o n i g) := by
  rw [State.KeepsElsewhere, State.notifyOwner_eq]

theorem State.keepsElsewhere_freeRecord (s : State) (i : RecNo) :
    s.KeepsElsewhere (s.freeRecord i) := by
  rw [State.KeepsElsewhere, State.freeRecord_eq]

theorem State.keepsElsewhere_freeOpening (s : State) (i : RecNo) :
    s.KeepsElsewhere (s.freeOpening i) :=
  State.KeepsElsewhere.trans (State.KeepsElsewhere.trans (t := s.removeEntry i) rfl
    (State.keepsElsewhere_freeRecord _ i)) (State.keepsElsewhere_notifyOwner _ _ _ _ _)

theorem State.referrals_freeOpening (s : State) (i : RecNo) :
    (s.freeOpening i).referrals = s.referrals := by
  rw [State.freeOpening, State.referrals_notifyOwner, State.referrals_freeRecord]
  rfl

theorem State.attentionCount_freeOpening (s : State) (i : RecNo) :
    (s.freeOpening i).manager.attentionCount = s.countCleared i := by
  rw [State.freeOpening, State.manager_notifyOwner, State.freeRecord_eq]
  rfl

theorem State.mailbox_freeOpening (s : State) (i : RecNo) :
    (s.freeOpening i).mailbox = s.mailbox := by
  simp [State.freeOpening]

/-- A line owner hears of the end, and nothing else reaches a link or the flags (R71). -/
theorem State.told_freeOpening (s : State) (i : RecNo) : (s.freeOpening i).links
      = (s.notifyOwner (s.record i).owner .retiredHost i (s.record i).generation).links
    ∧ (s.freeOpening i).events
      = (s.notifyOwner (s.record i).owner .retiredHost i (s.record i).generation).events :=
  State.notifyOwner_congr (s := s) ((s.removeEntry i).links_freeRecord i)
    (by rw [State.freeRecord_eq]; rfl) _ _ _ _

/-- A host command whose answer follows on deferred staging. -/
theorem State.hostServes {cmd : Instr} {body : State → Answer × State} (hr : s.Ready)
    (hexec : exec cmd s = .next (s.takeCommand code await body)) {r : Reply} {m : State}
    (ho : r.outcome = .ok)
    (hbody : body (s.noteCommand code await) = Taken.answer ⟨r, none, m.serveWaiting 1⟩) :
    exec cmd s = .next (((m.setResponse r.response).complete .ok).serveWaiting 1) := by
  rw [State.takeCommand_ready hr hbody, State.finishCommand_none] at hexec
  rw [← State.complete_serveWaiting, hexec, ho]

/-- Nobody waits once an OPENING record has been freed, where nobody waited before. -/
theorem State.freeOpening_nobodyWaits (hw : s.NobodyWaits) (i j : RecNo) :
    ((s.freeOpening i).record j).waits = false := by
  refine Record.waits_eq_false fun h0 => ?_
  rw [s.recordBecomes_freeOpening i j] at h0 ⊢
  split at h0
  · cases h0
  · next hj =>
    rw [if_neg hj]
    rcases hw j h0 with e | e <;> simp [e]

/-- The checks of a CANCEL pass on a record that no referral and no lease holds (R27, R46). -/
theorem State.takeCancel_accept (hn : s.Names x gen i) (hcl : (s.record i).closingByLease = false)
    (hst : (s.record i).state ≠ .referred) :
    s.takeCancel x gen = ⟨(s.acceptCancel i).report i, none, s.acceptCancel i⟩ := by
  refine State.decideOn_passed hn ((State.endingCheck_eq (.inl rfl) hn).trans ?_)
  rw [firstFailing_eq_none]
  simp [Record.endingChecks, hcl, hst]

/-- The report on an OPENING record that has been freed, behind deferred staging. -/
theorem State.report_freeOpening (hn : s.Names x gen i) :
    ((s.freeOpening i).serveWaiting 1).report i = {
      outcome := .ok
      reference := some (x, gen)
      state := some .free } := by
  have hfree : (s.freeOpening i).record i = { generation := (s.record i).generation } :=
    (s.recordBecomes_freeOpening i i).trans (if_pos rfl)
  exact State.report_eq hn ((State.record_serveWaiting (by rw [hfree]; rfl)).trans hfree) rfl

/-- A CANCEL of an OPENING record (R45, R46). -/
theorem State.takeCancel_opening (hn : s.Names x gen i) (hst : (s.record i).state = .opening) :
    s.takeCancel x gen = ⟨{
      outcome := .ok
      reference := some (x, gen)
      state := some .free }, none, (s.freeOpening i).serveWaiting 1⟩ := by
  rw [State.takeCancel_accept hn (Record.closingByLease_of_ne (by simp [hst])) (by simp [hst]),
    ← State.report_freeOpening hn, State.acceptCancel, hst]
  rfl

/-- A host RELEASE of an OPENING record (R45). -/
theorem State.takeRelease_opening (hn : s.Names x gen i) (hst : (s.record i).state = .opening)
    (hc : s.Allows c) : s.takeRelease .host x gen (some c) = ⟨{
      outcome := .ok
      reference := some (x, gen)
      state := some .free }, none, (s.freeOpening i).serveWaiting 1⟩ := by
  rw [State.takeRelease_accept hn (State.mayAsk_host _ _ _) (.inl hst) hc,
    State.acceptRelease_host hst, ← State.report_freeOpening hn]
  rfl

/-- Settles O16: both commands free the record, and the answer and deferred staging do not meet. -/
theorem hostEndsAnOpeningRecord : Obligations.HostEndsAnOpeningRecord := by
  unfold Obligations.HostEndsAnOpeningRecord
  intro s await i cmd code hr hn hst hcmd
  let n := s.noteCommand code await
  let m := n.freeOpening i
  let reply : Reply := {
    outcome := .ok
    reference := some (s.request 0, s.request 1)
    state := some .free }
  have hexec : exec cmd s =
      .next (((m.setResponse reply.response).complete .ok).serveWaiting 1) := by
    rcases hcmd with ⟨rfl, rfl⟩ | ⟨rfl, rfl, cut, hcut, hc⟩
    · exact State.hostServes (body := State.hostCancel) hr rfl rfl
        (congrArg Taken.answer (State.takeCancel_opening (s := n) hn hst))
    · have htaken := State.takeRelease_opening (s := n) hn hst hc
      rw [← hcut] at htaken
      exact State.hostServes (body := State.hostRelease) hr rfl rfl
        (congrArg Taken.answer htaken)
  obtain ⟨hlinks, hevents⟩ := n.told_freeOpening i
  obtain ⟨htold, hflags⟩ := State.notifyOwner_congr (s := s) (t := n) rfl rfl
    (s.record i).owner .retiredHost i (s.record i).generation
  refine ⟨_, hexec, fun hw => ?_, State.KeepsElsewhere.trans (State.KeepsElsewhere.trans (t := n)
      rfl (n.keepsElsewhere_freeOpening i)) rfl, n.referrals_freeOpening i,
    n.recordBecomes_freeOpening i, n.mapBecomes_freeOpening i, n.queue_freeOpening i,
    n.attentionCount_freeOpening i, hlinks.trans htold, ?_⟩
  · exact hexec.trans (congrArg Host.Outcome.next
      (State.serveWaiting_of_none fun j => n.freeOpening_nobodyWaits hw i j))
  · have h := State.answersAtOnce_complete (u := m) (n.mailbox_freeOpening i) .ok reply.response
    rwa [show m.events = _ from hevents.trans hflags] at h

/-! ## The end of an alteration or of a release -/

theorem State.tellCancelled_writes (s : State) (i : RecNo) (r : Record) :
    s.tellCancelled i r = { s with
      links := (s.tellCancelled i r).links
      events := { s.events with flags := (s.tellCancelled i r).events.flags } } := by
  unfold State.tellCancelled
  split
  · split
    · exact s.notifyOwner_eq _ _ _ _
    · rfl
  · rfl

/-- A line owner whose own change it was hears of the end (R71). -/
theorem State.tellCancelled_told {st : Staged} (hl : t.links = s.links) (he : t.events = s.events)
    {r : Record} (hst : r.staged = some st) : (t.tellCancelled i r).links
      = (if st.cause = .owner then s.notifyOwner r.owner .changed i r.generation else s).links
    ∧ (t.tellCancelled i r).events
      = (if st.cause = .owner then s.notifyOwner r.owner .changed i r.generation
        else s).events := by
  simp only [State.tellCancelled, hst]
  split
  · exact State.notifyOwner_congr hl he _ _ _ _
  · exact ⟨hl, he⟩

theorem State.recordBecomes_cancelled (s : State) (i : RecNo) : s.RecordBecomes (s.cancelled i) i
    { s.record i with state := .active, staged := none } := fun j => by
  rw [(s.actsOn_cancelled i).recordBecomes j, s.record_cancelled i]

theorem State.mapBecomes_cancelled (s : State) (i : RecNo) :
    s.MapBecomes (s.cancelled i) fun _ _ _ e =>
      if e = .claimed i .joining then .openPos
      else if e = .claimed i .leaving then .claimed i .live else e := fun p l q => by
  have h : (s.cancelled i).entry p l q = (s.withdrawClaims i).entry p l q :=
    State.entry_congr (by rw [State.cancelled, State.tellCancelled_writes]; rfl) p l q
  rw [h, State.withdrawClaims, State.entry_rephase _ _ _ _ _ l.isLt q.isLt,
    State.entry_rephase _ _ _ _ _ l.isLt q.isLt]
  by_cases hj : s.entry p l q = .claimed i .joining
  · simp [hj, everywhere]
  · simp [hj, everywhere]

theorem State.keepsElsewhere_cancelled (s : State) (i : RecNo) :
    s.KeepsElsewhere (s.cancelled i) := by
  rw [State.KeepsElsewhere, State.cancelled, State.tellCancelled_writes]
  rfl

theorem State.attentionCount_cancelled (s : State) (i : RecNo) :
    (s.cancelled i).manager.attentionCount = s.manager.attentionCount := by
  rw [State.cancelled, State.tellCancelled_writes]
  rfl

/-- Nobody waits once a change has been cancelled, where nobody waited before and the lease of the
record has not run out. -/
theorem State.cancelled_nobodyWaits (hw : s.NobodyWaits) (h0 : (s.record i).remaining ≠ some 0)
    (j : RecNo) : ((s.cancelled i).record j).waits = false := by
  refine Record.waits_eq_false fun h => ?_
  rw [s.recordBecomes_cancelled i j] at h ⊢
  split at h
  · exact absurd h h0
  · next hj =>
    rw [if_neg hj]
    rcases hw j h with e | e <;> simp [e]

/-- A CANCEL of an ACTIVE record changes nothing (R46). -/
theorem State.acceptCancel_active (h : (s.record i).state = .active) : s.acceptCancel i = s := by
  simp only [State.acceptCancel, h]

theorem State.acceptCancel_change
    (h : (s.record i).state = .altering ∨ (s.record i).state = .closing) :
    s.acceptCancel i = (s.cancelled i).serveWaiting 1 := by
  rcases h with h | h
  · simp only [State.acceptCancel, h, State.cancelChange_eq]
  · simp only [State.acceptCancel, h, State.cancelChange_eq]

theorem State.takeCancel_active (hn : s.Names x gen i) (hst : (s.record i).state = .active) :
    s.takeCancel x gen = ⟨{
      outcome := .ok
      reference := some (x, gen)
      state := some .active
      lease := (s.record i).remaining }, none, s⟩ := by
  rw [State.takeCancel_accept hn (Record.closingByLease_of_ne (by simp [hst])) (by simp [hst]),
    State.acceptCancel_active hst, State.report_eq hn rfl rfl, hst]

/-- A CANCEL of an alteration, or of a release that its lease did not stage (R46, R70). -/
theorem State.takeCancel_change {st : Staged} (hn : s.Names x gen i)
    (hstaged : (s.record i).staged = some st)
    (hst : (s.record i).state = .altering ∨ ((s.record i).state = .closing ∧ st.cause ≠ .lease)) :
    s.takeCancel x gen = ⟨{
      outcome := .ok
      reference := some (x, gen)
      state := some (((s.cancelled i).serveWaiting 1).record i).state
      lease := (s.record i).remaining }, none, (s.cancelled i).serveWaiting 1⟩ := by
  have hne : (s.record i).state ≠ .referred := by rcases hst with h | ⟨h, -⟩ <;> simp [h]
  have hcl : (s.record i).closingByLease = false := by
    rcases hst with h | ⟨h, hc⟩
    · exact Record.closingByLease_of_ne (by simp [h])
    · simp [Record.closingByLease, hstaged, hc]
  obtain ⟨hgen, hlease⟩ := (s.cancelled i).serveWaiting_keepsLease i
  rw [s.record_cancelled i] at hgen hlease
  rw [State.takeCancel_accept hn hcl hne, State.acceptCancel_change (hst.imp id And.left),
    State.report_eq hn rfl hgen, hlease]
  rfl

/-- Settles O17: an ACTIVE record is left as it is; a change is reversed, and the answer reads the
record behind deferred staging. -/
theorem cancelReturnsTheRecordToActive : Obligations.CancelReturnsTheRecordToActive := by
  unfold Obligations.CancelReturnsTheRecordToActive
  intro s await i hr hn
  let n := s.noteCommand 0x07 await
  refine ⟨fun hst => ?_, fun told st hstaged hst htold => ?_⟩
  · exact ⟨_, congrArg Host.Outcome.next (State.takeCommand_ready hr (body := State.hostCancel)
      (congrArg Taken.answer (State.takeCancel_active (s := n) hn hst))), rfl,
      State.answersAtOnce_complete rfl _ _⟩
  · let m := n.cancelled i
    let reply : Reply := {
      outcome := .ok
      reference := some (s.request 0, s.request 1)
      state := some ((m.serveWaiting 1).record i).state
      lease := (s.record i).remaining }
    have hexec : exec (.cancel await) s =
        .next (((m.setResponse reply.response).complete .ok).serveWaiting 1) :=
      State.hostServes (body := State.hostCancel) hr rfl rfl
        (congrArg Taken.answer (State.takeCancel_change (s := n) hn hstaged hst))
    obtain ⟨hlinks, hevents⟩ := State.tellCancelled_told (s := s) (i := i) (t := ((n.withdrawClaims
      i).removeEntry i).setRecord i { n.record i with state := .active, staged := none }) rfl rfl
      hstaged
    rw [← htold] at hlinks hevents
    refine ⟨_, hexec, fun hw h0 => ?_, State.KeepsElsewhere.trans (State.KeepsElsewhere.trans
      (t := n) rfl (n.keepsElsewhere_cancelled i)) rfl, (n.actsOn_cancelled i).referrals,
      n.recordBecomes_cancelled i, n.mapBecomes_cancelled i, n.queue_cancelled i,
      n.attentionCount_cancelled i, hlinks, ?_⟩
    · exact hexec.trans (congrArg Host.Outcome.next
        (State.serveWaiting_of_none fun j => n.cancelled_nobodyWaits hw h0 j))
    · rw [State.record_serveWaiting_answered]
      have h := State.answersAtOnce_complete (s := s) (code := 0x07) (await := await) (u := m)
        (State.tellCancelled_eq _ _ _).2 .ok reply.response
      rwa [show m.events = _ from hevents] at h
end Sys2Proof.Machine
end

-- ==== Proofs: leases, reading commands and the position map ====
section
/-! SUPPORT. The host's commands that stage nothing: RENEW and ADOPT (R47, R48), LOCATE, NEXT and
READ_REFERRAL (R51, R52, R172), BAR and UNBAR (R53). -/

namespace Sys2Proof.Machine

-- The proofs are elaborated one after another: many at once take the text past its memory limit.
set_option Elab.async false

variable {s t u : State} {i : RecNo} {k : LinkNo} {code : BitVec 7} {await : Bool}
  {who : Requester} {x gen v : Byte}

/-! ## RENEW and ADOPT -/

/-- A RENEW that passes every check is accepted (R27, R47). -/
theorem State.takeRenew_accept (hn : s.Names x gen i) (hm : s.MayAsk who i [])
    (hst : (s.record i).state = .opening ∨ (s.record i).state = .active
      ∨ (s.record i).state = .altering)
    (hv : v ≠ 0 ∨ who = .host ∧ (s.record i).owner = some .host) :
    s.takeRenew who x gen v = ⟨(s.acceptRenew i v).report i, none, s.acceptRenew i v⟩ := by
  have hformat : failIf (who != .host && v == 0) .badFormat = none := by
    rcases hv with h | ⟨h, -⟩
    · rw [beq_eq_false_iff_ne.mpr h, Bool.and_false]
      rfl
    · rw [h]
      rfl
  rw [State.takeRenew, hformat]
  refine State.decideOn_passed hn ((State.renewCheck_eq hn v).trans ?_)
  rw [firstFailing_eq_none, Record.renewChecks]
  intro d hd
  simp only [List.mem_cons, List.not_mem_nil, or_false] at hd
  rcases hd with rfl | rfl | rfl | rfl
  · exact hm.1
  · rw [decide_eq_false_iff_not]
    rintro ⟨-, h0, hne⟩
    rcases hv with h | ⟨-, h⟩
    · exact h h0
    · exact hne h
  · refine Record.closingByLease_of_ne ?_
    rcases hst with h | h | h <;> simp [h]
  · rcases hst with h | h | h <;> simp [h]

theorem State.recordBecomes_acceptRenew (s : State) (i : RecNo) (v : Byte) :
    s.RecordBecomes (s.acceptRenew i v) i
      { s.record i with lease := if v = 0 then none else some ⟨v, v⟩ } := fun j => by
  rw [(s.actsOn_acceptRenew i v).recordBecomes j, s.record_acceptRenew i v]

/-- The report on a record whose lease a RENEW has set (R26, R47). -/
theorem State.report_acceptRenew (hn : s.Names x gen i) (v : Byte) :
    (s.acceptRenew i v).report i = {
      outcome := .ok
      reference := some (x, gen)
      state := some (s.record i).state
      lease := if v = 0 then none else some v } := by
  rw [State.report_eq hn (s.record_acceptRenew i v) rfl]
  by_cases h : v = 0
  · simp only [Record.remaining, if_pos h]
    rfl
  · simp only [Record.remaining, if_neg h]
    rfl

/-- An ADOPT that passes every check is accepted (R27, R48). -/
theorem State.takeAdopt_accept (hn : s.Names x gen i) (hst : (s.record i).state ≠ .referred)
    (hcl : (s.record i).closingByLease = false) :
    s.takeAdopt x gen = ⟨(s.acceptAdopt i).report i, none, s.acceptAdopt i⟩ := by
  refine State.decideOn_passed hn ((State.endingCheck_eq (.inr rfl) hn).trans ?_)
  rw [firstFailing_eq_none]
  simp [Record.endingChecks, hcl, hst]

theorem State.recordBecomes_acceptAdopt (s : State) (i : RecNo) :
    s.RecordBecomes (s.acceptAdopt i) i { s.record i with
      owner := some .host
      lease := none
      staged := (s.record i).staged.map fun st =>
        if st.cause = Cause.owner then { st with cause := .host } else st } := fun j => by
  rw [(s.actsOn_acceptAdopt i).recordBecomes j, s.record_acceptAdopt i]

/-- An ADOPT writes the record, and what tells a line owner of it (R48). -/
theorem State.acceptAdopt_eq (s : State) (i : RecNo) :
    s.acceptAdopt i = { s with
      manager := { s.manager with table := (s.acceptAdopt i).manager.table }
      links := (s.acceptAdopt i).links
      events := { s.events with flags := (s.acceptAdopt i).events.flags } } := by
  rw [State.acceptAdopt, State.notifyOwner_eq]
  rfl

theorem State.told_acceptAdopt (s : State) (i : RecNo) : (s.acceptAdopt i).links
      = (s.notifyOwner (s.record i).owner .retiredAdopted i (s.record i).generation).links
    ∧ (s.acceptAdopt i).events
      = (s.notifyOwner (s.record i).owner .retiredAdopted i (s.record i).generation).events := by
  refine State.notifyOwner_congr ?_ ?_ _ _ _ _
  · rfl
  · rfl

/-- A host command that stages nothing completes at once (R182, R183). -/
theorem State.hostCompletes {cmd : Instr} {body : State → Answer × State} {o : OutcomeCode}
    {w : Vector Byte 24} (hr : s.Ready)
    (hexec : exec cmd s = .next (s.takeCommand code await body))
    (hbody : body (s.noteCommand code await) = (⟨o, w, none⟩, u)) :
    exec cmd s = .next ((u.setResponse w).complete o) := by
  rw [hexec, State.takeCommand_ready hr hbody, State.finishCommand_none]

/-- Settles O18: the checks pass, and RENEW and ADOPT write their record alone. -/
theorem hostRenewSetsAndAdoptRemovesTheLease :
    Obligations.HostRenewSetsAndAdoptRemovesTheLease := by
  unfold Obligations.HostRenewSetsAndAdoptRemovesTheLease
  refine ⟨fun s await i hr hn hst hv => ?_, fun s told await i hr hn hst hcl htold => ?_⟩
  · let n := s.noteCommand 0x06 await
    have hacc := State.takeRenew_accept (s := n) (v := s.request 2) hn (State.mayAsk_host _ _ _)
      hst (hv.imp id fun h => ⟨rfl, h⟩)
    rw [State.report_acceptRenew (s := n) hn] at hacc
    exact ⟨_, State.hostCompletes (body := State.hostRenew) hr rfl (congrArg Taken.answer hacc),
      rfl, rfl, rfl, rfl, rfl, rfl, n.recordBecomes_acceptRenew i _,
      State.answersAtOnce_complete (u := n.acceptRenew i _) rfl _ _⟩
  · let n := s.noteCommand 0x08 await
    have hacc := State.takeAdopt_accept (s := n) hn hst (decide_eq_false hcl)
    rw [State.report_eq (s := n) hn (n.record_acceptAdopt i) rfl] at hacc
    have heq := n.acceptAdopt_eq i
    obtain ⟨hlinks, hevents⟩ := n.told_acceptAdopt i
    obtain ⟨htell, hflags⟩ := State.notifyOwner_congr (s := s) (t := n) rfl rfl
      (s.record i).owner .retiredAdopted i (s.record i).generation
    refine ⟨_, State.hostCompletes (body := State.hostAdopt) hr rfl (congrArg Taken.answer hacc),
      ?_, ?_, ?_, ?_, ?_, n.recordBecomes_acceptAdopt i, ?_, ?_⟩
    · exact State.KeepsElsewhere.trans (t := n.acceptAdopt i)
        (State.KeepsElsewhere.trans (t := n) rfl (by rw [State.KeepsElsewhere, heq])) rfl
    · exact (congrArg State.referrals heq :)
    · exact (congrArg (fun u => u.manager.map) heq :)
    · exact (congrArg (fun u => u.manager.queue) heq :)
    · exact (congrArg (fun u => u.manager.attentionCount) heq :)
    · rw [htold]
      exact hlinks.trans htell
    · have h := State.answersAtOnce_complete (s := s) (code := 0x08) (await := await)
        (congrArg State.mailbox heq :) .ok (Reply.response {
          outcome := .ok
          reference := some (s.request 0, s.request 1)
          state := some (s.record i).state })
      rw [show (n.acceptAdopt i).events = _ from hevents.trans hflags] at h
      rw [htold]
      exact h

/-! ## LOCATE, NEXT and READ_REFERRAL -/

/-- A command that only reads changes nothing but the mailbox (R49, R51, R52, R172). -/
theorem State.hostReads {cmd : Instr} {body : State → Answer × State} {o : OutcomeCode}
    {w : Vector Byte 24} (hr : s.Ready)
    (hexec : exec cmd s = .next (s.takeCommand code await body))
    (hbody : body (s.noteCommand code await) = (⟨o, w, none⟩, s.noteCommand code await)) :
    ∃ t, exec cmd s = .next t ∧ s.KeepsElsewhere t ∧ t.manager = s.manager ∧ t.links = s.links
      ∧ t.referrals = s.referrals ∧ s.AnswersAtOnce t code await o w s.events.flags
      ∧ t.mailbox.response = w :=
  ⟨_, State.hostCompletes hr hexec hbody, rfl, rfl, rfl, rfl,
    State.answersAtOnce_complete rfl o w, rfl⟩

/-- What a LOCATE reports of an entry (R51). -/
theorem locateResponse_eq (e : PosEntry) (generationOf : RecNo → Byte) :
    locateResponse e generationOf = match e with
      | .openPos => respond []
      | .barred => respond [(9, 1)]
      | .fixed => respond [(9, 2)]
      | .claimed i ph => respond [(0, 1), (1, indexOctet i), (2, generationOf i), (9, 3),
          (10, match ph with | .joining => 1 | .live => 2 | .leaving => 3)] := by
  cases e with
  | openPos => rfl
  | barred => rfl
  | fixed => rfl
  | claimed i ph => cases ph <;> rfl

theorem State.takeLocate_eq {p : Plane} {pl l q : Byte} (hp : planeOf pl = some p)
    (hl : l.toNat < 8) (hq : q.toNat < 40) :
    s.takeLocate pl l q = ⟨.ok, locateResponse (s.entry p l.toNat q.toNat)
      fun i => (s.record i).generation, none⟩ := by
  rw [State.takeLocate, hp]
  exact if_pos ⟨hl, hq⟩

/-- A NEXT that finds no record (R52). -/
theorem State.takeNext_none {f : Filter} {a b c : Byte} (hf : filterOf b c = some f)
    (h : ∀ i : RecNo, a.toNat ≤ i.val → f.matches (s.record i) = false) :
    s.takeNext a b c = ⟨.ok, respond [], none⟩ := by
  have hfind : ((List.finRange 192).find? fun i =>
      decide (a.toNat ≤ i.val) && f.matches (s.record i)) = none :=
    List.find?_eq_none.mpr fun i _ => by simpa using h i
  simp only [State.takeNext, hf, hfind]

/-- A NEXT that finds its lowest record (R52). -/
theorem State.takeNext_some {f : Filter} {a b c : Byte} (hf : filterOf b c = some f)
    (ha : a.toNat ≤ i.val) (hi : f.matches (s.record i) = true)
    (hlow : ∀ j < i, a.toNat ≤ j.val → f.matches (s.record j) = false) :
    s.takeNext a b c = ⟨.ok, respond [(0, 3), (1, indexOctet i), (2, (s.record i).generation),
      (3, octet (s.record i).state.code)], none⟩ := by
  have hfind : ((List.finRange 192).find? fun i =>
      decide (a.toNat ≤ i.val) && f.matches (s.record i)) = some i := by
    rw [List.find?_eq_some_iff_getElem]
    refine ⟨by simp [ha, hi], i.val, by simp, by simp, fun j hj => ?_⟩
    by_cases hle : a.toNat ≤ j
    · simpa [hle] using hlow ⟨j, by omega⟩ hj hle
    · simp [hle]
  simp only [State.takeNext, hf, hfind]
  rfl

/-- A NEXT in range answers OK and stages nothing (R52). -/
theorem State.takeNext_ok {f : Filter} {a b c : Byte} (hf : filterOf b c = some f) :
    s.takeNext a b c = ⟨.ok, (s.takeNext a b c).response, none⟩ := by
  unfold State.takeNext
  rw [hf]
  dsimp only
  split <;> rfl

/-- Settles O20: the answer of each is computed, and the state beside the mailbox is that before. -/
theorem readingCommandsReportAndChangeNothing :
    Obligations.ReadingCommandsReportAndChangeNothing := by
  unfold Obligations.ReadingCommandsReportAndChangeNothing
  refine fun s await hr => ⟨fun p hp hl hq => ?_, fun f hf => ?_, fun k hk => ?_⟩
  · have hloc := State.takeLocate_eq (s := s.noteCommand 0x0A await) hp hl hq
    rw [locateResponse_eq] at hloc
    obtain ⟨t, h, hkept, hm, hlinks, href, hans, -⟩ := State.hostReads (body := State.hostLocate)
      hr (cmd := .locate await) rfl (congrArg (·, s.noteCommand 0x0A await) hloc)
    exact ⟨t, h, hkept, hm, hlinks, href, hans⟩
  · obtain ⟨t, h, hkept, hm, hlinks, href, hans, hresp⟩ := State.hostReads (body := State.hostNext)
      hr (cmd := .nextRecord await) rfl
      (congrArg (·, s.noteCommand 0x0B await) (State.takeNext_ok hf))
    refine ⟨t, h, hkept, hm, hlinks, href, hresp ▸ hans, fun hnone => ?_, fun i ha hi hlow => ?_⟩
    · exact hresp.trans (congrArg Answer.response (State.takeNext_none hf hnone))
    · exact hresp.trans (congrArg Answer.response (State.takeNext_some hf ha hi hlow))
  · have href : (s.noteCommand 0x0E await).takeReadReferral (s.request 0)
        = ⟨.ok, referralResponse (s.referral k), none⟩ := by
      rw [State.takeReadReferral, linkOf_eq _ k hk]
      rfl
    obtain ⟨t, h, hkept, hm, hlinks, href, hans, -⟩ := State.hostReads
      (body := State.hostReadReferral) hr (cmd := .readReferral await) rfl
      (congrArg (·, s.noteCommand 0x0E await) href)
    exact ⟨t, h, hkept, hm, hlinks, href, hans⟩

/-! ## BAR and UNBAR -/

theorem planeOf_eq (p : Plane) {v : Byte}
    (h : v.toNat = match p with | .ingress => 0 | .egress => 1) : planeOf v = some p := by
  cases p <;> simp only [planeOf, h]

/-- What BAR and UNBAR answer and do, by their operands (R53). -/
theorem State.takeBar_cases (s : State) (new : PosEntry) (pl l q : Byte) :
    ∃ o m, s.takeBar new pl l q = (⟨o, respond [], none⟩, m)
      ∧ m = { s with manager := { s.manager with map := m.manager.map } }
      ∧ (1 < pl.toNat → o = .badFormat ∧ m.manager.map = s.manager.map)
      ∧ ∀ p : Plane, pl.toNat = (match p with | .ingress => 0 | .egress => 1) →
        if ¬(l.toNat < 8 ∧ q.toNat < 38) then o = .badPosition ∧ m.manager.map = s.manager.map
        else if (s.entry p l.toNat q.toNat).isClaimed then
          o = .positionBusy ∧ m.manager.map = s.manager.map
        else o = .ok ∧ s.MapBecomes m (fun p' l' q' e =>
          if p' = p ∧ l' = l.toNat ∧ q' = q.toNat then new else e) := by
  rcases hp : planeOf pl with _ | p
  · refine ⟨.badFormat, s, by rw [State.takeBar, hp], rfl, fun _ => ⟨rfl, rfl⟩, fun p h => ?_⟩
    rw [planeOf_eq p h] at hp
    cases hp
  · have hlarge : ¬1 < pl.toNat := fun h => by
      rw [planeOf_eq_none h] at hp
      cases hp
    have hplane : ∀ p' : Plane, pl.toNat = (match p' with | .ingress => 0 | .egress => 1) →
        p' = p := fun p' h => Option.some.inj ((planeOf_eq p' h).symm.trans hp)
    by_cases hpos : l.toNat < 8 ∧ q.toNat < 38
    · cases hcl : (s.entry p l.toNat q.toNat).isClaimed with
      | true =>
        refine ⟨.positionBusy, s, ?_, rfl, fun h => absurd h hlarge, fun p' h => ?_⟩
        · simp only [State.takeBar, hp, Config.bearerSlots, hpos, hcl, and_self, if_true]
        · obtain rfl := hplane p' h
          rw [if_neg (not_not.mpr hpos), if_pos hcl]
          exact ⟨rfl, rfl⟩
      | false =>
        refine ⟨.ok, s.setEntry p l.toNat q.toNat new, ?_, rfl, fun h => absurd h hlarge,
          fun p' h => ?_⟩
        · simp only [State.takeBar, hp, Config.bearerSlots, hpos, hcl, and_self, if_true,
            Bool.false_eq_true, if_false]
        · obtain rfl := hplane p' h
          rw [if_neg (not_not.mpr hpos), if_neg (by simp [hcl])]
          exact ⟨rfl, fun p l q => s.entry_updateMap _ l.isLt q.isLt⟩
    · refine ⟨.badPosition, s, ?_, rfl, fun h => absurd h hlarge, fun p' h => ?_⟩
      · simp only [State.takeBar, hp, Config.bearerSlots, hpos, if_false]
      · rw [if_pos hpos]
        exact ⟨rfl, rfl⟩

/-- Settles O22: both commands answer at once, by the cases of their operands. -/
theorem barAndUnbarWriteOneEntry : Obligations.BarAndUnbarWriteOneEntry := by
  unfold Obligations.BarAndUnbarWriteOneEntry
  intro s await c code new link slot hr hlink hslot hc
  subst hlink hslot
  obtain ⟨o, m, htaken, hm, hformat, hplane⟩ := (s.noteCommand code await).takeBar_cases new
    (s.request 0) (s.request 1) (s.request 2)
  have hexec : exec c s = .next ((m.setResponse (respond [])).complete o) := by
    rcases hc with ⟨rfl, rfl, rfl⟩ | ⟨rfl, rfl, rfl⟩
    · exact State.hostCompletes (body := State.hostBar) hr rfl htaken
    · exact State.hostCompletes (body := State.hostUnbar) hr rfl htaken
  refine ⟨_, o, hexec, ?_, (congrArg State.links hm :), (congrArg State.referrals hm :),
    (congrArg State.manager hm :), ?_, hformat, hplane⟩
  · exact State.KeepsElsewhere.trans (t := m) (State.KeepsElsewhere.trans
      (t := s.noteCommand code await) rfl (by rw [State.KeepsElsewhere, hm])) rfl
  · have h := State.answersAtOnce_complete (s := s) (code := code) (await := await)
      (congrArg State.mailbox hm :) o (respond [])
    rwa [show m.events = s.events from (congrArg State.events hm :)] at h
end Sys2Proof.Machine
end

-- ==== Proofs: the requests of a line unit ====
section
/-! SUPPORT. The requests of a line unit that pass every check: OPEN on an AUTO and on a REFER link
(R39, R40), ADD and DROP (R41, R42), RELEASE (R44, R45, R72), RENEW and STATUS (R47, R50). -/

namespace Sys2Proof.Machine

-- The proofs are elaborated one after another: many at once take the text past its memory limit.
set_option Elab.async false

variable {s t u : State} {i : RecNo} {k : LinkNo} {who : Requester} {x gen tag : Byte}
  {q : LineRequest} {f : OpenFields}

/-! ## ADD, DROP, RENEW and STATUS -/

/-- Settles O52: both requests are accepted as the host's are, and the line unit's mark is set. -/
theorem lineAddAndDropStageWithAttention : Obligations.LineAddAndDropStageWithAttention := by
  unfold Obligations.LineAddAndDropStageWithAttention
  intro s k tag x gen gl gs i g ch cmd hreq hg hn howner hst hl hs hreach hq
  subst hg
  have hm : s.MayAsk (.line k) i [(groupOf gl gs).link] :=
    State.mayAsk_line howner (by simpa using hreach)
  rcases hreq with ⟨hh, rfl, rfl, hlen, hov, ho⟩ | ⟨hh, rfl, rfl, hlen, hmem⟩
  · have hexec := State.takeHanded_eq hh (kind := isLineAdd) rfl
    rw [State.takeLine, State.takeAdd_accept hn hm hst hlen hl hs hov trivial ho hq] at hexec
    exact State.Accepts.lineAnswers hn (congrArg Host.Outcome.next hexec)
      (s.accepts_acceptAdd (.line k) i _ _) (s.mapBecomes_acceptAdd ho _ _)
  · have hexec := State.takeHanded_eq hh (kind := isLineDrop) rfl
    rw [State.takeLine, State.takeDrop_accept hn hm hst hlen hmem hl hs trivial hq] at hexec
    refine State.Accepts.lineAnswers hn (congrArg Host.Outcome.next hexec)
      (s.accepts_acceptDrop (.line k) i _ _) fun p l q => ?_
    rw [s.mapBecomes_acceptDrop i _ _ _ p l q]
    by_cases hin : egressGroup (groupOf gl gs) (s.record i).width p l q = true
    · simp [hin, Change.kind]
    · simp [hin]

/-- The checks of a STATUS pass for the owner (R27, R50). -/
theorem State.takeStatus_accept (hn : s.Names x gen i)
    (ho : (s.record i).owner = some (.link k)) : s.takeStatus k x gen = ⟨s.report i, none, s⟩ := by
  refine State.decideOn_passed hn ((State.statusCheck_eq (who := .line k) hn).trans ?_)
  rw [firstFailing_eq_none]
  simp [Record.ownership, ho]

/-- Settles O54: RENEW writes the lease alone, STATUS nothing, and each is answered on its link. -/
theorem lineRenewAndStatusReport : Obligations.LineRenewAndStatusReport := by
  unfold Obligations.LineRenewAndStatusReport
  intro s k tag x gen v i hn ho
  refine ⟨fun hh hv hst => ?_, fun hh => ?_⟩
  · have hexec := State.takeHanded_eq hh (kind := isLineRenew) rfl
    rw [State.takeLine, State.takeRenew_accept hn (State.mayAsk_line ho (by simp)) hst (.inl hv),
      Taken.finishLine, State.report_acceptRenew hn, if_neg hv, State.answerLine_eq] at hexec
    refine ⟨_, congrArg Host.Outcome.next hexec, rfl, rfl, rfl, rfl, rfl, ?_,
      State.links_answerLine_congr (s := s) (t := s.acceptRenew i v) rfl _ _⟩
    have hrec := s.recordBecomes_acceptRenew i v
    rw [if_neg hv] at hrec
    exact hrec
  · have hexec := State.takeHanded_eq hh (kind := isStatus) rfl
    rw [State.takeLine, State.takeStatus_accept hn ho, Taken.finishLine,
      State.report_eq hn rfl rfl, State.answerLine_eq] at hexec
    exact congrArg Host.Outcome.next hexec

/-! ## RELEASE -/

/-- Entry into RETIRED: what it writes beside the record (R12, R14). -/
theorem State.retireRecord_eq (s : State) (i : RecNo) (c : RetireCause) :
    s.retireRecord i c = { s with
      manager := { s.manager with
        table := (s.retireRecord i c).manager.table
        map := (s.releaseClaims i).manager.map
        attentionCount := s.countSet i }
      events := { s.events with flags := s.flagsSet i } } := by
  have hrec : ∀ r, ((s.releaseClaims i).setRecord i r).record i = r := fun r => by simp
  have h : s.retireRecord i c = ((s.releaseClaims i).setRecord i { s.record i with
      state := .retired, staged := none, retireCause := some c }).setAttention i := rfl
  rw [h, State.setAttention_eq, hrec]
  rfl

/-- A mailbox that awaited the entry completes with WITHDRAWN (R74). -/
theorem State.withdrawn_eq (s : State) (i : RecNo) (b : Bool) (st : CircuitState) :
    s.withdrawn i b st = { s with
      mailbox := if b then s.mailboxWithdrawn i st else s.mailbox
      events := { s.events with
        flags := if b then s.events.flags ||| 0x1000#13 else s.events.flags } } := by
  cases b <;> rfl

theorem State.isAwaited_iff (s : State) (i : RecNo) :
    s.isAwaited i = true ↔ ∃ e ∈ s.entriesOf i, e.awaited = true := by
  rw [QueueEntry.isAwaited_eq, decide_eq_true_eq, List.countP_pos_iff]

/-- An OPENING record that its line unit releases: what is written beside the record (R72, R74). -/
theorem State.retireOpening_eq (s : State) (i : RecNo) :
    s.retireOpening i = { s with
      manager := { s.manager with
        table := (s.retireOpening i).manager.table
        map := (s.releaseClaims i).manager.map
        queue := s.manager.queue.filter fun e => e.circuit ≠ i
        attentionCount := s.countSet i }
      mailbox := if s.isAwaited i then s.mailboxWithdrawn i .retired else s.mailbox
      events := { s.events with
        flags := if s.isAwaited i then s.flagsSet i ||| 0x1000#13 else s.flagsSet i } } := by
  have hgen : ((s.removeEntry i).retireRecord i .lineRelease).mailboxWithdrawn i .retired
      = s.mailboxWithdrawn i .retired := by
    have hm : ((s.removeEntry i).retireRecord i .lineRelease).mailbox = s.mailbox :=
      ((s.removeEntry i).mailbox_retireRecord i _).trans rfl
    rw [State.mailboxWithdrawn, State.mailboxWithdrawn, hm, State.record_retireRecord, if_pos rfl]
    rfl
  rw [State.retireOpening, State.withdrawn_eq, hgen, State.retireRecord_eq]
  rfl

/-- The mailbox completes with WITHDRAWN exactly where it awaited the entry (R74). -/
theorem State.retireOpening_withdraws (s : State) (i : RecNo) :
    if ∃ e ∈ s.entriesOf i, e.awaited = true then
      (s.retireOpening i).mailbox = s.mailboxWithdrawn i .retired
        ∧ (s.retireOpening i).events.flags = s.flagsSet i ||| 0x1000#13
    else (s.retireOpening i).mailbox = s.mailbox
        ∧ (s.retireOpening i).events.flags = s.flagsSet i := by
  have hmailbox : (s.retireOpening i).mailbox =
      if s.isAwaited i then s.mailboxWithdrawn i .retired else s.mailbox := by
    rw [State.retireOpening_eq]
  have hflags : (s.retireOpening i).events.flags =
      if s.isAwaited i then s.flagsSet i ||| 0x1000#13 else s.flagsSet i := by
    rw [State.retireOpening_eq]
  rw [hmailbox, hflags]
  by_cases ha : s.isAwaited i = true
  · rw [if_pos ha, if_pos ha, if_pos ((s.isAwaited_iff i).mp ha)]
    exact ⟨rfl, rfl⟩
  · rw [if_neg ha, if_neg ha, if_neg fun h => ha ((s.isAwaited_iff i).mpr h)]
    exact ⟨rfl, rfl⟩

theorem State.recordBecomes_retireOpening (s : State) (i : RecNo) :
    s.RecordBecomes (s.retireOpening i) i { s.record i with
      state := .retired
      staged := none
      retireCause := some .lineRelease
      attention := true } := fun j => by
  simp [State.retireOpening, State.record_retireRecord]

theorem State.mapBecomes_retireOpening (s : State) (i : RecNo) :
    s.MapBecomes (s.retireOpening i) fun _ _ _ e => released i e := fun p l q => by
  rw [State.entry_congr (s := s.releaseClaims i) (by rw [State.retireOpening_eq])]
  exact s.entry_releaseClaims i l.isLt q.isLt

/-- A RESULT and deferred staging do not meet. -/
theorem State.answerLine_serveWaiting (s : State) (k : LinkNo) (r : Reply) :
    (s.serveWaiting 1).answerLine k r = (s.answerLine k r).serveWaiting 1 := by
  have htiming : (s.answerLine k r).timing = s.timing := by rw [State.answerLine_eq]
  rw [State.serveWaiting_congr 1 (State.manager_answerLine s k r) htiming,
    State.serveWaiting_congr 1 (s := s) (t := s) rfl rfl]
  unfold State.answerLine
  cases h : (s.link k).inProcess with
  | none => simp only [State.link] at h ⊢; simp only [h]
  | some q => simp only [State.link] at h ⊢; simp only [h]; rfl

/-- Nobody waits once an OPENING record has been retired, where nobody waited before. -/
theorem State.retireOpening_nobodyWaits (hw : s.NobodyWaits) (i j : RecNo) :
    ((s.retireOpening i).record j).waits = false := by
  refine Record.waits_eq_false fun h0 => ?_
  rw [s.recordBecomes_retireOpening i j] at h0 ⊢
  split at h0
  · next hj => simp [hj]
  · next hj =>
    rw [if_neg hj]
    rcases hw j h0 with e | e <;> simp [e]

/-- A line RELEASE of an OPENING record (R45, R72). -/
theorem State.takeRelease_retires (hn : s.Names x gen i) (ho : (s.record i).owner = some (.link k))
    (hst : (s.record i).state = .opening) :
    s.takeRelease (.line k) x gen (some .nextFrame) = ⟨{
      outcome := .ok
      reference := some (x, gen)
      state := some .retired
      lease := (s.record i).remaining }, none, (s.retireOpening i).serveWaiting 1⟩ := by
  have hret := (s.recordBecomes_retireOpening i i).trans (if_pos rfl)
  have hserved : ((s.retireOpening i).serveWaiting 1).record i = _ :=
    (State.record_serveWaiting (by rw [hret]; rfl)).trans hret
  rw [State.takeRelease_accept hn (State.mayAsk_line ho (by simp)) (.inl hst) trivial,
    State.acceptRelease_line hst, State.lineEndsOpening_eq, State.report_eq hn hserved rfl]
  rfl

/-- Settles O53: from ACTIVE the acceptance is the host's with a mark; from OPENING the record
retires, and the RESULT and deferred staging do not meet. -/
theorem lineReleaseClosesOrRetires : Obligations.LineReleaseClosesOrRetires := by
  unfold Obligations.LineReleaseClosesOrRetires
  intro s k tag x gen i hh hn ho
  have hexec := State.takeHanded_eq hh (kind := isLineRelease) rfl
  rw [State.takeLine] at hexec
  refine ⟨fun hst hq => ?_, fun hst => ?_⟩
  · rw [State.takeRelease_accept hn (State.mayAsk_line ho (by simp)) (.inr ⟨hst, hq⟩) trivial,
      State.acceptRelease_active hst] at hexec
    exact State.Accepts.lineAnswers hn (congrArg Host.Outcome.next hexec)
      (s.accepts_releaseActive (.line k) i _) (s.mapBecomes_releaseActive i _ _)
  · rw [State.takeRelease_retires hn ho hst, Taken.finishLine, State.answerLine_serveWaiting]
      at hexec
    have heq := s.retireOpening_eq i
    have hkept : s.KeepsElsewhere (s.retireOpening i) := by rw [State.KeepsElsewhere, heq]
    rw [State.answerLine_eq, State.links_answerLine_congr (s := s) (congrArg State.links heq :)]
      at hexec
    refine ⟨_, congrArg Host.Outcome.next hexec, fun hw => ?_, State.KeepsElsewhere.trans hkept rfl,
      (congrArg State.referrals heq :), s.retireOpening_withdraws i,
      s.recordBecomes_retireOpening i, s.mapBecomes_retireOpening i,
      (congrArg (fun u => u.manager.queue) heq :),
      (congrArg (fun u => u.manager.attentionCount) heq :), rfl⟩
    exact congrArg Host.Outcome.next
      (hexec.trans (State.serveWaiting_of_none fun j => s.retireOpening_nobodyWaits hw i j))

/-! ## OPEN -/

/-- The checks of a line OPEN pass; on a REFER link the queue needs no room (R27, R39, R40). -/
theorem State.openCheck_passes {referred : Bool} {src : Source} {c : Cutover}
    (ha : s.Allocates i) (hsrc : f.source = some src) (hcut : f.cutover = some c)
    (hw : 1 ≤ f.width ∧ f.width ≤ 4) (hn : 1 ≤ f.count ∧ f.count ≤ 4)
    (hv : who ≠ .host → f.lease ≠ 0) (hr : sourceInRange (some src) f.width = true)
    (hd : ∀ g ∈ f.dests, g.link < 8 ∧ g.slot + f.width ≤ 38)
    (hov : anyOverlap f.width f.dests = false)
    (hreach : (s.beyondReach who ((match f.source with | some (.position l _) => [l] | _ => [])
      ++ f.dests.map Group.link)).1 = false)
    (hc : s.Allows c) (ho : s.AllOpen (inCircuit f.source f.dests f.width))
    (hq : referred = true ∨ s.HasRoom) : s.openCheck who referred f = none := by
  rw [State.openCheck_eq, firstFailing_eq_none, State.openChecks]
  intro d hd'
  simp only [List.mem_append, List.mem_cons, List.not_mem_nil, or_false] at hd'
  rcases hd' with (((rfl | rfl | rfl | rfl | rfl) | hd') | rfl) | hd'
  · rw [decide_eq_false_iff_not]
    rintro (h | h | h | h | h | h | ⟨hne, h0⟩)
    · omega
    · omega
    · omega
    · omega
    · rw [hsrc] at h; cases h
    · rw [hcut] at h; cases h
    · exact hv hne h0
  · rw [sourceOutsideRange_eq, hsrc, hr, Bool.not_true, Bool.false_or, List.any_eq_false]
    intro g hg
    rw [Group.outside_passes (hd g hg).1 (hd g hg).2]
    decide
  · exact hov
  · exact hreach
  · rw [hcut]
    exact State.tooFar_passes hc
  · exact State.taken_passes ho d hd'
  · rw [decide_eq_false_iff_not]
    intro hused
    rcases ha with ⟨h, -⟩ | ⟨-, h, -⟩
    · exact (hused i).1 h
    · exact (hused i).2 h
  · rcases hq with h | h
    · simp [h] at hd'
    · cases referred with
      | true => cases hd'
      | false =>
        rw [List.eq_of_mem_singleton hd']
        exact State.noRoom_passes h

/-- Allocation: what it writes beside the record and the claims (R9, R15). -/
theorem State.allocate_eq (s : State) (i : RecNo) (o : Owner) (f : OpenFields)
    (st : CircuitState) : s.allocate i o f st = { s with
      manager := { s.manager with
        table := (s.allocate i o f st).manager.table
        map := (s.allocate i o f st).manager.map
        attentionCount := s.countCleared i } } := by
  have h : s.allocate i o f st = (((s.clearAttention i).setRecord i {
      generation := ((s.clearAttention i).record i).generation + 1
      state := st
      owner := some o
      source := f.source
      width := f.width
      dests := f.dests
      lease := if f.lease = 0 then none else some ⟨f.lease, f.lease⟩
      tag := f.tag }).claim i (inCircuit f.source f.dests f.width)) := rfl
  rw [h, State.clearAttention_eq]
  rfl

/-- Claims of an allocated record: its positions JOINING (R10). -/
theorem State.mapBecomes_allocate (ho : s.AllOpen (inCircuit f.source f.dests f.width))
    (o : Owner) (st : CircuitState) : s.MapBecomes (s.allocate i o f st) fun p l q e =>
      if inCircuit f.source f.dests f.width p l q then .claimed i .joining else e :=
  fun p l q => by
  rw [State.allocate, State.entry_claim _ _ _ l.isLt q.isLt]
  have h : ∀ r, ((s.clearAttention i).setRecord i r).entry p l q = s.entry p l q :=
    fun r => s.entry_clearAttention i p l q
  rw [h]
  by_cases hin : inCircuit f.source f.dests f.width p l q = true
  · simp [hin, ho p l q hin]
  · simp [hin]

/-- An OPEN accepted for a line unit: what it writes beside record, map and queue (R14, R39). -/
theorem State.acceptOpen_line_eq (s : State) (i : RecNo) (k : LinkNo) (f : OpenFields) :
    s.acceptOpen i (.line k) f = { s with
      manager := { s.manager with
        table := (s.acceptOpen i (.line k) f).manager.table
        map := (s.allocate i (.link k) f .opening).manager.map
        queue := (s.acceptOpen i (.line k) f).manager.queue
        attentionCount := s.countCleared i + 1 }
      events := { s.events with flags := s.events.flags ||| 0x800#13 } } := by
  have ha : (((s.allocate i (.link k) f .opening).stage i .activate (f.cutover.getD .nextFrame)
      .owner).record i).attention = false := by simp [allocated]
  have h : s.acceptOpen i (.line k) f = ((s.allocate i (.link k) f .opening).stage i .activate
      (f.cutover.getD .nextFrame) .owner).setAttention i := rfl
  rw [h, State.setAttention_eq, ha, State.stage_eq, State.allocate_eq]
  rfl

theorem State.mapBecomes_acceptOpen_line (ho : s.AllOpen (inCircuit f.source f.dests f.width))
    (k : LinkNo) : s.MapBecomes (s.acceptOpen i (.line k) f) fun p l q e =>
      if inCircuit f.source f.dests f.width p l q then .claimed i .joining else e :=
  fun p l q => by
  rw [State.entry_congr (s := s.allocate i (.link k) f .opening)
    (by rw [State.acceptOpen_line_eq])]
  exact s.mapBecomes_allocate ho _ _ p l q

/-- Entry into referral: what it writes beside the record, the claims and the link (R40). -/
theorem State.enterReferral_writes (s : State) (k : LinkNo) (i : RecNo) (tag : Byte)
    (f : OpenFields) : s.enterReferral k i tag f = { s with
      manager := { s.manager with
        table := (s.allocate i (.link k) f .referred).manager.table
        map := (s.allocate i (.link k) f .referred).manager.map
        attentionCount := s.countCleared i }
      links := s.links.set k (s.link k).refer
      referrals := { s.referrals with
        records := s.referrals.records.set k
          (some (referralFor i tag f (s.record i).generation s.referrals.timeout)) }
      events := { s.events with flags := s.events.flags ||| 0x200#13 } } := by
  rw [State.enterReferral_eq, State.allocate_eq]
  rfl

theorem State.recordBecomes_enterReferral (s : State) (k : LinkNo) (i : RecNo) (tag : Byte)
    (f : OpenFields) : s.RecordBecomes (s.enterReferral k i tag f) i
      (allocated (s.record i).generation (.link k) f .referred) := fun j => by
  rw [State.record_congr (s := s.allocate i (.link k) f .referred)
    (by rw [State.enterReferral_writes]), State.record_allocate]

theorem State.mapBecomes_enterReferral (ho : s.AllOpen (inCircuit f.source f.dests f.width))
    (k : LinkNo) (tag : Byte) : s.MapBecomes (s.enterReferral k i tag f) fun p l q e =>
      if inCircuit f.source f.dests f.width p l q then .claimed i .joining else e :=
  fun p l q => by
  rw [State.entry_congr (s := s.allocate i (.link k) f .referred)
    (by rw [State.enterReferral_writes])]
  exact s.mapBecomes_allocate ho _ _ p l q

theorem State.referral_enterReferral (s : State) (k j : LinkNo) (i : RecNo) (tag : Byte)
    (f : OpenFields) : (s.enterReferral k i tag f).referral j = if k = j then
      some (referralFor i tag f (s.record i).generation s.referrals.timeout) else s.referral j := by
  have h : (s.enterReferral k i tag f).referral j = (s.setReferral k
      (some (referralFor i tag f (s.record i).generation s.referrals.timeout))).referral j := by
    rw [State.enterReferral_writes]
    rfl
  rw [h, State.referral_setReferral]

theorem State.linkBecomes_enterReferral (s : State) (k : LinkNo) (i : RecNo) (tag : Byte)
    (f : OpenFields) : s.LinkBecomes (s.enterReferral k i tag f) k (s.link k).refer := fun j => by
  rw [State.enterReferral_eq, State.link_entered]

/-- A line OPEN on a REFER link (R40). -/
theorem State.takeLineOpen_refers (hk : s.refers k = true) (ha : s.Allocates i)
    (hc : s.openCheck (.line k) true f = none) :
    s.takeLineOpen k tag f = s.enterReferral k i tag f := by
  simp only [State.takeLineOpen, hk, if_true, hc, s.available_of_allocates ha]

/-- A line OPEN on an AUTO link (R39). -/
theorem State.takeLineOpen_accepts (hk : s.refers k = false) (ha : s.Allocates i)
    (hc : s.openCheck (.line k) false f = none) : s.takeLineOpen k tag f =
      (s.acceptOpen i (.line k) f).answerLine k ((s.acceptOpen i (.line k) f).report i) := by
  simp only [State.takeLineOpen, hk, Bool.false_eq_true, if_false, State.takeOpen, hc,
    s.available_of_allocates ha]
  rfl

/-- Settles O51: the checks pass, and the allocated record is staged or referred. -/
theorem lineOpensAreAcceptedOrReferred : Obligations.LineOpensAreAcceptedOrReferred := by
  unfold Obligations.LineOpensAreAcceptedOrReferred
  intro s k tag sl ss v w sf ds i src dests c hh hsrc hdests hc hw1 hw4 hn1 hn4 hv hrange hd hov
    hrs hrd ho ha he hroom
  subst hsrc hdests hc
  let f := lineOpenFields sl ss w sf v ds
  have hcheck : s.openCheck (.line k) (s.refers k) f = none := by
    refine State.openCheck_passes ha rfl rfl ⟨hw1, hw4⟩ ⟨hn1, hn4⟩ (fun _ => hv) hrange hd hov
      (State.beyondReach_line fun l hl => ?_) ?_ ho hroom
    · rcases List.mem_cons.mp hl with rfl | hl
      · exact hrs
      · obtain ⟨g, hg, rfl⟩ := List.mem_map.mp hl
        exact hrd g hg
    · cases sf <;> trivial
  have hexec := State.takeHanded_eq hh (kind := isLineOpen) rfl
  rw [State.takeLine] at hexec
  have halloc : ∀ st, allocated (s.record i).generation (.link k) f st = {
      generation := (s.record i).generation + 1
      state := st
      owner := some (.link k)
      source := some (.position sl.toNat ss.toNat)
      width := w.toNat
      dests := ds.map fun d => groupOf d.1 d.2
      lease := some ⟨v, v⟩
      tag := 0 } := fun st => by
    rw [allocated, if_neg (show f.lease ≠ 0 from hv)]
    rfl
  cases hk : s.refers k with
  | true =>
    rw [hk] at hcheck
    rw [State.takeLineOpen_refers hk ha hcheck] at hexec
    have heq := s.enterReferral_writes k i tag f
    have hrec := s.recordBecomes_enterReferral k i tag f
    rw [halloc] at hrec
    exact ⟨_, congrArg Host.Outcome.next hexec, by rw [State.KeepsElsewhere, heq],
      (congrArg State.mailbox heq :), s.mapBecomes_enterReferral ho k tag, hrec,
      (congrArg (fun u => u.manager.queue) heq :),
      (congrArg (fun u => u.manager.attentionCount) heq :),
      (congrArg (fun u => u.events.flags) heq :), fun j => s.referral_enterReferral k j i tag f,
      s.linkBecomes_enterReferral k i tag f⟩
  | false =>
    rw [hk] at hcheck
    rw [State.takeLineOpen_accepts hk ha hcheck] at hexec
    have heq := s.acceptOpen_line_eq i k f
    have hkept : s.KeepsElsewhere (s.acceptOpen i (.line k) f) := by rw [State.KeepsElsewhere, heq]
    have hstages := State.stages_acceptOpen s i (.line k) f
    have hrec := hstages.acts.recordBecomes
    rw [State.record_acceptOpen, Requester.owner, halloc] at hrec
    have hreport : (s.acceptOpen i (.line k) f).report i = {
        outcome := .ok
        reference := some (indexOctet i, (s.record i).generation + 1)
        state := some .opening
        lease := some v } := by
      rw [State.report, hrec i, if_pos rfl]
      rfl
    rw [hreport, State.answerLine_eq,
      State.links_answerLine_congr (s := s) (congrArg State.links heq :)] at hexec
    exact ⟨_, congrArg Host.Outcome.next hexec, State.KeepsElsewhere.trans hkept rfl,
      hstages.mailbox, s.mapBecomes_acceptOpen_line ho k, hrec, hstages.queue,
      (congrArg (fun u => u.manager.attentionCount) heq :),
      (congrArg (fun u => u.events.flags) heq :), hstages.acts.referrals, rfl⟩
end Sys2Proof.Machine
end

-- ==== Proofs: writes of the settings ====
section
/-! SUPPORT. Host writes of the register window that set a setting, an octet of the request area or
a link's reach and policy, and those that are ignored (R179, R200; 13.6). -/

namespace Sys2Proof.Machine

-- The proofs are elaborated one after another: many at once take the text past its memory limit.
set_option Elab.async false

variable {s t u : State} {k : LinkNo} {v : Byte} {a : BitVec 7}

/-- A choice, with the test turned round. -/
theorem ite_eq_swap {α : Type} {p q : Prop} [Decidable p] [Decidable q] (h : p ↔ ¬q) {x y : α} :
    (if p then x else y) = if q then y else x := by
  rw [if_congr h rfl rfl, ite_not]

/-! ## What a write to an address does -/

/-- A write to an address that is read-only or unmapped is ignored (R179; 13.6). -/
theorem State.writeRegister_ignored {n : Nat} (ha : a.toNat = n)
    (h : (0x19 ≤ n ∧ n ≤ 0x33) ∨ n = 0x39 ∨ n = 0x3A ∨ (0x3E ≤ n ∧ n ≤ 0x43) ∨ n = 0x48
      ∨ (0x4A ≤ n ∧ n ≤ 0x4F) ∨ (0x58 ≤ n ∧ n ≤ 0x5F) ∨ 0x70 ≤ n) : s.writeRegister a v = s := by
  simp only [State.writeRegister, ha]
  repeat rw [if_neg (by omega)]

/-- A write to the request area (R180). -/
theorem State.writeRegister_request (s : State) (n : Fin 24) (v : Byte) :
    s.writeRegister (BitVec.ofNat 7 n) v =
      { s with mailbox := { s.mailbox with request := s.mailbox.request.set n v } } := by
  have ha : (BitVec.ofNat 7 n.val).toNat = n.val := by
    rw [BitVec.toNat_ofNat]
    omega
  have hset : s.mailbox.request.setIfInBounds n v = s.mailbox.request.set n v :=
    Vector.ext fun j hj => by rw [Vector.getElem_setIfInBounds, Vector.getElem_set]
  simp only [State.writeRegister, ha]
  rw [if_pos n.isLt, State.writeRequest, hset]

/-- The addresses of a bank of eight, one for each link (13.6). -/
theorem bank_address (k : LinkNo) :
    (0x60 + BitVec.ofNat 7 k : BitVec 7).toNat = 0x60 + k.val
      ∧ Decode.bankLink (0x60 + BitVec.ofNat 7 k) = k
      ∧ (0x50 + BitVec.ofNat 7 k : BitVec 7).toNat = 0x50 + k.val
      ∧ Decode.bankLink (0x50 + BitVec.ofNat 7 k) = k := by
  revert k
  decide

/-- A write to LINK_REACH_k (R37). -/
theorem State.writeRegister_reach (s : State) (k : LinkNo) (v : Byte) :
    s.writeRegister (0x60 + BitVec.ofNat 7 k) v =
      { s with manager := { s.manager with reach := s.manager.reach.set k v } } := by
  obtain ⟨ha, hk, -, -⟩ := bank_address k
  have hlt : k.val < 8 := k.isLt
  simp only [State.writeRegister, ha, hk]
  repeat rw [if_neg (by omega)]
  rw [if_pos (by omega)]

/-- A write to LINK_CTRL_k (R130, R167, R200). -/
theorem State.writeRegister_linkControl (s : State) (k : LinkNo) (v : Byte) :
    s.writeRegister (0x50 + BitVec.ofNat 7 k) v = s.writeLinkControl k v := by
  obtain ⟨-, -, ha, hk⟩ := bank_address k
  have hlt : k.val < 8 := k.isLt
  simp only [State.writeRegister, ha, hk]
  repeat rw [if_neg (by omega)]
  rw [if_pos (by omega)]

/-! ## LINK_CTRL_k with ENABLE as in force -/

/-- A write of POLICY sets the one bit of its link (R167). -/
theorem State.refers_writePolicy (s : State) (k j : LinkNo) (b : Bool) :
    (s.writePolicy k b).refers j = if j = k then b else s.refers j := by
  have hbit : (1#8 <<< k.val : Byte).getLsbD j = decide (j = k) := by
    revert j k
    decide
  cases b
  · simp only [State.refers, State.writePolicy, Bool.false_eq_true, if_false, BitVec.getLsbD_and,
      BitVec.getLsbD_not, hbit]
    by_cases h : j = k <;> simp [h, j.isLt]
  · simp only [State.refers, State.writePolicy, if_true, BitVec.getLsbD_or, hbit]
    by_cases h : j = k <;> simp [h]

/-- With ENABLE as it is in force, POLICY alone is written (R200). -/
theorem State.writeLinkControl_policy (h : v.getLsbD 0 = decide ((s.link k).state ≠ .disabled)) :
    s.writeLinkControl k v = s.writePolicy k (v.getLsbD 1) := by
  have hlink : ∀ b, (s.writePolicy k b).link k = s.link k := fun _ => rfl
  rw [State.writeLinkControl, h, State.enableLink, State.disableLink, hlink]
  by_cases hd : (s.link k).state = .disabled <;> simp [hd]

/-- Settles O36: each address has its branch, and a value outside its range takes none. -/
theorem settingWritesKeepTheirRanges : Obligations.SettingWritesKeepTheirRanges := by
  unfold Obligations.SettingWritesKeepTheirRanges
  refine fun s v => ⟨rfl, rfl, ?_, ?_, ?_, rfl,
    fun k => congrArg Host.Outcome.next (s.writeRegister_reach k v), fun k h => ?_,
    fun n => congrArg Host.Outcome.next (s.writeRegister_request n v), fun a h => ?_⟩
  · refine congrArg Host.Outcome.next (ite_eq_swap ?_)
    bv_omega
  · exact congrArg Host.Outcome.next (ite_eq_swap (by omega))
  · exact congrArg Host.Outcome.next (ite_eq_swap (by omega))
  · refine ⟨_, congrArg Host.Outcome.next ((s.writeRegister_linkControl k v).trans
      (State.writeLinkControl_policy h)), rfl, fun j => s.refers_writePolicy k j _⟩
  · refine congrArg Host.Outcome.next (State.writeRegister_ignored rfl ?_)
    rcases h with h | rfl | rfl | h | rfl | h | h | h
    · exact .inl h
    · decide
    · decide
    · omega
    · decide
    · omega
    · omega
    · omega
end Sys2Proof.Machine
end

-- ==== Proofs: the octets of the response area ====
section
/-! SUPPORT. The response area octet by octet and bit by bit (R185; 13.4): the value of each octet
that an answer names, and the fields that are packed into one octet. -/

namespace Sys2Proof.Machine

-- The proofs are elaborated one after another: many at once take the text past its memory limit.
set_option Elab.async false

variable {s : State} {n : Nat}

/-! ## The fields of an octet -/

theorem toNat_octet (n : Nat) : (octet n).toNat = n % 256 := BitVec.toNat_ofNat n 8

theorem toNat_octet_of_lt (h : n < 256) : (octet n).toNat = n := by
  rw [toNat_octet, Nat.mod_eq_of_lt h]

/-- A field of an octet, by division: position and width within the octet. -/
theorem octet_field (n : Nat) {lo len : Nat} (h : lo + len ≤ 8) :
    ((octet n).extractLsb' lo len).toNat = n / 2 ^ lo % 2 ^ len := by
  rw [BitVec.extractLsb'_toNat, toNat_octet, Nat.shiftRight_eq_div_pow]
  have hsplit : (256 : Nat) = 2 ^ lo * 2 ^ (8 - lo) := by
    rw [← Nat.pow_add, Nat.add_sub_cancel' (by omega)]
  have hdvd : 2 ^ len ∣ 2 ^ (8 - lo) := Nat.pow_dvd_pow 2 (by omega)
  rw [hsplit, Nat.mod_mul_right_div_self, Nat.mod_mod_of_dvd _ hdvd]

/-- A bit of an octet, by division. -/
theorem octet_bit {b : Bool} {i : Nat} (hi : i < 8) (h : n / 2 ^ i % 2 = b.toNat) :
    (octet n).getLsbD i = b := by
  rw [octet, BitVec.getLsbD_ofNat, Nat.testBit_eq_decide_div_mod_eq, h]
  cases b <;> simp [hi]

theorem mark_eq (b : Bool) (i : Nat) : mark b i = 2 ^ i * b.toNat := by
  cases b <;> simp [mark]

theorem highOctet_append_lowOctet (h : Half) : (highOctet h ++ lowOctet h : Half) = h := by
  refine BitVec.eq_of_toNat_eq ?_
  rw [BitVec.toNat_append, highOctet, lowOctet, BitVec.extractLsb'_toNat, BitVec.extractLsb'_toNat,
    Nat.shiftRight_zero, ← Nat.shiftLeft_add_eq_or_of_lt (Nat.mod_lt _ (by decide)),
    Nat.shiftLeft_eq, Nat.shiftRight_eq_div_pow]
  have := h.isLt
  omega

/-- An octet of a response area is the first that the answer names for its place, or 00h (R185). -/
theorem getElem_respond (fields : List (Nat × Byte)) (i : Nat) (hi : i < 24) :
    (respond fields)[i] = (fields.lookup i).getD 0 := by
  simp [respond]

theorem lookup_eq_find (fields : List (Nat × Byte)) (i : Nat) :
    fields.lookup i = (fields.find? fun f => f.1 == i).map fun f => f.2 := by
  induction fields with
  | nil => rfl
  | cons f rest ih =>
    rw [List.lookup_cons, List.find?_cons, ih, BEq.comm]
    cases f.1 == i <;> rfl

/-- An octet that no field of an answer names is 00h (R185). -/
theorem getElem_respond_unnamed {fields : List (Nat × Byte)} {i : Nat} (hi : i < 24)
    (h : ∀ f ∈ fields, f.1 ≠ i) : (respond fields)[i] = 0 := by
  have hnone : (fields.find? fun f => f.1 == i) = none :=
    List.find?_eq_none.mpr fun f hf => by simpa using h f hf
  rw [getElem_respond fields i hi, lookup_eq_find, hnone]
  rfl

/-! ## The register window -/

/-- The response area stands at 1Ch to 33h (R185; 13.6). -/
theorem State.readRegister_response (s : State) (i : Fin 24) :
    s.readRegister (0x1C + BitVec.ofNat 7 i) = s.mailbox.response[i] := by
  have ha : (0x1C + BitVec.ofNat 7 i : BitVec 7).toNat = 0x1C + i.val := by
    revert i
    decide
  have hi : i.val < 24 := i.isLt
  simp only [State.readRegister, ha]
  rw [if_neg (by omega), if_neg (by omega), if_neg (by omega), if_neg (by omega),
    if_neg (by omega), if_pos (by omega), Nat.add_sub_cancel_left, Vector.getElem?_eq_getElem hi]
  rfl

theorem CircuitState.code_lt (st : CircuitState) : st.code < 7 := by cases st <;> decide

theorem retireCode_lt (c : Option RetireCause) : retireCode c < 3 := by
  rcases c with _ | _ | _ <;> decide

/-! ## The answer to a circuit request -/

theorem Reply.presence (r : Reply) : (r.response[0]).getLsbD 0 = r.reference.isSome
    ∧ (r.response[0]).getLsbD 1 = r.state.isSome ∧ (r.response[0]).getLsbD 2 = r.lease.isSome
    ∧ (r.response[0]).toNat < 8 := by
  have h : r.response[0]
    = octet (mark r.reference.isSome 0 + mark r.state.isSome 1 + mark r.lease.isSome 2) := rfl
  have h0 := r.reference.isSome.toNat_le
  have h1 := r.state.isSome.toNat_le
  have h2 := r.lease.isSome.toNat_le
  simp only [h, mark_eq]
  refine ⟨octet_bit (by decide) ?_, octet_bit (by decide) ?_, octet_bit (by decide) ?_, ?_⟩
  · omega
  · omega
  · omega
  · rw [toNat_octet]
    omega

/-! ## QUERY -/

section query

variable (i : RecNo) (r : Record)

theorem queryResponse_presence : ((queryResponse i r)[0]).getLsbD 0 = true
    ∧ ((queryResponse i r)[0]).getLsbD 1 = true
    ∧ ((queryResponse i r)[0]).getLsbD 2 = r.lease.isSome
    ∧ ((queryResponse i r)[0]).getLsbD 3 = r.stamp.isSome
    ∧ (((queryResponse i r)[0]).extractLsb' 4 2).toNat = retireCode r.retireCause
    ∧ ((queryResponse i r)[0]).getLsbD 6 = r.attention
    ∧ ((queryResponse i r)[0]).getLsbD 7 = false := by
  have h : (queryResponse i r)[0] = octet (1 + 2 + mark r.lease.isSome 2 + mark r.stamp.isSome 3
      + 16 * retireCode r.retireCause + mark r.attention 6) := rfl
  have hl := r.lease.isSome.toNat_le
  have hs := r.stamp.isSome.toNat_le
  have ha := r.attention.toNat_le
  have hc := retireCode_lt r.retireCause
  simp only [h, mark_eq]
  refine ⟨octet_bit (by decide) ?_, octet_bit (by decide) ?_, octet_bit (by decide) ?_,
    octet_bit (by decide) ?_, (octet_field _ (by decide)).trans ?_, octet_bit (by decide) ?_,
    octet_bit (by decide) ?_⟩
  · rw [Bool.toNat_true]; omega
  · rw [Bool.toNat_true]; omega
  · omega
  · omega
  · omega
  · omega
  · rw [Bool.toNat_false]; omega

/-- The fields of octet 3: a state code, and a frame counter above it. -/
theorem timeOctet_fields (st : CircuitState) (c : BitVec 4) :
    ((octet (st.code + 16 * c.toNat)).extractLsb' 0 3).toNat = st.code
      ∧ (octet (st.code + 16 * c.toNat)).getLsbD 3 = false
      ∧ (octet (st.code + 16 * c.toNat)).extractLsb' 4 4 = c := by
  have hst := st.code_lt
  have hc := c.isLt
  refine ⟨(octet_field _ (by decide)).trans (by omega), octet_bit (by decide) ?_,
    BitVec.eq_of_toNat_eq ((octet_field _ (by decide)).trans (by omega))⟩
  rw [Bool.toNat_false]
  omega

theorem queryResponse_time : (((queryResponse i r)[3]).extractLsb' 0 3).toNat = r.state.code
    ∧ ((queryResponse i r)[3]).getLsbD 3 = false
    ∧ ((queryResponse i r)[3]).extractLsb' 4 4 = (r.stamp.map Stamp.counter).getD 0
    ∧ (queryResponse i r)[6] ++ (queryResponse i r)[7] = (r.stamp.map Stamp.number).getD 0 := by
  obtain ⟨hcode, hzero, hcount⟩ := timeOctet_fields r.state (r.stamp.getD ⟨0, 0⟩).counter
  refine ⟨hcode, hzero, hcount.trans ?_, (highOctet_append_lowOctet _).trans ?_⟩
  · cases r.stamp <;> rfl
  · cases r.stamp <;> rfl

theorem ownerField_eq (o : Option Owner) : ownerField o
    = (match o with | some (.link k) => k.val | _ => 0) + 8 * (decide (o = some .host)).toNat := by
  rcases o with _ | _ | k
  · rfl
  · rfl
  · simp [ownerField]

/-- The source is a constant. -/
def Record.isConstant (r : Record) : Bool :=
  match r.source with
  | some (.constant _) => true
  | _ => false

theorem queryResponse_owner (hw : r.width ≤ 4) :
    (((queryResponse i r)[8]).extractLsb' 0 3).toNat
        = (match r.owner with | some (.link k) => k.val | _ => 0)
      ∧ ((queryResponse i r)[8]).getLsbD 3 = decide (r.owner = some .host)
      ∧ ((queryResponse i r)[8]).getLsbD 4 = r.isConstant
      ∧ (((queryResponse i r)[8]).extractLsb' 5 3).toNat = r.width := by
  have h : (queryResponse i r)[8]
      = octet (ownerField r.owner + mark r.isConstant 4 + 32 * r.width) := rfl
  have hk : (match r.owner with | some (.link k) => k.val | _ => 0) < 8 := by
    rcases r.owner with _ | _ | k
    · decide
    · decide
    · exact k.isLt
  have hh := (decide (r.owner = some .host)).toNat_le
  have hc := r.isConstant.toNat_le
  simp only [h, mark_eq, ownerField_eq]
  generalize (match r.owner with | some (.link k) => k.val | _ => 0) = m at hk ⊢
  refine ⟨(octet_field _ (by decide)).trans ?_, octet_bit (by decide) ?_, octet_bit (by decide) ?_,
    (octet_field _ (by decide)).trans ?_⟩
  · omega
  · omega
  · omega
  · omega

theorem queryResponse_source (h : ∀ src ∈ r.source, src.named.1 < 8 ∧ src.named.2 < 38) :
    (((queryResponse i r)[9]).toNat, ((queryResponse i r)[10]).toNat) = match r.source with
      | none => (0, 0)
      | some (.position l q) => (l, q)
      | some (.constant v) => (v.toNat, 0) := by
  have h9 : (queryResponse i r)[9] = match r.source with
    | some (.position l _) => octet l
    | some (.constant v) => v
    | none => 0 := rfl
  have h10 : (queryResponse i r)[10] = match r.source with
    | some (.position _ q) => octet q
    | _ => 0 := rfl
  rw [h9, h10]
  rcases hs : r.source with _ | ⟨l, q⟩ | v
  · rfl
  · obtain ⟨hl, hq⟩ := h _ hs
    exact Prod.ext (toNat_octet_of_lt (Nat.lt_trans hl (by decide)))
      (toNat_octet_of_lt (Nat.lt_trans hq (by decide)))
  · rfl

theorem stagedKindCode_lt (c : Option Staged) : stagedKindCode c < 6 := by
  rcases c with _ | ⟨_ | _ | _ | _ | _, _, _⟩ <;> simp [stagedKindCode]

theorem stagedCauseCode_lt (c : Option Staged) : stagedCauseCode c < 4 := by
  rcases c with _ | ⟨_, _, _ | _ | _⟩ <;> simp [stagedCauseCode]

theorem queryResponse_change (hd : r.dests.length ≤ 4) :
    (((queryResponse i r)[11]).extractLsb' 0 3).toNat = r.dests.length
      ∧ (((queryResponse i r)[11]).extractLsb' 3 3).toNat = stagedKindCode r.staged
      ∧ (((queryResponse i r)[11]).extractLsb' 6 2).toNat = stagedCauseCode r.staged := by
  have h : (queryResponse i r)[11] = octet (r.dests.length + 8 * stagedKindCode r.staged
      + 64 * stagedCauseCode r.staged) := rfl
  have hk := stagedKindCode_lt r.staged
  have hc := stagedCauseCode_lt r.staged
  rw [h]
  refine ⟨(octet_field _ (by decide)).trans ?_, (octet_field _ (by decide)).trans ?_,
    (octet_field _ (by decide)).trans ?_⟩
  · omega
  · omega
  · omega

end query

/-- A destination's link or slot, 0 past the last. -/
theorem fieldAt_map {α : Type} (l : List α) (f : α → Nat) (j : Nat) :
    fieldAt (l.map f) j = ((l[j]?).map f).getD 0 := by
  rw [fieldAt, List.getElem?_map]

theorem fieldAt_lt {α : Type} {l : List α} {f : α → Nat} {b : Nat} (hb : 0 < b)
    (h : ∀ x ∈ l, f x < b) (j : Nat) : fieldAt (l.map f) j < b := by
  rw [fieldAt_map]
  cases hj : l[j]? with
  | none => exact hb
  | some x => exact h x (List.mem_of_getElem? hj)

/-- Two links packed into one octet. -/
theorem linkPair_fields {a b : Nat} (ha : a < 8) (hb : b < 8) :
    ((octet (a + 16 * b)).extractLsb' 0 4).toNat = a
      ∧ ((octet (a + 16 * b)).extractLsb' 4 4).toNat = b :=
  ⟨(octet_field _ (by decide)).trans (by omega), (octet_field _ (by decide)).trans (by omega)⟩

section query

variable (i : RecNo) (r : Record)

theorem queryResponse_dests (h : ∀ g ∈ r.dests, g.link < 8 ∧ g.slot < 38) (j : Fin 4) :
    (((queryResponse i r)[12 + j.val / 2]).extractLsb' (4 * (j.val % 2)) 4).toNat
        = ((r.dests[j.val]?).map Group.link).getD 0
      ∧ ((queryResponse i r)[14 + j.val]).toNat = ((r.dests[j.val]?).map Group.slot).getD 0 := by
  have hlink := fieldAt_lt (l := r.dests) (f := Group.link) (by decide : 0 < 8)
    fun g hg => (h g hg).1
  have hslot : ∀ j, (octet (fieldAt (r.dests.map Group.slot) j)).toNat
      = fieldAt (r.dests.map Group.slot) j := fun j =>
    toNat_octet_of_lt (Nat.lt_trans (fieldAt_lt (l := r.dests) (by decide : 0 < 38)
      (fun g hg => (h g hg).2) j) (by decide))
  have hfirst := linkPair_fields (hlink 0) (hlink 1)
  have hsecond := linkPair_fields (hlink 2) (hlink 3)
  rw [← fieldAt_map, ← fieldAt_map]
  match j with
  | 0 => exact ⟨hfirst.1, hslot 0⟩
  | 1 => exact ⟨hfirst.2, hslot 1⟩
  | 2 => exact ⟨hsecond.1, hslot 2⟩
  | 3 => exact ⟨hsecond.2, hslot 3⟩

/-- The parameter of a staged change in octet 20, above the cutover code: a link at bit 3, or the
mark of a constant at bit 2. -/
def Change.field : Change → Nat
  | .add g | .drop g => 8 * g.link
  | .move (.position l _) => 8 * l
  | .move (.constant _) => 4
  | _ => 0

/-- What octets 20 and 21 say of a staged change: constant, link, slot or value (13.4). -/
def Change.parameter : Change → Bool × Nat × Nat
  | .add g | .drop g => (false, g.link, g.slot)
  | .move (.position l q) => (false, l, q)
  | .move (.constant v) => (true, 0, v.toNat)
  | _ => (false, 0, 0)

theorem Change.field_eq (c : Change) :
    c.field = 4 * c.parameter.1.toNat + 8 * c.parameter.2.1 := by
  rcases c with _ | g | g | (_ | _) | _ <;> simp [Change.field, Change.parameter]

theorem Change.parameter_lt {c : Change} (h : c.named.1 < 8 ∧ c.named.2 < 38) :
    c.parameter.2.1 < 8 ∧ c.parameter.2.2 < 256 := by
  rcases c with _ | g | g | (⟨l, q⟩ | v) | _
  · exact ⟨by decide, by decide⟩
  · exact ⟨h.1, Nat.lt_trans h.2 (by decide)⟩
  · exact ⟨h.1, Nat.lt_trans h.2 (by decide)⟩
  · exact ⟨h.1, Nat.lt_trans h.2 (by decide)⟩
  · exact ⟨(by decide : 0 < 8), v.isLt⟩
  · exact ⟨by decide, by decide⟩

theorem cutoverCode_lt (c : Cutover) : cutoverCode c < 3 := by cases c <;> simp [cutoverCode]

/-- The fields of octet 20, of which the parameter's link is below 8. -/
theorem stagedOctet_fields (cu : Cutover) (c : Change) (h : c.parameter.2.1 < 8) :
    ((octet (cutoverCode cu + c.field)).extractLsb' 0 2).toNat = cutoverCode cu
      ∧ (octet (cutoverCode cu + c.field)).getLsbD 2 = c.parameter.1
      ∧ ((octet (cutoverCode cu + c.field)).extractLsb' 3 5).toNat = c.parameter.2.1 := by
  have hcu := cutoverCode_lt cu
  have hb := c.parameter.1.toNat_le
  rw [Change.field_eq]
  refine ⟨(octet_field _ (by decide)).trans ?_, octet_bit (by decide) ?_,
    (octet_field _ (by decide)).trans ?_⟩
  · omega
  · omega
  · omega

/-- Octets 20 to 23 with no change staged. -/
theorem queryResponse_unstaged (h : r.staged = none) : (queryResponse i r)[20] = 0
    ∧ (queryResponse i r)[21] = 0 ∧ (queryResponse i r)[22] = 0 ∧ (queryResponse i r)[23] = 0 := by
  obtain ⟨gen, st, o, src, w, ds, l, tag, staged, stamp, att, rc⟩ := r
  cases h
  exact ⟨rfl, rfl, rfl, rfl⟩

/-- Octets 20 to 23 with a change staged. -/
theorem queryResponse_staged {c : Staged} (h : r.staged = some c) :
    (queryResponse i r)[20] = octet (cutoverCode c.cutover + c.change.field)
      ∧ (queryResponse i r)[21] = (match c.change with
        | .add g | .drop g => octet g.slot
        | .move (.position _ q) => octet q
        | .move (.constant v) => v
        | _ => 0)
      ∧ (queryResponse i r)[22] = (match c.cutover with | .atSuperframe n => highOctet n | _ => 0)
      ∧ (queryResponse i r)[23]
        = (match c.cutover with | .atSuperframe n => lowOctet n | _ => 0) := by
  obtain ⟨gen, st, o, src, w, ds, l, tag, staged, stamp, att, rc⟩ := r
  obtain ⟨ch, cu, ca⟩ := c
  cases h
  refine ⟨?_, ?_, ?_, ?_⟩
  · rcases ch with _ | _ | _ | (_ | _) | _ <;> rfl
  · rcases ch with _ | _ | _ | (_ | _) | _ <;> rfl
  · cases cu <;> rfl
  · cases cu <;> rfl

/-- The cutover of a staged change: its code, and its superframe number where it has one. -/
theorem queryResponse_cutover (h : ∀ c ∈ r.staged, c.change.named.1 < 8 ∧ c.change.named.2 < 38) :
    (((queryResponse i r)[20]).extractLsb' 0 2).toNat = (match r.staged.map Staged.cutover with
        | some .nextSuperframe => 1 | some (.atSuperframe _) => 2 | _ => 0)
    ∧ ((queryResponse i r)[22] ++ (queryResponse i r)[23] : Half)
      = (match r.staged.map Staged.cutover with | some (.atSuperframe n) => n | _ => 0) := by
  cases hs : r.staged with
  | none =>
    obtain ⟨h20, -, h22, h23⟩ := queryResponse_unstaged i r hs
    rw [h20, h22, h23]
    exact ⟨rfl, rfl⟩
  | some c =>
    obtain ⟨h20, -, h22, h23⟩ := queryResponse_staged i r hs
    obtain ⟨hlink, -⟩ := Change.parameter_lt (h c hs)
    rw [h20, h22, h23, (stagedOctet_fields c.cutover c.change hlink).1]
    cases hcu : c.cutover with
    | nextFrame => simp [cutoverCode, hcu]
    | nextSuperframe => simp [cutoverCode, hcu]
    | atSuperframe n => simp [cutoverCode, hcu, highOctet_append_lowOctet]

/-- The parameter of a staged change. -/
theorem queryResponse_parameter (h : ∀ c ∈ r.staged, c.change.named.1 < 8 ∧ c.change.named.2 < 38) :
    (((queryResponse i r)[20]).getLsbD 2, (((queryResponse i r)[20]).extractLsb' 3 5).toNat,
      ((queryResponse i r)[21]).toNat)
        = (match r.staged.map Staged.change with
          | some c => c.parameter
          | none => (false, 0, 0)) := by
  cases hs : r.staged with
  | none =>
    obtain ⟨h20, h21, -, -⟩ := queryResponse_unstaged i r hs
    rw [h20, h21]
    rfl
  | some c =>
    obtain ⟨h20, h21, -, -⟩ := queryResponse_staged i r hs
    obtain ⟨hlink, hslot⟩ := Change.parameter_lt (h c hs)
    obtain ⟨-, hmark, hfield⟩ := stagedOctet_fields c.cutover c.change hlink
    have hvalue : ((queryResponse i r)[21]).toNat = c.change.parameter.2.2 := by
      rw [h21]
      rcases hch : c.change with _ | g | g | (⟨l, q⟩ | v) | _ <;> rw [hch] at hslot
      · rfl
      · exact toNat_octet_of_lt hslot
      · exact toNat_octet_of_lt hslot
      · exact toNat_octet_of_lt hslot
      · rfl
      · rfl
    rw [h20, hmark, hfield, hvalue]
    rfl

end query

/-! ## READ_REFERRAL -/

section referral

variable (r : Referral)

/-- The octet with width and cutover of a referral. -/
theorem referralResponse_width (hw : r.width ≤ 4) :
    (((referralResponse (some r))[14]).extractLsb' 0 4).toNat = r.width
      ∧ ((referralResponse (some r))[14]).getLsbD 4 = decide (r.cutover = .nextSuperframe)
      ∧ ((referralResponse (some r))[14]).extractLsb' 5 3 = 0 := by
  have h : (referralResponse (some r))[14]
      = octet (r.width + mark (decide (r.cutover = .nextSuperframe)) 4) := by
    have hmark : (match r.cutover with | .nextSuperframe => true | _ => false)
        = decide (r.cutover = .nextSuperframe) := by cases r.cutover <;> rfl
    rw [← hmark]
    rfl
  have hb := (decide (r.cutover = .nextSuperframe)).toNat_le
  rw [h, mark_eq]
  refine ⟨(octet_field _ (by decide)).trans ?_, octet_bit (by decide) ?_,
    BitVec.eq_of_toNat_eq ((octet_field _ (by decide)).trans ?_)⟩
  · omega
  · omega
  · show _ = 0
    omega

theorem referralResponse_dests (h : ∀ g ∈ r.dests, g.link < 8 ∧ g.slot < 38) (j : Fin 4) :
    ((referralResponse (some r))[16 + 2 * j.val]).toNat
        = ((r.dests[j.val]?).map Group.link).getD 0
      ∧ ((referralResponse (some r))[17 + 2 * j.val]).toNat
        = ((r.dests[j.val]?).map Group.slot).getD 0 := by
  have hlink : ∀ j, (octet (fieldAt (r.dests.map Group.link) j)).toNat
      = fieldAt (r.dests.map Group.link) j := fun j =>
    toNat_octet_of_lt (Nat.lt_trans (fieldAt_lt (l := r.dests) (by decide : 0 < 8)
      (fun g hg => (h g hg).1) j) (by decide))
  have hslot : ∀ j, (octet (fieldAt (r.dests.map Group.slot) j)).toNat
      = fieldAt (r.dests.map Group.slot) j := fun j =>
    toNat_octet_of_lt (Nat.lt_trans (fieldAt_lt (l := r.dests) (by decide : 0 < 38)
      (fun g hg => (h g hg).2) j) (by decide))
  rw [← fieldAt_map, ← fieldAt_map]
  match j with
  | 0 => exact ⟨hlink 0, hslot 0⟩
  | 1 => exact ⟨hlink 1, hslot 1⟩
  | 2 => exact ⟨hlink 2, hslot 2⟩
  | 3 => exact ⟨hlink 3, hslot 3⟩

end referral

theorem toNat_indexOctet (i : RecNo) : (indexOctet i).toNat = i.val :=
  toNat_octet_of_lt (Nat.lt_trans i.isLt (by decide))

/-- Settles O21, one kind of answer after another, octet by octet. -/
theorem responseOctetsStandInTheirPlaces : Obligations.ResponseOctetsStandInTheirPlaces := by
  unfold Obligations.ResponseOctetsStandInTheirPlaces
  refine ⟨State.readRegister_response, fun fields i => ?_, fun r st hst => ?_,
    fun i r w hw hwidth hdests hd hsrc hch => ?_, fun i => ?_,
    fun r w hw hwidth hl hs hdests hd => ?_, fun i gen st time w hw => ?_⟩
  · exact (getElem_respond fields i i.isLt).trans (by rw [lookup_eq_find])
  · obtain ⟨href, hstate, hlease, hlt⟩ := r.presence
    refine ⟨href, hstate, hlease, hlt, rfl, rfl, ?_, rfl, fun i hi => ?_⟩
    · have hcode : r.stateCode = st := by
        rcases hst with h | ⟨h, h0⟩
        · rw [Reply.stateCode, h]
          rfl
        · rw [Reply.stateCode, h, h0]
          rfl
      have hlt : r.stateCode < 256 := by
        rw [Reply.stateCode]
        cases r.state with
        | none => decide
        | some q => exact Nat.lt_trans q.code_lt (by decide)
      exact (toNat_octet_of_lt hlt).trans hcode
    · refine getElem_respond_unnamed i.isLt fun f hf => ?_
      simp only [List.mem_cons, List.not_mem_nil, or_false] at hf
      rcases hf with rfl | rfl | rfl | rfl | rfl <;> simp only [ne_eq] <;> omega
  · subst hw
    obtain ⟨href, hstate, hlease, hstamp, hretire, hatt, hzero⟩ := queryResponse_presence i r
    obtain ⟨hcode, hbit, hcount, hnumber⟩ := queryResponse_time i r
    obtain ⟨hlink, hhost, hconst, hw⟩ := queryResponse_owner i r hwidth
    obtain ⟨hlen, hkind, hcause⟩ := queryResponse_change i r hdests
    obtain ⟨hcut, hsuper⟩ := queryResponse_cutover i r hch
    refine ⟨href, hstate, hlease, hstamp, hretire, hatt, hzero, toNat_indexOctet i, rfl, hcode,
      hbit, hcount, rfl, rfl, hnumber, hlink, hhost, hconst, hw, queryResponse_source i r hsrc,
      hlen, hkind.trans ?_, hcause.trans ?_, queryResponse_dests i r hd,
      highOctet_append_lowOctet r.tag, hcut, hsuper, (queryResponse_parameter i r hch).trans ?_⟩
    · rcases r.staged with _ | ⟨_ | _ | _ | _ | _, _, _⟩ <;> rfl
    · rcases r.staged with _ | ⟨_, _, _ | _ | _⟩ <;> rfl
    · rcases r.staged with _ | ⟨_ | _ | _ | (_ | _) | _, _, _⟩ <;> rfl
  · exact getElem_respond_unnamed i.isLt (by simp)
  · subst hw
    obtain ⟨hwid, hcut, hzero⟩ := referralResponse_width r hwidth
    refine ⟨rfl, toNat_indexOctet _, rfl, fun i hi h8 => ?_, rfl, rfl, rfl,
      toNat_octet_of_lt (by omega), toNat_octet_of_lt (by omega), hwid, hcut, hzero,
      toNat_octet_of_lt (by omega), referralResponse_dests r hd⟩
    refine getElem_respond_unnamed i.isLt fun f hf => ?_
    simp only [List.mem_cons, List.not_mem_nil, or_false] at hf
    rcases hf with rfl | rfl | rfl | rfl | rfl | rfl | rfl | rfl | rfl | rfl | rfl | rfl | rfl | rfl
      | rfl | rfl | rfl | rfl <;> simp only [ne_eq] <;> omega
  · subst hw
    obtain ⟨hcode, hzero, hcount⟩ := timeOctet_fields st time.counter
    refine ⟨rfl, toNat_indexOctet i, rfl, hcode, hzero, hcount, highOctet_append_lowOctet _, rfl,
      rfl, fun j hj => ?_⟩
    refine getElem_respond_unnamed j.isLt fun f hf => ?_
    simp only [timeFields, List.cons_append, List.nil_append, List.mem_cons, List.not_mem_nil,
      or_false] at hf
    rcases hf with rfl | rfl | rfl | rfl | rfl | rfl <;> simp only [ne_eq] <;> omega
end Sys2Proof.Machine
end

-- ==== Proofs: what no command touches ====
section
/-! SUPPORT. The commands that wait and the levels that the outside drives on LIN and FRM stand as
they were through every operation of the part, and every command completes (R24, R101, R181). -/

namespace Sys2Proof.Machine

-- The proofs are elaborated one after another: many at once take the text past its memory limit.
set_option Elab.async false

variable (s : State) (i : RecNo) (k : LinkNo)

/-- The commands that wait, and the levels that the outside drives on LIN and FRM. -/
def State.outside (s : State) : List Instr × BitVec 8 × Bool :=
  (s.pending, s.pins.lin, s.pins.frm)

/-- What each step of a fold leaves alone, the fold leaves alone. -/
theorem outside_foldl {α : Type} {f : State → α → State} (h : ∀ u a, (f u a).outside = u.outside)
    (l : List α) : (l.foldl f s).outside = s.outside :=
  foldl_keeps (P := fun u => u.outside = s.outside) (fun u a hu => (h u a).trans hu) l s rfl

/-! ## The operations on one part of the state -/

@[simp] theorem outside_raise (c : Nat) : (s.raise c).outside = s.outside := rfl
@[simp] theorem outside_setRecord (r : Record) : (s.setRecord i r).outside = s.outside := rfl
@[simp] theorem outside_setCircuitState (st : CircuitState) :
    (s.setCircuitState i st).outside = s.outside := rfl
@[simp] theorem outside_setLink (l : Link) : (s.setLink k l).outside = s.outside := rfl
@[simp] theorem outside_setReferral (r : Option Referral) :
    (s.setReferral k r).outside = s.outside := rfl
@[simp] theorem outside_setQueue (q : List QueueEntry) : (s.setQueue q).outside = s.outside := rfl
@[simp] theorem outside_claim (picks : Plane → Nat → Nat → Bool) :
    (s.claim i picks).outside = s.outside := rfl
@[simp] theorem outside_rephase (picks : Plane → Nat → Nat → Bool) (o : Phase) (n : PosEntry) :
    (s.rephase i picks o n).outside = s.outside := rfl
@[simp] theorem outside_withdrawClaims : (s.withdrawClaims i).outside = s.outside := rfl
@[simp] theorem outside_programGroup (g : Group) (w : Nat) (src : Option Source) :
    (s.programGroup g w src).outside = s.outside := rfl
@[simp] theorem outside_clearGroup (g : Group) (w : Nat) :
    (s.clearGroup g w).outside = s.outside := rfl
@[simp] theorem outside_stage (ch : Change) (cu : Cutover) (ca : Cause) :
    (s.stage i ch cu ca).outside = s.outside := rfl
@[simp] theorem outside_removeEntry : (s.removeEntry i).outside = s.outside := rfl
@[simp] theorem outside_rewriteEntry : (s.rewriteEntry i).outside = s.outside := rfl

@[simp] theorem outside_setAttention : (s.setAttention i).outside = s.outside := by
  rw [State.setAttention_eq]
  rfl

@[simp] theorem outside_clearAttention : (s.clearAttention i).outside = s.outside := by
  rw [State.clearAttention_eq]
  rfl

@[simp] theorem outside_attend (who : Requester) : (s.attend who i).outside = s.outside := by
  rw [State.attend_eq]
  rfl

@[simp] theorem outside_freeRecord : (s.freeRecord i).outside = s.outside := by
  rw [State.freeRecord_eq]
  rfl

@[simp] theorem outside_retireRecord (c : RetireCause) :
    (s.retireRecord i c).outside = s.outside := by
  rw [State.retireRecord_eq]
  rfl

@[simp] theorem outside_notifyOwner (o : Option Owner) (n : Notice) (g : Byte) :
    (s.notifyOwner o n i g).outside = s.outside := by
  rw [State.notifyOwner_eq]
  rfl

@[simp] theorem outside_answerLine (r : Reply) : (s.answerLine k r).outside = s.outside := by
  rw [State.answerLine_eq]
  rfl

@[simp] theorem outside_serveWaiting (n : Nat) : (s.serveWaiting n).outside = s.outside :=
  State.serveWaiting_keeps (P := fun u => u.outside = s.outside) (fun _ _ hu _ _ => hu) n s rfl

/-! ## Circuit requests -/

@[simp] theorem outside_allocate (o : Owner) (f : OpenFields) (st : CircuitState) :
    (s.allocate i o f st).outside = s.outside := by simp [State.allocate]

@[simp] theorem outside_acceptOpen (who : Requester) (f : OpenFields) :
    (s.acceptOpen i who f).outside = s.outside := by simp [State.acceptOpen]

@[simp] theorem outside_acceptAdd (who : Requester) (g : Group) (c : Cutover) :
    (s.acceptAdd i who g c).outside = s.outside := by simp [State.acceptAdd]

@[simp] theorem outside_acceptDrop (who : Requester) (g : Group) (c : Cutover) :
    (s.acceptDrop i who g c).outside = s.outside := by simp [State.acceptDrop]

@[simp] theorem outside_acceptMove (src : Source) (c : Cutover) :
    (s.acceptMove i src c).outside = s.outside := rfl

@[simp] theorem outside_releaseActive (who : Requester) (c : Cutover) :
    (s.releaseActive i who c).outside = s.outside := by simp [State.releaseActive]

@[simp] theorem outside_withdrawn (b : Bool) (st : CircuitState) :
    (s.withdrawn i b st).outside = s.outside := by
  rw [State.withdrawn_eq]
  rfl

@[simp] theorem outside_hostEndsOpening : (s.hostEndsOpening i).outside = s.outside := by
  simp [State.hostEndsOpening_eq, State.freeOpening]

@[simp] theorem outside_lineEndsOpening : (s.lineEndsOpening i).outside = s.outside := by
  simp [State.lineEndsOpening_eq, State.retireOpening]

@[simp] theorem outside_cancelChange : (s.cancelChange i).outside = s.outside := by
  rw [State.cancelChange_eq, State.cancelled, State.tellCancelled_writes, outside_serveWaiting]
  rfl

@[simp] theorem outside_acceptRenew (v : Byte) : (s.acceptRenew i v).outside = s.outside := rfl

@[simp] theorem outside_acceptAdopt : (s.acceptAdopt i).outside = s.outside := by
  simp [State.acceptAdopt]

theorem outside_acceptRelease (who : Requester) (c : Cutover) :
    (s.acceptRelease i who c).2.outside = s.outside := by
  unfold State.acceptRelease
  split
  · cases who <;> simp
  · simp

theorem outside_acceptCancel : (s.acceptCancel i).outside = s.outside := by
  unfold State.acceptCancel
  split <;> simp

/-- A request with a reference touches what its acceptance touches. -/
theorem outside_decideOn {x g : Byte} {format : Option OutcomeCode}
    {checks : Record → List (Option OutcomeCode)} {accept : RecNo → Option RecNo × State}
    (h : ∀ i, (accept i).2.outside = s.outside) :
    (s.decideOn x g format checks accept).after.outside = s.outside := by
  rcases s.decideOn_cases x g format checks accept with ⟨e, -⟩ | ⟨i, -, -, -, e⟩
  · exact congrArg State.outside e
  · rw [e]
    exact h i

theorem outside_takeOpen (who : Requester) (f : OpenFields) :
    (s.takeOpen who f).after.outside = s.outside := by
  rcases s.takeOpen_cases who f with ⟨e, -⟩ | ⟨i, -, -, e⟩
  · exact congrArg State.outside e
  · rw [e]
    exact outside_acceptOpen s i who f

theorem outside_takeAdd (who : Requester) (x gen : Byte) (g : Group) (c : Option Cutover) :
    (s.takeAdd who x gen g c).after.outside = s.outside :=
  outside_decideOn s fun i => outside_acceptAdd s i who g _

theorem outside_takeDrop (who : Requester) (x gen : Byte) (g : Group) (c : Option Cutover) :
    (s.takeDrop who x gen g c).after.outside = s.outside :=
  outside_decideOn s fun i => outside_acceptDrop s i who g _

theorem outside_takeRelease (who : Requester) (x gen : Byte) (c : Option Cutover) :
    (s.takeRelease who x gen c).after.outside = s.outside :=
  outside_decideOn s fun i => outside_acceptRelease s i who _

theorem outside_takeRenew (who : Requester) (x gen v : Byte) :
    (s.takeRenew who x gen v).after.outside = s.outside :=
  outside_decideOn s fun i => outside_acceptRenew s i v

theorem outside_takeBar (n : PosEntry) (p l q : Byte) :
    (s.takeBar n p l q).2.outside = s.outside := by
  obtain ⟨o, m, e, hm, -⟩ := s.takeBar_cases n p l q
  rw [e, hm]
  rfl

theorem outside_takeQuery (x v : Byte) : (s.takeQuery x v).2.outside = s.outside := by
  unfold State.takeQuery
  split
  · rfl
  · dsimp only
    split_ifs <;> simp

/-! ## Referrals and links -/

@[simp] theorem outside_enterReferral (tag : Byte) (f : OpenFields) :
    (s.enterReferral k i tag f).outside = s.outside := by
  rw [State.enterReferral_writes]
  rfl

@[simp] theorem outside_approveReferral (r : Referral) :
    (s.approveReferral k r).outside = s.outside := by simp [State.approveReferral]

@[simp] theorem outside_denyReferral (r : Referral) :
    (s.denyReferral k r).outside = s.outside := by simp [State.denyReferral]

theorem outside_takeDecide (l v : Byte) : (s.takeDecide l v).2.outside = s.outside := by
  unfold State.takeDecide
  split
  · split
    · rfl
    · dsimp only
      split <;> simp
  · split
    · rfl
    · simp
  · rfl

theorem outside_timeOut (t : Timeout) : (s.timeOut t).outside = s.outside := by
  unfold State.timeOut
  split
  · split <;> simp
  · rfl

@[simp] theorem outside_takeTimeout : (s.takeTimeout k).outside = s.outside := by
  unfold State.takeTimeout
  split
  · rfl
  · exact outside_timeOut _ _

@[simp] theorem outside_takeTimeouts : s.takeTimeouts.outside = s.outside :=
  outside_foldl _ outside_timeOut _

theorem outside_countReferral : (s.countReferral k).outside = s.outside := by
  unfold State.countReferral
  split
  · rfl
  · dsimp only
    split_ifs <;> rfl

@[simp] theorem outside_clearSession : (s.clearSession k).outside = s.outside := by
  unfold State.clearSession State.endReferral
  split <;> simp

@[simp] theorem outside_disableLink : (s.disableLink k).outside = s.outside := by
  unfold State.disableLink
  split <;> simp

@[simp] theorem outside_enableLink : (s.enableLink k).outside = s.outside := by
  unfold State.enableLink
  split <;> simp

theorem outside_resetLink : (s.resetLink k).outside = s.outside := by
  unfold State.resetLink
  split <;> simp

theorem outside_absentArrival (valid : Bool) : (s.absentArrival k valid).outside = s.outside := by
  unfold State.absentArrival
  dsimp only
  split
  · rfl
  · rfl
  · split_ifs <;> rfl

theorem outside_sessionArrival (valid : Bool) (chan hs : Byte) :
    (s.sessionArrival k valid chan hs).outside = s.outside := by
  unfold State.sessionArrival State.loseSession
  dsimp only
  split_ifs <;> simp

@[simp] theorem outside_arrival (chan hs : Byte) : (s.arrival k chan hs).outside = s.outside := by
  unfold State.arrival
  split
  · rfl
  · rw [outside_setLink]
    split
    · rfl
    · exact outside_absentArrival _ _ _
    · exact outside_sessionArrival _ _ _ _ _
    · exact outside_sessionArrival _ _ _ _ _

/-! ## Line requests -/

theorem outside_finishLine {x : Taken} (h : x.after.outside = s.outside) :
    (x.finishLine k).outside = s.outside := (outside_answerLine _ k _).trans h

theorem outside_takeLineOpen (tag : Byte) (f : OpenFields) :
    (s.takeLineOpen k tag f).outside = s.outside := by
  unfold State.takeLineOpen
  split
  · split
    · exact outside_enterReferral _ _ _ _ _
    · exact outside_finishLine _ _ rfl
  · exact outside_finishLine _ _ (outside_takeOpen _ _ _)

@[simp] theorem outside_takeHanded (kind : LineRequest → Bool) :
    (s.takeHanded k kind).outside = s.outside := by
  unfold State.takeHanded
  split
  · next tag q _ =>
    split
    · cases q with
      | openCircuit => exact outside_takeLineOpen _ _ _ _
      | add => exact outside_finishLine _ _ (outside_takeAdd _ _ _ _ _ _)
      | drop => exact outside_finishLine _ _ (outside_takeDrop _ _ _ _ _ _)
      | release => exact outside_finishLine _ _ (outside_takeRelease _ _ _ _ _)
      | renew => exact outside_finishLine _ _ (outside_takeRenew _ _ _ _ _)
      | status => exact outside_finishLine _ _ (outside_decideOn _ fun _ => rfl)
    · rfl
  · rfl

/-! ## The application step and the lease tick -/

@[simp] theorem outside_programAll (ds : List Group) (w : Nat) (src : Option Source) :
    (s.programAll ds w src).outside = s.outside :=
  outside_foldl s (fun u g => outside_programGroup u g w src) ds

@[simp] theorem outside_clearAll (ds : List Group) (w : Nat) :
    (s.clearAll ds w).outside = s.outside :=
  outside_foldl s (fun u g => outside_clearGroup u g w) ds

@[simp] theorem outside_tellAltered (r : Record) (c : Cause) :
    (s.tellAltered r c i).outside = s.outside := by
  unfold State.tellAltered
  split <;> simp

theorem outside_applyDeactivate (c : Cause) : (s.applyDeactivate i c).outside = s.outside := by
  cases c <;> simp [State.applyDeactivate]

theorem outside_applyChange (f : FrameInfo) : (s.applyChange i f).outside = s.outside := by
  unfold State.applyChange
  split
  · rfl
  · split
    · simp [State.applyActivate]
    · simp [State.applyAdd]
    · simp [State.applyDrop]
    · simp [State.applyMove]
    · exact outside_applyDeactivate _ _ _

theorem outside_applyEntry (f : FrameInfo) (e : QueueEntry) :
    (s.applyEntry f e).outside = s.outside := by
  unfold State.applyEntry
  dsimp only
  split
  · exact outside_applyChange _ _ _
  · exact outside_applyChange _ _ _

@[simp] theorem outside_takeApplication : s.takeApplication.outside = s.outside := by
  unfold State.takeApplication State.applyDue
  split
  · rw [outside_serveWaiting, outside_setQueue]
    exact outside_foldl _ (fun u e => outside_applyEntry u _ e) _
  · rfl

theorem outside_expire : (s.expire i).outside = s.outside := by
  unfold State.expire
  split
  · simp [State.expireOpening_eq]
  · simp [State.expireAltering_eq]
  · rfl

@[simp] theorem outside_takeTick : s.takeTick.outside = s.outside := by
  unfold State.takeTick State.leaseTick
  split
  · rw [outside_serveWaiting, outside_foldl _ outside_expire, outside_foldl _ outside_setAttention]
    rfl
  · rfl

/-! ## The Timing Unit -/

@[simp] theorem outside_toTimingState (st : TimingState) (n : Nat) :
    (s.toTimingState st n).outside = s.outside := rfl
@[simp] theorem outside_frameFalls (p : Nat) : (s.frameFalls p).outside = s.outside := rfl
@[simp] theorem outside_passTo (p : Nat) : (s.passTo p).outside = s.outside := rfl

@[simp] theorem outside_settle : s.settle.outside = s.outside := by simp [State.settle]

/-- Counts and settings of the Timing Unit stand apart from what the outside drives. -/
theorem outside_timing (t : Timing) : { s with timing := t }.outside = s.outside := rfl

@[simp] theorem outside_frameStart (first ended : Bool) (rx : LineOctets) :
    (s.frameStart first ended rx).outside = s.outside := by
  have hsuper : ∀ (u : State) (b : Bool), (u.handSuperframe b).outside = u.outside := fun u b => by
    unfold State.handSuperframe State.countReferrals
    split
    · exact (outside_foldl _ outside_countReferral _).trans rfl
    · rfl
  exact (hsuper _ _).trans (outside_settle s)

@[simp] theorem outside_enterAcquiring (n : Nat) : (s.enterAcquiring n).outside = s.outside := by
  have hstop : ∀ u : State, (u.stopFrames n).outside = u.outside := fun _ => rfl
  simp [State.enterAcquiring, hstop]

theorem outside_acquirePulse (p : Nat) : (s.acquirePulse p).outside = s.outside := by
  unfold State.acquirePulse
  dsimp only
  split
  · rw [outside_frameStart, outside_timing]
    rfl
  · rfl

@[simp] theorem outside_frameEnds (pulse : Bool) (rx : LineOctets) :
    (s.frameEnds pulse rx).outside = s.outside := by
  unfold State.frameEnds
  dsimp only
  split
  · rfl
  · simp
  · split <;> simp
  · split_ifs <;> simp [outside_timing]

theorem outside_pulse (p : Nat) (rx : LineOctets) : (s.pulse p rx).outside = s.outside := by
  unfold State.pulse
  split
  · rfl
  · exact outside_acquirePulse _ _
  · split <;> simp
  · split <;> simp

@[simp] theorem outside_toMaster (rx : LineOctets) : (s.toMaster rx).outside = s.outside := by
  unfold State.toMaster
  split
  · rfl
  · exact (outside_frameStart _ _ _ _).trans rfl

@[simp] theorem outside_toSlave : s.toSlave.outside = s.outside := by
  unfold State.toSlave
  split
  · rfl
  · exact (outside_timing _ _).trans (outside_enterAcquiring _ _)
  · exact outside_enterAcquiring _ _
  · exact outside_enterAcquiring _ _

/-! ## The mailbox and the register window -/

/-- A command body that touches nothing of the outside. -/
def KeepsOutside (body : State → Answer × State) : Prop := ∀ s, (body s).2.outside = s.outside

theorem keepsOutside_commandBody (code : BitVec 7) : KeepsOutside (commandBody code) := by
  unfold commandBody
  split
  · exact fun s => outside_takeOpen s _ _
  · exact fun s => outside_takeAdd s _ _ _ _ _
  · exact fun s => outside_takeDrop s _ _ _ _ _
  · exact fun s => outside_decideOn s fun i => outside_acceptMove s i _ _
  · exact fun s => outside_takeRelease s _ _ _ _
  · exact fun s => outside_takeRenew s _ _ _ _
  · exact fun s => outside_decideOn s fun i => outside_acceptCancel s i
  · exact fun s => outside_decideOn s fun i => outside_acceptAdopt s i
  · exact fun s => outside_takeQuery s _ _
  · exact fun _ => rfl
  · exact fun _ => rfl
  · exact fun s => outside_takeBar s _ _ _ _
  · exact fun s => outside_takeBar s _ _ _ _
  · exact fun _ => rfl
  · exact fun s => outside_takeDecide s _ _
  · intro s
    unfold State.hostSetSuperframe
    dsimp only
    split <;> rfl
  · exact fun _ => rfl

theorem outside_finishCommand (await : Bool) (a : Answer) :
    (s.finishCommand await a).outside = s.outside := by
  unfold State.finishCommand
  dsimp only
  split
  · split <;> rfl
  · rfl

@[simp] theorem outside_writeCommand (code : BitVec 7) (await : Bool) :
    (s.writeCommand code await).outside = s.outside := by
  unfold State.writeCommand State.takeCommand
  split
  · rfl
  · exact (outside_finishCommand _ _ _).trans (keepsOutside_commandBody code _)

@[simp] theorem outside_abandonWait : s.abandonWait.outside = s.outside := by
  unfold State.abandonWait
  split <;> rfl

theorem outside_events (e : Events) : { s with events := e }.outside = s.outside := rfl

theorem outside_controlReset : s.controlReset.outside = s.outside := by
  unfold State.controlReset
  dsimp only
  rw [outside_events, outside_foldl _ outside_resetLink]
  rfl

theorem outside_writeLinkControl (v : Byte) : (s.writeLinkControl k v).outside = s.outside := by
  have hpolicy : ∀ b, (s.writePolicy k b).outside = s.outside := fun _ => rfl
  unfold State.writeLinkControl
  dsimp only
  split
  · rw [outside_enableLink, hpolicy]
  · rw [outside_disableLink, hpolicy]

theorem outside_writeControl (v : Byte) : (s.writeControl v).outside = s.outside := by
  unfold State.writeControl
  split_ifs
  · exact outside_controlReset s
  · exact outside_abandonWait s
  · rfl

theorem outside_writeRole (v : Byte) : (s.writeRole v).outside = s.outside := by
  unfold State.writeRole
  split <;> simp

/-- A write of a setting, or one outside its range, touches that setting at most. -/
theorem outside_setting {c : Prop} [Decidable c] {t : State} (h : t.outside = s.outside) :
    (if c then s else t).outside = s.outside :=
  keeps_ite (P := fun u => u.outside = s.outside) (fun _ => rfl) fun _ => h

/-- A host write, by its address (R179; 13.6). -/
theorem outside_writeRegister (a : BitVec 7) (v : Byte) :
    (s.writeRegister a v).outside = s.outside := by
  have hite : ∀ {c : Prop} [Decidable c] {x y : State}, x.outside = s.outside →
      y.outside = s.outside → (if c then x else y).outside = s.outside :=
    fun hx hy => keeps_ite (P := fun u => u.outside = s.outside) (fun _ => hx) fun _ => hy
  unfold State.writeRegister
  dsimp only
  refine hite rfl (hite (outside_writeCommand s _ _) (hite (outside_writeControl s v) ?_))
  refine hite rfl (hite rfl (hite rfl (hite rfl (hite (outside_writeRole s v) ?_))))
  refine hite (outside_setting s rfl) (hite rfl (hite (outside_setting s rfl) ?_))
  refine hite (outside_setting s rfl) (hite (outside_setting s rfl) ?_)
  refine hite (outside_setting s rfl) (hite rfl (hite (outside_writeLinkControl s _ v) ?_))
  exact hite rfl (hite rfl rfl)

@[simp] theorem outside_readPart (part : ReadPart) : (s.readPart part).outside = s.outside := by
  have hsent : ∀ u : State, u.sendOctet.outside = u.outside := fun u => by
    unfold State.sendOctet State.sentAt State.clearCode
    split
    · split_ifs <;> rfl
    · rfl
  cases part with
  | address a => rfl
  | octet => exact hsent s
  | whole => exact hsent _

/-! ## Every command -/

theorem exec_outside (c : Instr) : ∃ t, exec c s = .next t ∧ t.outside = s.outside := by
  cases c with
  | deviceReset => exact ⟨_, rfl, rfl⟩
  | openCircuit await => exact ⟨_, rfl, outside_writeCommand s 0x01 await⟩
  | add await => exact ⟨_, rfl, outside_writeCommand s 0x02 await⟩
  | drop await => exact ⟨_, rfl, outside_writeCommand s 0x03 await⟩
  | move await => exact ⟨_, rfl, outside_writeCommand s 0x04 await⟩
  | release await => exact ⟨_, rfl, outside_writeCommand s 0x05 await⟩
  | renew await => exact ⟨_, rfl, outside_writeCommand s 0x06 await⟩
  | cancel await => exact ⟨_, rfl, outside_writeCommand s 0x07 await⟩
  | adopt await => exact ⟨_, rfl, outside_writeCommand s 0x08 await⟩
  | query await => exact ⟨_, rfl, outside_writeCommand s 0x09 await⟩
  | locate await => exact ⟨_, rfl, outside_writeCommand s 0x0A await⟩
  | nextRecord await => exact ⟨_, rfl, outside_writeCommand s 0x0B await⟩
  | bar await => exact ⟨_, rfl, outside_writeCommand s 0x0C await⟩
  | unbar await => exact ⟨_, rfl, outside_writeCommand s 0x0D await⟩
  | readReferral await => exact ⟨_, rfl, outside_writeCommand s 0x0E await⟩
  | approve await => exact ⟨_, rfl, outside_writeCommand s 0x0F await⟩
  | deny await => exact ⟨_, rfl, outside_writeCommand s 0x0F await⟩
  | setSuperframe await => exact ⟨_, rfl, outside_writeCommand s 0x10 await⟩
  | undefinedCommand code await => exact ⟨_, rfl, outside_writeCommand s code await⟩
  | commandRefused code await => exact ⟨_, rfl, outside_writeCommand s code await⟩
  | abandon => exact ⟨_, rfl, outside_abandonWait s⟩
  | cpReset => exact ⟨_, rfl, outside_controlReset s⟩
  | writeMaster rx => exact ⟨_, rfl, outside_toMaster s rx⟩
  | writeSlave => exact ⟨_, rfl, outside_toSlave s⟩
  | writeEnable0 k => exact ⟨_, rfl, outside_disableLink s k⟩
  | writeEnable1 k => exact ⟨_, rfl, outside_enableLink s k⟩
  | fillWrite k v => exact ⟨_, rfl, rfl⟩
  | eventFlagsWrite second v => exact ⟨_, rfl, rfl⟩
  | eventEnableWrite second v => exact ⟨_, rfl, rfl⟩
  | eventVectorRead part => exact ⟨_, rfl, outside_readPart s part⟩
  | lostNoticeWrite v => exact ⟨_, rfl, rfl⟩
  | registerWrite a v => exact ⟨_, rfl, outside_writeRegister s a v⟩
  | frmPulse position sfm rx =>
    exact ⟨_, rfl, keeps_ite (P := fun u => u.outside = s.outside)
      (fun _ => (outside_pulse _ _ _).trans rfl) fun _ => rfl⟩
  | frameStart pulse sfm rx => exact ⟨_, rfl, (outside_frameEnds _ _ _).trans rfl⟩
  | flywheelFrameStart sfm rx => exact ⟨_, rfl, (outside_frameEnds _ _ _).trans rfl⟩
  | holdoverLimitExceeded sfm rx => exact ⟨_, rfl, (outside_frameEnds _ _ _).trans rfl⟩
  | applyDueChanges => exact ⟨_, rfl, outside_takeApplication s⟩
  | leaseTick => exact ⟨_, rfl, outside_takeTick s⟩
  | leaseExpiry => exact ⟨_, rfl, outside_takeTick s⟩
  | referralTimeout k => exact ⟨_, rfl, outside_takeTimeout s k⟩
  | controlSlotArrival k chan hs => exact ⟨_, rfl, outside_arrival s k chan hs⟩
  | presenceLoss k chan hs => exact ⟨_, rfl, outside_arrival s k chan hs⟩
  | acknowledgeTimeout k chan hs => exact ⟨_, rfl, outside_arrival s k chan hs⟩
  | assemblyTimeout k chan hs => exact ⟨_, rfl, outside_arrival s k chan hs⟩
  | heldResultEntry k chan hs => exact ⟨_, rfl, outside_arrival s k chan hs⟩
  | lineOpen k => exact ⟨_, rfl, outside_takeHanded s k _⟩
  | lineAdd k => exact ⟨_, rfl, outside_takeHanded s k _⟩
  | lineDrop k => exact ⟨_, rfl, outside_takeHanded s k _⟩
  | lineRelease k => exact ⟨_, rfl, outside_takeHanded s k _⟩
  | lineRenew k => exact ⟨_, rfl, outside_takeHanded s k _⟩
  | status k => exact ⟨_, rfl, outside_takeHanded s k _⟩

/-- Settles O2: each row ends in a state, and its operations leave the outside alone. -/
theorem everyCommandCompletesAndKeepsTheQueue :
    Obligations.EveryCommandCompletesAndKeepsTheQueue := by
  unfold Obligations.EveryCommandCompletesAndKeepsTheQueue
  refine ⟨fun c s => ?_, fun s => ?_⟩
  · obtain ⟨t, h, ho⟩ := exec_outside s c
    simp only [State.outside, Prod.mk.injEq] at ho
    exact ⟨t, h, ho⟩
  · unfold step
    split
    · obtain ⟨t, h, -⟩ := exec_outside _ _
      exact ⟨t, h⟩
    · exact ⟨_, rfl⟩
end Sys2Proof.Machine
end

-- ==== Proofs: deferred staging, record by record ====
section
/-! SUPPORT. Deferred expiry staging takes the waiting records one after another, the lowest first, for
as long as the queue has room (R75, R116). -/

namespace Sys2Proof.Machine

-- The proofs are elaborated one after another: many at once take the text past its memory limit.
set_option Elab.async false

variable {s : State} {i : RecNo}

/-! ## One record -/

theorem State.stageExpiry_eq (s : State) (i : RecNo) : s.stageExpiry i = { s with
    manager := { s.manager with
      table := (s.stageExpiry i).manager.table
      map := (s.stageExpiry i).manager.map
      queue := s.manager.queue ++ [s.expiryEntry i] } } := rfl

theorem State.recordBecomes_stageExpiry (s : State) (i : RecNo) :
    s.RecordBecomes (s.stageExpiry i) i { s.record i with
      state := .closing, staged := some ⟨.deactivate, .nextFrame, .lease⟩ } :=
  s.record_stageExpiry i ▸ (s.stages_stageExpiry i).acts.recordBecomes

/-- The LIVE claims of a record that closes go to LEAVING (R75). -/
theorem State.mapBecomes_stageExpiry (s : State) (i : RecNo) :
    s.MapBecomes (s.stageExpiry i) fun _ _ _ e =>
      if e = .claimed i .live then .claimed i .leaving else e := fun p l q => by
  have h : (s.stageExpiry i).entry p l q
      = (s.rephase i everywhere .live (.claimed i .leaving)).entry p l q := rfl
  rw [h, s.entry_rephase i everywhere .live _ l.isLt q.isLt]
  simp [everywhere]

/-! ## One record after another -/

theorem State.serveWaiting_full (h : s.queueHasRoom = false) (n : Nat) : s.serveWaiting n = s := by
  cases n with
  | zero => rfl
  | succ n => simp [State.serveWaiting, h]

theorem State.serveWaiting_nobody (h : s.firstRecord Record.waits = none) (n : Nat) :
    s.serveWaiting n = s := by
  cases n with
  | zero => rfl
  | succ n => simp [State.serveWaiting, h]

theorem State.serveWaiting_serves (hroom : s.queueHasRoom = true)
    (hi : s.firstRecord Record.waits = some i) (n : Nat) :
    s.serveWaiting (n + 1) = (s.stageExpiry i).serveWaiting n := by
  simp [State.serveWaiting, hroom, hi]

/-- Deferred staging is made one record at a time (R75). -/
theorem State.serveWaiting_succ (s : State) (n : Nat) :
    s.serveWaiting (n + 1) = (s.serveWaiting 1).serveWaiting n := by
  cases hroom : s.queueHasRoom with
  | false => simp only [State.serveWaiting_full hroom]
  | true =>
    cases hi : s.firstRecord Record.waits with
    | none => simp only [State.serveWaiting_nobody hi]
    | some i => rw [State.serveWaiting_serves hroom hi n, State.serveWaiting_serves hroom hi 0]; rfl

/-- Settles O42: the lowest waiting record is the first that the search finds. -/
theorem deferredStagingServesTheLowestWaiter : Obligations.DeferredStagingServesTheLowestWaiter := by
  unfold Obligations.DeferredStagingServesTheLowestWaiter
  intro s
  refine ⟨⟨rfl, s.serveWaiting_succ⟩, fun hnone => ?_, fun hfull => ?_, fun i hroom hact h0 hlow => ?_⟩
  · exact State.serveWaiting_of_none fun j => Record.waits_eq_false fun hj ha => hnone j ha hj
  · exact State.serveWaiting_full (decide_eq_false (Nat.not_lt.mpr hfull)) 1
  · have hfirst : s.firstRecord Record.waits = some i :=
      State.firstRecord_eq ((Record.waits_iff _).mpr ⟨hact, h0⟩)
        fun j hj => Record.waits_eq_false fun hr ha => hlow j hj ha hr
    have hserved : s.serveWaiting 1 = s.stageExpiry i :=
      State.serveWaiting_serves (decide_eq_true hroom) hfirst 0
    exact ⟨_, hserved, s.stageExpiry_eq i, s.recordBecomes_stageExpiry i, s.mapBecomes_stageExpiry i⟩

/-! ## The records served -/

/-- The records that wait for deferred staging, in ascending order (R75, R117). -/
def State.waiters (s : State) : List RecNo :=
  (List.finRange 192).filter fun i => (s.record i).waits

theorem State.nodup_waiters (s : State) : s.waiters.Nodup := (List.nodup_finRange 192).filter _

theorem State.firstRecord_eq_head (s : State) : s.firstRecord Record.waits = s.waiters.head? :=
  List.head?_filter.symm

theorem State.waiters_stageExpiry {rest : List RecNo} (h : s.waiters = i :: rest) :
    (s.stageExpiry i).waiters = rest := by
  have hrec : ∀ j, ((s.stageExpiry i).record j).waits = (decide (j ≠ i) && (s.record j).waits) :=
    fun j => by
      rw [s.recordBecomes_stageExpiry i j]
      by_cases hj : i = j
      · simp [hj, Record.waits]
      · simp [hj, Ne.symm hj]
  have hnd := List.nodup_cons.mp (h ▸ s.nodup_waiters)
  have hrest : ∀ j ∈ rest, decide (j ≠ i) = true := fun j hj => by
    have : j ≠ i := fun e => hnd.1 (e ▸ hj)
    simpa using this
  calc (s.stageExpiry i).waiters
      = s.waiters.filter fun j => decide (j ≠ i) := by
        simp only [State.waiters, hrec, List.filter_filter]
    _ = rest := by
        rw [h, List.filter_cons_of_neg (by simp), List.filter_eq_self.mpr hrest]

/-- Where the queue has room for so many, deferred staging serves so many of those who wait, the
lowest first (R75, R116). -/
theorem State.serveWaiting_eq_foldl : ∀ (n : Nat) (s : State), s.manager.queue.length + n ≤ 24 →
    s.serveWaiting n = (s.waiters.take n).foldl (fun u i => u.stageExpiry i) s
  | 0, _, _ => rfl
  | n + 1, s, hn => by
    have hroom : s.queueHasRoom = true := decide_eq_true (by simp only [Config.queueRoom]; omega)
    have hfirst := s.firstRecord_eq_head
    cases hw : s.waiters with
    | nil => rw [State.serveWaiting_nobody (by rw [hfirst, hw]; rfl)]; rfl
    | cons i rest =>
      have hlen : (s.stageExpiry i).manager.queue.length + n ≤ 24 := by
        rw [State.stageExpiry_eq]
        simp only [List.length_append, List.length_singleton]
        omega
      rw [State.serveWaiting_serves hroom (by rw [hfirst, hw]; rfl) n,
        State.serveWaiting_eq_foldl n _ hlen, State.waiters_stageExpiry hw]
      rfl

end Sys2Proof.Machine
end

-- ==== Proofs: the application of each kind of change ====
section
/-! SUPPORT. What the application of each kind of staged change does to the position map, the egress
program, the links and the flags (R63 to R68). -/

namespace Sys2Proof.Machine

-- The proofs are elaborated one after another: many at once take the text past its memory limit.
set_option Elab.async false

variable {s t : State} {i : RecNo}

/-! ## Notices -/

/-- The flag that a notice for an owner raises: NOTICE_LOST, where it does not join a queue (R160,
R162). -/
def State.noticeFlags (s : State) (o : Option Owner) : BitVec 13 :=
  match o with
  | some (.link k) =>
    if (s.link k).hasSession = true ∧ (s.link k).outbound.length < 4 then 0
    else flagBit noticeLostEvent
  | _ => 0

theorem State.flags_notifyOwner (s : State) (o : Option Owner) (n : Notice) (i : RecNo) (g : Byte) :
    (s.notifyOwner o n i g).events.flags = s.events.flags ||| s.noticeFlags o := by
  unfold State.notifyOwner State.noticeFlags
  split
  · next k =>
    unfold State.notify Config.outboundRoom
    by_cases hs : (s.link k).hasSession = true <;>
      by_cases hr : (s.link k).outbound.length < 4 <;> simp [hs, hr, State.setLink, State.raise]
  · simp

/-- A notice reaches its link whatever the flags are. -/
theorem State.links_notifyOwner_congr (hl : t.links = s.links) (o : Option Owner) (n : Notice)
    (i : RecNo) (g : Byte) : (t.notifyOwner o n i g).links = (s.notifyOwner o n i g).links := by
  unfold State.notifyOwner
  split
  · next k =>
    have hk : t.link k = s.link k := State.link_congr hl k
    simp only [State.notify, hk, State.setLink, State.raise, hl]
    split
    · split <;> rfl
    · rfl
  · exact hl

theorem State.noticeFlags_congr (hl : t.links = s.links) (o : Option Owner) :
    t.noticeFlags o = s.noticeFlags o := by
  simp only [State.noticeFlags, State.link_congr hl]

/-- An alteration of cause HOST is told to a line owner, and no other (R68). -/
theorem State.links_tellAltered (hl : t.links = s.links) (r : Record) (c : Cause) (i : RecNo) :
    (t.tellAltered r c i).links =
      if c = .host then (s.notifyOwner r.owner .changed i r.generation).links else s.links := by
  unfold State.tellAltered
  split
  · exact State.links_notifyOwner_congr hl _ _ _ _
  · exact hl

theorem State.links_programAll (s : State) (ds : List Group) (w : Nat) (src : Option Source) :
    (s.programAll ds w src).links = s.links := by rw [State.programAll_eq]

theorem State.map_programAll (s : State) (ds : List Group) (w : Nat) (src : Option Source) :
    (s.programAll ds w src).manager.map = s.manager.map := by rw [State.programAll_eq]

/-! ## The program of many groups -/

theorem State.programEntry_programAll_outside {w : Nat} {src : Option Source} {ds : List Group}
    {l q : Nat} (hl : l < 8) (hq : q < 38) (ha : anyOverlap w ds = false)
    (hn : ∀ g ∈ ds, inGroup g w l q = false) :
    (s.programAll ds w src).programEntry l q = s.programEntry l q := by
  have hnone : (ds.find? fun g => inGroup g w l q) = none :=
    List.find?_eq_none.mpr fun g hg => by simp [hn g hg]
  rw [State.programEntry_programAll src hl hq ds s ha, hnone]

theorem State.programEntry_programAll_inside {w : Nat} {src : Option Source} {ds : List Group}
    {l q : Nat} (hl : l < 8) (hq : q < 38) (ha : anyOverlap w ds = false) {g : Group} (hg : g ∈ ds)
    (hin : inGroup g w l q = true) :
    (s.programAll ds w src).programEntry l q = sourceEntry src (q - g.slot) := by
  rw [State.programEntry_programAll src hl hq ds s ha]
  cases hf : ds.find? fun g => inGroup g w l q with
  | none => exact absurd hin (by simpa using List.find?_eq_none.mp hf g hg)
  | some d =>
    have hd := List.find?_some hf
    rw [Group.eq_of_inGroup ha (List.mem_of_find?_eq_some hf) hg hd hin]

/-! ## ACTIVATE, ADD, DROP and MOVE -/

section
variable {f : FrameInfo} {c : Cutover} {ca : Cause} {g : Group} {src : Source}

theorem State.applyChange_activate (h : (s.record i).staged = some ⟨.activate, c, ca⟩) :
    s.applyChange i f = s.applyActivate i f := by rw [State.applyChange, h]

theorem State.applyChange_add (h : (s.record i).staged = some ⟨.add g, c, ca⟩) :
    s.applyChange i f = s.applyAdd i g ca := by rw [State.applyChange, h]

theorem State.applyChange_drop (h : (s.record i).staged = some ⟨.drop g, c, ca⟩) :
    s.applyChange i f = s.applyDrop i g ca := by rw [State.applyChange, h]

theorem State.applyChange_move (h : (s.record i).staged = some ⟨.move src, c, ca⟩) :
    s.applyChange i f = s.applyMove i src ca := by rw [State.applyChange, h]

theorem State.applyChange_deactivate (h : (s.record i).staged = some ⟨.deactivate, c, ca⟩) :
    s.applyChange i f = s.applyDeactivate i ca := by rw [State.applyChange, h]

end

theorem State.mapBecomes_applyActivate (s : State) (i : RecNo) (f : FrameInfo) :
    s.MapBecomes (s.applyActivate i f) fun _ _ _ e =>
      if e = .claimed i .joining then .claimed i .live else e := fun p l q => by
  rw [State.entry_congr (s := s.rephase i everywhere .joining (.claimed i .live))
    (by simp [State.applyActivate, State.map_programAll]),
    s.entry_rephase i everywhere .joining _ l.isLt q.isLt]
  simp [everywhere]

theorem State.mapBecomes_applyAdd (s : State) (i : RecNo) (g : Group) (c : Cause) :
    s.MapBecomes (s.applyAdd i g c) fun p l q e =>
      if e = .claimed i .joining ∧ egressGroup g (s.record i).width p l q then .claimed i .live
      else e := fun p l q => by
  rw [State.entry_congr
    (s := s.rephase i (egressGroup g (s.record i).width) .joining (.claimed i .live))
    (by rw [State.applyAdd, (State.tellAltered_eq _ i _ _).1]; rfl)]
  exact s.entry_rephase i _ .joining _ l.isLt q.isLt

theorem State.mapBecomes_applyDrop (s : State) (i : RecNo) (g : Group) (c : Cause) :
    s.MapBecomes (s.applyDrop i g c) fun p l q e =>
      if e = .claimed i .leaving ∧ egressGroup g (s.record i).width p l q then .openPos
      else e := fun p l q => by
  rw [State.entry_congr (s := s.rephase i (egressGroup g (s.record i).width) .leaving .openPos)
    (by rw [State.applyDrop, (State.tellAltered_eq _ i _ _).1]; rfl)]
  exact s.entry_rephase i _ .leaving _ l.isLt q.isLt

/-- The positions of the old source alone are given up, those of the new source alone taken up (R66).
-/
theorem State.mapBecomes_applyMove (s : State) (i : RecNo) (src : Source) (c : Cause) :
    s.MapBecomes (s.applyMove i src c) fun p l q e =>
      if e = .claimed i .leaving
          ∧ sourceOutside (s.record i).source (some src) (s.record i).width p l q then .openPos
      else if e = .claimed i .joining
          ∧ sourceOutside (some src) (s.record i).source (s.record i).width p l q then
        .claimed i .live
      else e := fun p l q => by
  rw [State.entry_congr
    (s := (s.rephase i (sourceOutside (s.record i).source (some src) (s.record i).width) .leaving
      .openPos).rephase i (sourceOutside (some src) (s.record i).source (s.record i).width) .joining
      (.claimed i .live))
    (by rw [State.applyMove, (State.tellAltered_eq _ i _ _).1]; simp [State.map_programAll]),
    State.entry_rephase _ i _ .joining _ l.isLt q.isLt,
    s.entry_rephase i _ .leaving _ l.isLt q.isLt]
  by_cases hold : s.entry p l q = .claimed i .leaving
      ∧ sourceOutside (s.record i).source (some src) (s.record i).width p l q = true
  · simp [hold]
  · simp [hold]

/-- Who hears of an application (R68). -/
theorem State.links_applyActivate (s : State) (i : RecNo) (f : FrameInfo) :
    (s.applyActivate i f).links =
      (s.notifyOwner (s.record i).owner .live i (s.record i).generation).links := by
  unfold State.applyActivate
  refine State.links_notifyOwner_congr ?_ _ _ _ _
  rw [State.setRecord_links, State.links_programAll]
  rfl

theorem State.links_applyAdd (s : State) (i : RecNo) (g : Group) (c : Cause) :
    (s.applyAdd i g c).links = if c = .host then
      (s.notifyOwner (s.record i).owner .changed i (s.record i).generation).links else s.links := by
  dsimp only [State.applyAdd]
  rw [State.links_tellAltered (s := s)]
  rfl

theorem State.links_applyDrop (s : State) (i : RecNo) (g : Group) (c : Cause) :
    (s.applyDrop i g c).links = if c = .host then
      (s.notifyOwner (s.record i).owner .changed i (s.record i).generation).links else s.links := by
  dsimp only [State.applyDrop]
  rw [State.links_tellAltered (s := s)]
  rfl

theorem State.links_applyMove (s : State) (i : RecNo) (src : Source) (c : Cause) :
    (s.applyMove i src c).links = if c = .host then
      (s.notifyOwner (s.record i).owner .changed i (s.record i).generation).links else s.links := by
  unfold State.applyMove
  refine State.links_tellAltered ?_ _ _ _
  rw [State.setRecord_links, State.links_programAll]
  rfl

/-- Settles O38: record, claims and program entries, each read off the application of its kind. -/
theorem activateAndAddPutGroupsInForce : Obligations.ActivateAndAddPutGroupsInForce := by
  unfold Obligations.ActivateAndAddPutGroupsInForce
  intro s i f c cause
  refine ⟨fun hst ha => ⟨_, State.applyChange_activate hst, ?_⟩,
    fun g hst => ⟨_, State.applyChange_add hst, ?_⟩⟩
  · have hap := s.applies_applyActivate i f
    have hprog : ∀ l q, (s.applyActivate i f).programEntry l q = ((s.rephase i everywhere .joining
        (.claimed i .live)).programAll (s.record i).dests (s.record i).width
          (s.record i).source).programEntry l q := fun l q => by simp [State.applyActivate]
    refine ⟨s.record_applyActivate i f ▸ hap.acts.recordBecomes, s.mapBecomes_applyActivate i f,
      fun l q hn => ?_, fun g hg l q hin => ?_, ?_, hap.queue, hap.mailbox, hap.acts.timing⟩
    · rw [hprog, State.programEntry_programAll_outside l.isLt q.isLt ha hn]
      rfl
    · rw [hprog, State.programEntry_programAll_inside l.isLt q.isLt ha hg hin]
    · exact s.links_applyActivate i f
  · have hap := s.applies_applyAdd i g cause
    refine ⟨s.record_applyAdd i g cause ▸ hap.acts.recordBecomes, s.mapBecomes_applyAdd i g cause,
      fun l q => ?_, s.links_applyAdd i g cause, hap.queue, hap.mailbox, hap.acts.timing⟩
    rw [State.applyAdd, State.programEntry_tellAltered, State.programEntry_setRecord,
      State.programEntry_programGroup _ g _ _ l.isLt q.isLt]
    rfl

/-! ## DEACTIVATE -/

/-- The state in which a DEACTIVATE ends the record: its program entries are gone (R67). -/
def State.silenced (s : State) (i : RecNo) : State :=
  s.clearAll (s.record i).dests (s.record i).width

theorem State.silenced_eq (s : State) (i : RecNo) : s.silenced i = { s with
    manager := { s.manager with program := (s.silenced i).manager.program } } :=
  State.clearAll_eq _ _ s

theorem State.record_silenced (s : State) (i j : RecNo) : (s.silenced i).record j = s.record j :=
  State.record_clearAll s _ _ j

theorem State.countCleared_silenced (s : State) (i : RecNo) :
    (s.silenced i).countCleared i = s.countCleared i := by
  rw [State.countCleared, State.record_silenced, State.silenced_eq]
  rfl

theorem State.countSet_silenced (s : State) (i : RecNo) :
    (s.silenced i).countSet i = s.countSet i := by
  rw [State.countSet, State.record_silenced, State.silenced_eq]
  rfl

theorem State.flagsSet_silenced (s : State) (i : RecNo) :
    (s.silenced i).flagsSet i = s.flagsSet i := by
  rw [State.flagsSet, State.record_silenced, State.silenced_eq]
  rfl

/-- The record that a DEACTIVATE leaves, by its cause (R67). -/
theorem State.record_applyDeactivate_cause (s : State) (i : RecNo) (c : Cause) :
    (s.applyDeactivate i c).record i =
      if c = .host then { generation := (s.record i).generation }
      else { s.record i with
        state := .retired
        staged := none
        attention := true
        retireCause := some (if c = .owner then .lineRelease else .leaseExpired) } := by
  cases c <;> simp [State.applyDeactivate, State.record_freeRecord, State.record_retireRecord]

theorem State.map_applyDeactivate (s : State) (i : RecNo) (c : Cause) :
    (s.applyDeactivate i c).manager.map = (s.releaseClaims i).manager.map := by
  have h : ((s.silenced i).releaseClaims i).manager.map = (s.releaseClaims i).manager.map := by
    rw [State.silenced_eq]
    rfl
  cases c with
  | host =>
    show (((s.silenced i).freeRecord i).notifyOwner _ _ _ _).manager.map = _
    rw [State.manager_notifyOwner, State.freeRecord_eq]
    exact h
  | owner =>
    show ((s.silenced i).retireRecord i _).manager.map = _
    rw [State.retireRecord_eq]
    exact h
  | lease =>
    show (((s.silenced i).retireRecord i _).notifyOwner _ _ _ _).manager.map = _
    rw [State.manager_notifyOwner, State.retireRecord_eq]
    exact h

theorem State.mapBecomes_applyDeactivate (s : State) (i : RecNo) (c : Cause) :
    s.MapBecomes (s.applyDeactivate i c) fun _ _ _ e => released i e := fun p l q => by
  rw [State.entry_congr (s.map_applyDeactivate i c)]
  exact s.entry_releaseClaims i l.isLt q.isLt

theorem State.programBecomes_applyDeactivate (s : State) (i : RecNo) (c : Cause) :
    s.ProgramBecomes (s.applyDeactivate i c) fun l q e =>
      if (s.record i).dests.any fun g => inGroup g (s.record i).width l q then .noEntry
      else e := fun l q => by
  have h : (s.applyDeactivate i c).programEntry l q = (s.silenced i).programEntry l q := by
    cases c <;> simp [State.applyDeactivate, State.silenced]
  rw [h]
  exact State.programEntry_clearAll l.isLt q.isLt _ s

theorem State.attentionCount_applyDeactivate (s : State) (i : RecNo) (c : Cause) :
    (s.applyDeactivate i c).manager.attentionCount =
      if c = .host then s.countCleared i else s.countSet i := by
  cases c with
  | host =>
    show (((s.silenced i).freeRecord i).notifyOwner _ _ _ _).manager.attentionCount = _
    rw [State.manager_notifyOwner, State.freeRecord_eq]
    exact s.countCleared_silenced i
  | owner =>
    show ((s.silenced i).retireRecord i _).manager.attentionCount = _
    rw [State.retireRecord_eq]
    exact s.countSet_silenced i
  | lease =>
    show (((s.silenced i).retireRecord i _).notifyOwner _ _ _ _).manager.attentionCount = _
    rw [State.manager_notifyOwner, State.retireRecord_eq]
    exact s.countSet_silenced i

/-- A line owner hears of a release by the host and of an expired lease, not of its own release (R68).
-/
theorem State.links_applyDeactivate (s : State) (i : RecNo) (c : Cause) :
    (s.applyDeactivate i c).links = match c with
      | .host => (s.notifyOwner (s.record i).owner .retiredHost i (s.record i).generation).links
      | .owner => s.links
      | .lease =>
        (s.notifyOwner (s.record i).owner .retiredLease i (s.record i).generation).links := by
  have hs : (s.silenced i).links = s.links := by rw [State.silenced_eq]
  have hr : ∀ rc, ((s.silenced i).retireRecord i rc).links = s.links := fun rc => by
    rw [State.retireRecord_eq]
    exact hs
  cases c with
  | host => exact State.links_notifyOwner_congr ((State.links_freeRecord _ i).trans hs) _ _ _ _
  | owner => exact hr _
  | lease => exact State.links_notifyOwner_congr (hr _) _ _ _ _

theorem State.flags_or_flagsSet (s : State) (i : RecNo) :
    s.flagsSet i ||| s.events.flags = s.flagsSet i := by
  unfold State.flagsSet
  split
  · exact BitVec.or_self
  · rw [BitVec.or_assoc, BitVec.or_comm _ s.events.flags, ← BitVec.or_assoc, BitVec.or_self]

/-- The flags that a DEACTIVATE raises: ATTENTION where the record retires, NOTICE_LOST where its owner's
notice is lost (R14, R163). -/
theorem State.flags_applyDeactivate (s : State) (i : RecNo) (c : Cause) :
    (s.applyDeactivate i c).events.flags = match c with
      | .host => (s.notifyOwner (s.record i).owner .retiredHost i (s.record i).generation).events.flags
      | .owner => s.flagsSet i
      | .lease => s.flagsSet i |||
        (s.notifyOwner (s.record i).owner .retiredLease i (s.record i).generation).events.flags := by
  have hr : ∀ rc, ((s.silenced i).retireRecord i rc).events.flags = s.flagsSet i := fun rc => by
    rw [State.retireRecord_eq]
    exact s.flagsSet_silenced i
  cases c with
  | host =>
    refine congrArg Events.flags (State.notifyOwner_congr (t := (s.silenced i).freeRecord i) (s := s)
      ?_ ?_ _ _ _ _).2 <;> rw [State.freeRecord_eq, State.silenced_eq]
  | owner => exact hr _
  | lease =>
    have hl : ((s.silenced i).retireRecord i .leaseExpired).links = s.links := by
      rw [State.retireRecord_eq, State.silenced_eq]
    show (((s.silenced i).retireRecord i .leaseExpired).notifyOwner _ _ _ _).events.flags = _
    dsimp only
    rw [State.flags_notifyOwner, hr, State.noticeFlags_congr hl, State.flags_notifyOwner,
      ← BitVec.or_assoc, State.flags_or_flagsSet]

/-- Settles O39: record, claims and program entries, each read off the application of its kind. -/
theorem dropMoveAndDeactivateGiveUpPositions : Obligations.DropMoveAndDeactivateGiveUpPositions := by
  unfold Obligations.DropMoveAndDeactivateGiveUpPositions
  intro s i f c cause
  refine ⟨fun g hst => ⟨_, State.applyChange_drop hst, ?_⟩,
    fun src hst ha => ⟨_, State.applyChange_move hst, ?_⟩,
    fun hst => ⟨_, State.applyChange_deactivate hst, ?_⟩⟩
  · have hap := s.applies_applyDrop i g cause
    refine ⟨s.record_applyDrop i g cause ▸ hap.acts.recordBecomes, s.mapBecomes_applyDrop i g cause,
      fun l q => ?_, s.links_applyDrop i g cause, hap.queue, hap.mailbox, hap.acts.timing⟩
    rw [State.applyDrop, State.programEntry_tellAltered, State.programEntry_setRecord,
      State.programEntry_clearGroup _ g _ l.isLt q.isLt]
    rfl
  · have hap := s.applies_applyMove i src cause
    have hprog : ∀ l q, (s.applyMove i src cause).programEntry l q = ((s.rephase i
        (sourceOutside (s.record i).source (some src) (s.record i).width) .leaving .openPos).rephase i
        (sourceOutside (some src) (s.record i).source (s.record i).width) .joining
        (.claimed i .live) |>.programAll (s.record i).dests (s.record i).width
          (some src)).programEntry l q := fun l q => by simp [State.applyMove]
    refine ⟨s.record_applyMove i src cause ▸ hap.acts.recordBecomes,
      s.mapBecomes_applyMove i src cause, fun l q hn => ?_, fun g hg l q hin => ?_,
      s.links_applyMove i src cause, hap.queue, hap.mailbox, hap.acts.timing⟩
    · rw [hprog, State.programEntry_programAll_outside l.isLt q.isLt ha hn]
      rfl
    · rw [hprog, State.programEntry_programAll_inside l.isLt q.isLt ha hg hin]
  · have hap := s.applies_applyDeactivate i cause
    exact ⟨s.record_applyDeactivate_cause i cause ▸ hap.acts.recordBecomes,
      s.mapBecomes_applyDeactivate i cause, s.programBecomes_applyDeactivate i cause,
      s.attentionCount_applyDeactivate i cause, s.links_applyDeactivate i cause,
      s.flags_applyDeactivate i cause, hap.queue, hap.mailbox, hap.acts.timing⟩

end Sys2Proof.Machine
end

-- ==== Proofs: what the Circuit Manager's own steps leave alone ====
section
/-! SUPPORT. The application step, the lease tick and the referral timeouts write the circuits, the
mailbox, the referral records, the messages of the links and the flags that they raise (R62, R112,
R171); every other item of the part stands. -/

namespace Sys2Proof.Machine

-- The proofs are elaborated one after another: many at once take the text past its memory limit.
set_option Elab.async false

variable {s t u : State} {i : RecNo}

/-! ## The relation -/

/-- What the Circuit Manager's own steps leave of the part: the items that they write, blanked out. -/
def State.aside (s : State) : State := { s with
  manager := { s.manager with
    table := Manager.reset.table
    map := Manager.reset.map
    queue := []
    program := Manager.reset.program
    attentionCount := 0 }
  links := State.reset.links
  referrals := { s.referrals with records := State.reset.referrals.records }
  mailbox := Mailbox.reset
  events := { s.events with flags := 0 } }

/-- A channel has been handed messages, or its request has been answered: nothing else of it has
changed, and what waited to be sent still heads its queue (R155, R160). -/
def Link.Hears (l l' : Link) : Prop :=
  ∃ ms, l' = { l with
    noticeCount := l'.noticeCount
    noticeLost := l'.noticeLost
    inProcess := l'.inProcess
    outbound := l.outbound ++ ms }

theorem Link.Hears.refl (l : Link) : l.Hears l := ⟨[], by simp⟩

theorem Link.Hears.trans {a b c : Link} (h : a.Hears b) (g : b.Hears c) : a.Hears c := by
  obtain ⟨ms, hb⟩ := h
  obtain ⟨ns, hc⟩ := g
  refine ⟨ms ++ ns, ?_⟩
  rw [hc, hb]
  simp

/-- One of the Circuit Manager's own steps, or a part of one. -/
structure State.WorksTo (s t : State) : Prop where
  aside : t.aside = s.aside
  raised : ∀ n, s.events.flags.getLsbD n = true → t.events.flags.getLsbD n = true
  links : ∀ k, (s.link k).Hears (t.link k)

theorem State.WorksTo.refl (s : State) : s.WorksTo s := ⟨rfl, fun _ => id, fun _ => .refl _⟩

theorem State.WorksTo.trans (h : s.WorksTo t) (g : t.WorksTo u) : s.WorksTo u :=
  ⟨g.aside.trans h.aside, fun n hn => g.raised n (h.raised n hn), fun k => (h.links k).trans (g.links k)⟩

/-- What writes neither a link nor a flag. -/
theorem State.WorksTo.of_aside (ha : t.aside = s.aside) (hl : t.links = s.links)
    (he : t.events = s.events) : s.WorksTo t :=
  ⟨ha, fun n hn => by rw [he]; exact hn, fun k => by rw [State.link_congr hl]; exact .refl _⟩

theorem State.WorksTo.foldl {α : Type} {f : State → α → State} (h : ∀ u a, State.WorksTo u (f u a))
    (l : List α) (s : State) : s.WorksTo (l.foldl f s) :=
  foldl_keeps (P := s.WorksTo) (fun u a hu => hu.trans (h u a)) l s (.refl s)

section
variable (h : s.WorksTo t)
include h

theorem State.WorksTo.timing : t.timing = s.timing := (congrArg State.timing h.aside :)
theorem State.WorksTo.switch : t.switch = s.switch := (congrArg State.switch h.aside :)
theorem State.WorksTo.pins : t.pins = s.pins := (congrArg State.pins h.aside :)
theorem State.WorksTo.divider : t.manager.divider = s.manager.divider :=
  (congrArg (fun u => u.manager.divider) h.aside :)
theorem State.WorksTo.applicationDue : t.manager.applicationDue = s.manager.applicationDue :=
  (congrArg (fun u => u.manager.applicationDue) h.aside :)
theorem State.WorksTo.tickDue : t.manager.tickDue = s.manager.tickDue :=
  (congrArg (fun u => u.manager.tickDue) h.aside :)
theorem State.WorksTo.timeouts : t.manager.timeouts = s.manager.timeouts :=
  (congrArg (fun u => u.manager.timeouts) h.aside :)

/-- What such a step writes, in full. -/
theorem State.WorksTo.eq : t = { s with
    manager := { s.manager with
      table := t.manager.table
      map := t.manager.map
      queue := t.manager.queue
      program := t.manager.program
      attentionCount := t.manager.attentionCount }
    links := t.links
    referrals := { s.referrals with records := t.referrals.records }
    mailbox := t.mailbox
    events := { s.events with flags := t.events.flags } } := by
  have ha := h.aside
  obtain ⟨_, _, ⟨⟩, _, _, ⟨⟩, _, _, ⟨⟩, _, _⟩ := s
  obtain ⟨_, _, ⟨⟩, _, _, ⟨⟩, _, _, ⟨⟩, _, _⟩ := t
  simp only [State.aside, State.mk.injEq, Manager.mk.injEq, ReferralUnit.mk.injEq,
    Events.mk.injEq] at ha ⊢
  simp [ha]

end

/-! ## The operations -/

theorem State.worksTo_setRecord (s : State) (i : RecNo) (r : Record) : s.WorksTo (s.setRecord i r) :=
  .of_aside rfl rfl rfl

theorem State.worksTo_setQueue (s : State) (q : List QueueEntry) : s.WorksTo (s.setQueue q) :=
  .of_aside rfl rfl rfl

theorem State.worksTo_updateMap (s : State) (f : Plane → Nat → Nat → PosEntry → PosEntry) :
    s.WorksTo (s.updateMap f) := .of_aside rfl rfl rfl

theorem State.worksTo_updateProgram (s : State) (f : Nat → Nat → ProgramEntry → ProgramEntry) :
    s.WorksTo (s.updateProgram f) := .of_aside rfl rfl rfl

theorem State.worksTo_countLeases (s : State) : s.WorksTo s.countLeases := .of_aside rfl rfl rfl

theorem State.worksTo_setReferral (s : State) (k : LinkNo) (r : Option Referral) :
    s.WorksTo (s.setReferral k r) := .of_aside rfl rfl rfl

theorem State.worksTo_programAll (s : State) (ds : List Group) (w : Nat) (src : Option Source) :
    s.WorksTo (s.programAll ds w src) := .foldl (fun u _ => u.worksTo_updateProgram _) ds s

theorem State.worksTo_clearAll (s : State) (ds : List Group) (w : Nat) :
    s.WorksTo (s.clearAll ds w) := .foldl (fun u _ => u.worksTo_updateProgram _) ds s

theorem State.worksTo_setAttention (s : State) (i : RecNo) : s.WorksTo (s.setAttention i) where
  aside := by rw [State.setAttention_eq]; rfl
  raised n hn := by
    rw [State.setAttention_eq]
    dsimp only
    split
    · exact hn
    · rw [BitVec.getLsbD_or, hn, Bool.true_or]
  links k := by
    rw [State.link_congr (t := s.setAttention i) (s := s) (by rw [State.setAttention_eq])]
    exact .refl _

theorem State.worksTo_freeRecord (s : State) (i : RecNo) : s.WorksTo (s.freeRecord i) := by
  refine .of_aside ?_ ?_ ?_ <;> rw [State.freeRecord_eq]
  rfl

theorem State.worksTo_retireRecord (s : State) (i : RecNo) (c : RetireCause) :
    s.WorksTo (s.retireRecord i c) :=
  ((s.worksTo_updateMap _).trans (State.worksTo_setRecord _ i _)).trans
    (State.worksTo_setAttention _ i)

theorem Link.hears_notify (s : State) (k j : LinkNo) (n : Notice) (x g : Byte) :
    (s.link j).Hears ((s.notify k n x g).link j) := by
  rw [State.link_notify]
  split
  · next h =>
    subst h
    split
    · split
      · exact ⟨_, rfl⟩
      · exact ⟨[], by simp⟩
    · exact ⟨[], by simp⟩
  · exact .refl _

theorem State.worksTo_notifyOwner (s : State) (o : Option Owner) (n : Notice) (i : RecNo) (g : Byte) :
    s.WorksTo (s.notifyOwner o n i g) where
  aside := by rw [State.notifyOwner_eq]; rfl
  raised b hb := by rw [State.flags_notifyOwner, BitVec.getLsbD_or, hb, Bool.true_or]
  links k := by
    unfold State.notifyOwner
    split
    · exact Link.hears_notify _ _ _ _ _ _
    · exact .refl _

theorem State.worksTo_answered (s : State) (v : Vector Byte 24) (o : OutcomeCode) :
    s.WorksTo ((s.setResponse v).complete o) where
  aside := rfl
  raised n hn := by
    rw [State.complete_eq]
    exact (BitVec.getLsbD_or ..).trans (by rw [State.setResponse_events, hn, Bool.true_or])
  links _ := .refl _

theorem Link.hears_placeResult (l : Link) (m : List Byte) : l.Hears (l.placeResult m) := by
  rcases l.placeResult_cases m with ⟨-, h⟩ | ⟨-, -, h⟩ | ⟨-, -, h⟩ <;> rw [h]
  · exact ⟨[], by simp⟩
  · exact ⟨[m], rfl⟩
  · exact ⟨[], by simp⟩

theorem State.worksTo_answerLine (s : State) (k : LinkNo) (r : Reply) :
    s.WorksTo (s.answerLine k r) where
  aside := by rw [State.answerLine_eq]; rfl
  raised n hn := by rw [State.answerLine_eq]; exact hn
  links j := by
    unfold State.answerLine
    split
    · rw [State.link_setLink]
      split
      · next h => exact h ▸ Link.hears_placeResult _ _
      · exact .refl _
    · exact .refl _

/-! ## Deferred staging and the application step -/

theorem State.worksTo_stageExpiry (s : State) (i : RecNo) : s.WorksTo (s.stageExpiry i) :=
  .of_aside rfl rfl rfl

theorem State.worksTo_serveWaiting (s : State) (n : Nat) : s.WorksTo (s.serveWaiting n) :=
  State.serveWaiting_keeps (P := s.WorksTo) (fun u i hu _ _ => hu.trans (u.worksTo_stageExpiry i)) n s
    (.refl s)

theorem State.worksTo_tellAltered (s : State) (r : Record) (c : Cause) (i : RecNo) :
    s.WorksTo (s.tellAltered r c i) := by
  unfold State.tellAltered
  split
  · exact s.worksTo_notifyOwner _ _ _ _
  · exact .refl s

theorem State.worksTo_applyDeactivate (s : State) (i : RecNo) (c : Cause) :
    s.WorksTo (s.applyDeactivate i c) := by
  have h0 := s.worksTo_clearAll (s.record i).dests (s.record i).width
  cases c with
  | host => exact (h0.trans (State.worksTo_freeRecord _ i)).trans (State.worksTo_notifyOwner _ _ _ _ _)
  | owner => exact h0.trans (State.worksTo_retireRecord _ i _)
  | lease =>
    exact (h0.trans (State.worksTo_retireRecord _ i _)).trans (State.worksTo_notifyOwner _ _ _ _ _)

theorem State.worksTo_applyChange (s : State) (i : RecNo) (f : FrameInfo) :
    s.WorksTo (s.applyChange i f) := by
  unfold State.applyChange
  split
  · exact .refl s
  · split
    · exact (((s.worksTo_updateMap _).trans (State.worksTo_programAll _ _ _ _)).trans
        (State.worksTo_setRecord _ i _)).trans (State.worksTo_notifyOwner _ _ _ _ _)
    · exact (((s.worksTo_updateMap _).trans (State.worksTo_updateProgram _ _)).trans
        (State.worksTo_setRecord _ i _)).trans (State.worksTo_tellAltered _ _ _ i)
    · exact (((s.worksTo_updateMap _).trans (State.worksTo_updateProgram _ _)).trans
        (State.worksTo_setRecord _ i _)).trans (State.worksTo_tellAltered _ _ _ i)
    · exact ((((s.worksTo_updateMap _).trans (State.worksTo_updateMap _ _)).trans
        (State.worksTo_programAll _ _ _ _)).trans (State.worksTo_setRecord _ i _)).trans
        (State.worksTo_tellAltered _ _ _ i)
    · exact s.worksTo_applyDeactivate i _

theorem State.worksTo_applyEntry (s : State) (f : FrameInfo) (e : QueueEntry) :
    s.WorksTo (s.applyEntry f e) := by
  unfold State.applyEntry
  dsimp only
  split
  · exact (s.worksTo_applyChange _ f).trans (State.worksTo_answered _ _ _)
  · exact s.worksTo_applyChange _ f

theorem State.worksTo_applyDue (s : State) : s.WorksTo s.applyDue :=
  ((State.WorksTo.foldl (fun u e => u.worksTo_applyEntry _ e) _ s).trans
    (State.worksTo_setQueue _ _)).trans (State.worksTo_serveWaiting _ _)

/-! ## The lease tick and the timeouts -/

theorem State.worksTo_withdrawn (s : State) (i : RecNo) (b : Bool) (st : CircuitState) :
    s.WorksTo (s.withdrawn i b st) := by
  unfold State.withdrawn
  split
  · exact s.worksTo_answered _ _
  · exact .refl s

theorem State.worksTo_expire (s : State) (i : RecNo) : s.WorksTo (s.expire i) := by
  unfold State.expire
  split
  · rw [State.expireOpening_eq]
    exact (((s.worksTo_setQueue _).trans (State.worksTo_retireRecord _ i _)).trans
      (State.worksTo_notifyOwner _ _ _ _ _)).trans (State.worksTo_withdrawn _ i _ _)
  · rw [State.expireAltering_eq]
    exact (((((s.worksTo_updateMap _).trans (State.worksTo_updateMap _ _)).trans
      (State.worksTo_updateMap _ _)).trans (State.worksTo_setQueue _ _)).trans
      (State.worksTo_setRecord _ i _)).trans (State.worksTo_withdrawn _ i _ _)
  · exact .refl s

theorem State.worksTo_tickExpired (s : State) : s.WorksTo s.tickExpired :=
  (s.worksTo_countLeases.trans (.foldl State.worksTo_setAttention _ _)).trans
    (.foldl State.worksTo_expire _ _)

theorem State.worksTo_leaseTick (s : State) : s.WorksTo s.leaseTick :=
  s.worksTo_tickExpired.trans (State.worksTo_serveWaiting _ _)

theorem State.worksTo_timeOut (s : State) (x : Timeout) : s.WorksTo (s.timeOut x) := by
  unfold State.timeOut
  split
  · split
    · exact ((s.worksTo_freeRecord _).trans (State.worksTo_answerLine _ _ _)).trans
        (State.worksTo_setReferral _ _ _)
    · exact .refl s
  · exact .refl s

/-! ## What has been handed on is taken -/

/-- Nothing that a frame start hands on is outstanding any more. -/
def State.idled (s : State) : State := { s with
  manager := { s.manager with applicationDue := false, tickDue := false, timeouts := [] } }

/-- The same, but for the timeouts. -/
def State.settled (s : State) : State := { s with
  manager := { s.manager with applicationDue := false, tickDue := false } }

theorem State.worksTo_takeApplication (s : State) :
    State.WorksTo { s with manager := { s.manager with applicationDue := false } }
      s.takeApplication := by
  unfold State.takeApplication
  split
  · exact State.worksTo_applyDue _
  · next h =>
    obtain ⟨_, _, ⟨⟩, _⟩ := s
    simp only [Bool.not_eq_true] at h
    subst h
    exact .refl _

theorem State.worksTo_takeTick (s : State) :
    State.WorksTo { s with manager := { s.manager with tickDue := false } } s.takeTick := by
  unfold State.takeTick
  split
  · exact State.worksTo_leaseTick _
  · next h =>
    obtain ⟨_, _, ⟨⟩, _⟩ := s
    simp only [Bool.not_eq_true] at h
    subst h
    exact .refl _

/-- The work of the frame start before, taken (R62, R112). -/
theorem State.worksTo_settle (s : State) : s.settled.WorksTo s.settle := by
  have h := s.worksTo_takeApplication
  have ht : s.settled.WorksTo
      { s.takeApplication with manager := { s.takeApplication.manager with tickDue := false } } :=
    ⟨(congrArg (fun u : State => { u with manager := { u.manager with tickDue := false } }) h.aside :),
      h.raised, h.links⟩
  exact ht.trans (State.worksTo_takeTick _)

/-- All that has been handed on, taken (R61, R123, R171). -/
theorem State.worksTo_caughtUp (s : State) : s.idled.WorksTo s.settle.takeTimeouts := by
  have h := s.worksTo_settle
  have ht : s.idled.WorksTo (s.settle.setTimeouts []) :=
    ⟨(congrArg (State.setTimeouts []) h.aside :), h.raised, h.links⟩
  exact ht.trans (.foldl State.worksTo_timeOut _ _)

end Sys2Proof.Machine
end

-- ==== Proofs: the application step ====
section
/-! SUPPORT. The application step of a frame start (R62, R69): each due entry applies the change of its
own record, and what it tells the mailbox comes between no two applications. -/

namespace Sys2Proof.Machine

-- The proofs are elaborated one after another: many at once take the text past its memory limit.
set_option Elab.async false

variable {s t u : State} {i j : RecNo} {f : FrameInfo}

/-! ## Records that are changed one after another -/

/-- Steps that each change the record they name, and no record twice: each record named is changed as it
stood, and the others are kept. -/
theorem State.record_foldl {α : Type} {op : State → α → State} {ix : α → RecNo}
    {g : Record → Record}
    (h : ∀ u a j, (op u a).record j = if ix a = j then g (u.record j) else u.record j) (j : RecNo) :
    ∀ (l : List α) (s : State), (l.map ix).Nodup → (l.foldl op s).record j =
      if j ∈ l.map ix then g (s.record j) else s.record j
  | [], _, _ => rfl
  | a :: l, s, hnd => by
    rw [List.map_cons, List.nodup_cons] at hnd
    rw [List.foldl_cons, State.record_foldl h j l _ hnd.2, h]
    by_cases hj : ix a = j
    · subst hj; simp [hnd.1]
    · simp [hj, Ne.symm hj]

/-- A record after the application of its staged change (R63 to R67). -/
def Record.applied (f : FrameInfo) (r : Record) : Record :=
  match r.staged with
  | none => r
  | some ⟨.activate, _, _⟩ =>
    { r with state := .active, staged := none, stamp := some ⟨f.number, f.counter⟩ }
  | some ⟨.add g, _, _⟩ => { r with state := .active, staged := none, dests := r.dests ++ [g] }
  | some ⟨.drop g, _, _⟩ =>
    { r with state := .active, staged := none, dests := r.dests.filter fun h => h ≠ g }
  | some ⟨.move src, _, _⟩ => { r with state := .active, staged := none, source := some src }
  | some ⟨.deactivate, _, c⟩ =>
    if c = .host then { generation := r.generation }
    else { r with
      state := .retired
      staged := none
      attention := true
      retireCause := some (if c = .owner then .lineRelease else .leaseExpired) }

/-- The application of a change writes its own record, as the record itself gives (R63 to R67). -/
theorem State.record_applyChange_eq (s : State) (f : FrameInfo) (i j : RecNo) :
    (s.applyChange i f).record j = if i = j then (s.record j).applied f else s.record j := by
  rw [(s.applies_applyChange i f).acts.recordBecomes j]
  split
  · next h =>
    subst h
    unfold Record.applied
    split
    · next hst => rw [State.applyChange, hst]
    · next hst => rw [State.applyChange_activate hst, State.record_applyActivate]
    · next hst => rw [State.applyChange_add hst, State.record_applyAdd]
    · next hst => rw [State.applyChange_drop hst, State.record_applyDrop]
    · next hst => rw [State.applyChange_move hst, State.record_applyMove]
    · next hst => rw [State.applyChange_deactivate hst, State.record_applyDeactivate_cause]
  · rfl

/-- The state that an application gives, by the kind and the cause; a record that goes to ACTIVE keeps
its lease (R63 to R67). -/
theorem Record.applied_state {r : Record} {st : Staged} (hst : r.staged = some st) (f : FrameInfo) :
    (r.applied f).staged = none
      ∧ (r.applied f).state = (if st.change.kind = .deactivate then
          if st.cause = .host then .free else .retired
        else .active)
      ∧ (st.change.kind ≠ .deactivate → (r.applied f).lease = r.lease) := by
  obtain ⟨ch, cu, ca⟩ := st
  unfold Record.applied
  rw [hst]
  cases ch with
  | deactivate => cases ca <;> simp [Change.kind]
  | activate | add g | drop g | move src => simp [Change.kind]

/-! ## What is told to the mailbox -/

/-- The same part with this application due or not, this mailbox, and these flags raised. -/
def State.noted (a : Bool) (m : Mailbox) (b : BitVec 13) (s : State) : State := { s with
  manager := { s.manager with applicationDue := a }
  mailbox := m
  events := { s.events with flags := s.events.flags ||| b } }

section
variable (a : Bool) (m : Mailbox) (b : BitVec 13)

theorem flags_or_right_comm (x y : BitVec 13) : x ||| b ||| y = x ||| y ||| b := by
  rw [BitVec.or_assoc, BitVec.or_comm b, ← BitVec.or_assoc]

theorem State.raise_noted (s : State) (c : Nat) :
    (s.noted a m b).raise c = (s.raise c).noted a m b := by
  simp only [State.raise, State.noted, flags_or_right_comm b _ (flagBit c)]

theorem State.notifyOwner_noted (s : State) (o : Option Owner) (n : Notice) (i : RecNo) (g : Byte) :
    (s.noted a m b).notifyOwner o n i g = (s.notifyOwner o n i g).noted a m b := by
  unfold State.notifyOwner
  split
  · next k =>
    have hk : (s.noted a m b).link k = s.link k := rfl
    simp only [State.notify, hk]
    split
    · split
      · rfl
      · exact State.raise_noted a m b (s.setLink k _) _
    · exact State.raise_noted a m b (s.setLink k _) _
  · rfl

theorem State.setAttention_noted (s : State) (i : RecNo) :
    (s.noted a m b).setAttention i = (s.setAttention i).noted a m b := by
  have hi : (s.noted a m b).record i = s.record i := rfl
  simp only [State.setAttention, hi]
  split
  · rfl
  · simp only [State.raise, State.noted, State.setRecord, flags_or_right_comm b _ (flagBit attentionEvent)]

theorem State.freeRecord_noted (s : State) (i : RecNo) :
    (s.noted a m b).freeRecord i = (s.freeRecord i).noted a m b := by
  have hi : ((s.noted a m b).releaseClaims i).record i = (s.releaseClaims i).record i := rfl
  simp only [State.freeRecord, State.clearAttention, hi]
  split <;> rfl

theorem State.retireRecord_noted (s : State) (i : RecNo) (c : RetireCause) :
    (s.noted a m b).retireRecord i c = (s.retireRecord i c).noted a m b :=
  State.setAttention_noted a m b ((s.releaseClaims i).setRecord i _) i

theorem State.programAll_noted (ds : List Group) (w : Nat) (src : Option Source) : ∀ s : State,
    (s.noted a m b).programAll ds w src = (s.programAll ds w src).noted a m b := by
  induction ds with
  | nil => exact fun _ => rfl
  | cons g rest ih => exact fun s => ih (s.programGroup g w src)

theorem State.clearAll_noted (ds : List Group) (w : Nat) : ∀ s : State,
    (s.noted a m b).clearAll ds w = (s.clearAll ds w).noted a m b := by
  induction ds with
  | nil => exact fun _ => rfl
  | cons g rest ih => exact fun s => ih (s.clearGroup g w)

theorem State.tellAltered_noted (s : State) (r : Record) (c : Cause) (i : RecNo) :
    (s.noted a m b).tellAltered r c i = (s.tellAltered r c i).noted a m b := by
  unfold State.tellAltered
  split
  · exact State.notifyOwner_noted a m b s _ _ _ _
  · rfl

theorem State.applyDeactivate_noted (s : State) (i : RecNo) (c : Cause) :
    (s.noted a m b).applyDeactivate i c = (s.applyDeactivate i c).noted a m b := by
  have hi : (s.noted a m b).record i = s.record i := rfl
  cases c with
  | host =>
    simp only [State.applyDeactivate, hi, State.clearAll_noted, State.freeRecord_noted,
      State.notifyOwner_noted]
  | owner => simp only [State.applyDeactivate, hi, State.clearAll_noted, State.retireRecord_noted]
  | lease =>
    simp only [State.applyDeactivate, hi, State.clearAll_noted, State.retireRecord_noted,
      State.notifyOwner_noted]

/-- The application of a change does not read what has been told to the mailbox (R62). -/
theorem State.applyChange_noted (s : State) (i : RecNo) (f : FrameInfo) :
    (s.noted a m b).applyChange i f = (s.applyChange i f).noted a m b := by
  have hi : (s.noted a m b).record i = s.record i := rfl
  have hset : ∀ (u : State) (r : Record),
      (u.noted a m b).setRecord i r = (u.setRecord i r).noted a m b := fun _ _ => rfl
  have hre : ∀ (u : State) (p : Plane → Nat → Nat → Bool) (o : Phase) (n : PosEntry),
      (u.noted a m b).rephase i p o n = (u.rephase i p o n).noted a m b := fun _ _ _ _ => rfl
  have hpr : ∀ (u : State) (g : Group) (w : Nat) (src : Option Source),
      (u.noted a m b).programGroup g w src = (u.programGroup g w src).noted a m b :=
    fun _ _ _ _ => rfl
  have hcl : ∀ (u : State) (g : Group) (w : Nat),
      (u.noted a m b).clearGroup g w = (u.clearGroup g w).noted a m b := fun _ _ _ => rfl
  unfold State.applyChange
  rw [hi]
  split
  · rfl
  · split
    · simp only [State.applyActivate, hi, hre, State.programAll_noted, hset, State.notifyOwner_noted]
    · simp only [State.applyAdd, hi, hre, hpr, hset, State.tellAltered_noted]
    · simp only [State.applyDrop, hi, hre, hcl, hset, State.tellAltered_noted]
    · simp only [State.applyMove, hi, hre, State.programAll_noted, hset, State.tellAltered_noted]
    · exact State.applyDeactivate_noted a m b s i _

/-- The mailbox after the completion of an awaited change by its application (R69, R183). -/
def Mailbox.applied (f : FrameInfo) (i : RecNo) (r : Record) (m : Mailbox) : Mailbox := { m with
  outcome := .ok
  sequence := m.sequence + 1
  refusedWrite := false
  awaiting := false
  response := appliedResponse (indexOctet i) r.generation r.state ⟨f.number, f.counter⟩ }

theorem State.applyEntry_unawaited (s : State) {e : QueueEntry} (he : e.awaited = false) :
    (s.noted a m b).applyEntry f e = (s.applyChange e.circuit f).noted a m b := by
  simp only [State.applyEntry, he, Bool.false_eq_true, if_false, State.applyChange_noted]

theorem State.applyEntry_awaited (s : State) {e : QueueEntry} (he : e.awaited = true) :
    (s.noted a m b).applyEntry f e = (s.applyChange e.circuit f).noted a
      (m.applied f e.circuit ((s.applyChange e.circuit f).record e.circuit)) (b ||| 0x1000#13) := by
  simp only [State.applyEntry, he, if_true, State.applyChange_noted, State.complete_eq]
  simp only [State.noted, State.setResponse, ← BitVec.or_assoc]
  rfl

/-! ## Many entries -/

/-- The changes of some entries applied in the order of the queue, the mailbox left alone. -/
def State.applyAll (f : FrameInfo) (l : List QueueEntry) (s : State) : State :=
  l.foldl (fun u e => u.applyChange e.circuit f) s

theorem State.record_applyAll (s : State) {l : List QueueEntry}
    (hnd : (l.map QueueEntry.circuit).Nodup) (j : RecNo) : (s.applyAll f l).record j =
      if j ∈ l.map QueueEntry.circuit then (s.record j).applied f else s.record j :=
  State.record_foldl (fun u e j => u.record_applyChange_eq f e.circuit j) j l s hnd

theorem State.worksTo_applyAll (s : State) (f : FrameInfo) (l : List QueueEntry) :
    s.WorksTo (s.applyAll f l) := .foldl (fun u _ => u.worksTo_applyChange _ f) l s

/-- Entries that nobody awaits tell the mailbox nothing (R69). -/
theorem State.foldl_applyEntry_unawaited : ∀ (l : List QueueEntry) (s : State),
    (∀ e ∈ l, e.awaited = false) →
    l.foldl (State.applyEntry f) (s.noted a m b) = (s.applyAll f l).noted a m b
  | [], _, _ => rfl
  | e :: l, s, h => by
    rw [List.foldl_cons, State.applyEntry_unawaited a m b s (h e (by simp)),
      State.foldl_applyEntry_unawaited l _ fun x hx => h x (by simp [hx])]
    rfl

/-- Whatever is awaited, the mailbox and its flag are all that the entries write beside what applying
their changes writes (R69). -/
theorem State.foldl_applyEntry : ∀ (l : List QueueEntry) (m : Mailbox) (b : BitVec 13) (s : State),
    ∃ m' b', l.foldl (State.applyEntry f) (s.noted a m b) = (s.applyAll f l).noted a m' b'
      ∧ b' ||| 0x1000#13 = b ||| 0x1000#13
  | [], m, b, _ => ⟨m, b, rfl, rfl⟩
  | e :: l, m, b, s => by
    cases he : e.awaited with
    | false =>
      rw [List.foldl_cons, State.applyEntry_unawaited a m b s he]
      exact State.foldl_applyEntry l m b _
    | true =>
      rw [List.foldl_cons, State.applyEntry_awaited a m b s he]
      obtain ⟨m', b', hfold, hb⟩ := State.foldl_applyEntry l _ (b ||| 0x1000#13) _
      exact ⟨m', b', hfold, by rw [hb, BitVec.or_assoc, BitVec.or_self]⟩

/-- The one awaited entry completes the mailbox with its record as the step leaves it (R69). -/
theorem State.foldl_applyEntry_awaited (s : State) {l₁ l₂ : List QueueEntry} {e : QueueEntry}
    (hnd : ((l₁ ++ e :: l₂).map QueueEntry.circuit).Nodup) (he : e.awaited = true)
    (h₁ : ∀ x ∈ l₁, x.awaited = false) (h₂ : ∀ x ∈ l₂, x.awaited = false) :
    (l₁ ++ e :: l₂).foldl (State.applyEntry f) (s.noted a m b) =
      (s.applyAll f (l₁ ++ e :: l₂)).noted a
        (m.applied f e.circuit ((s.applyAll f (l₁ ++ e :: l₂)).record e.circuit))
        (b ||| 0x1000#13) := by
  have hrec : ((s.applyAll f l₁).applyChange e.circuit f).record e.circuit
      = (s.applyAll f (l₁ ++ e :: l₂)).record e.circuit := by
    have hnot : e.circuit ∉ l₁.map QueueEntry.circuit := fun hm => by
      rw [List.map_append, List.nodup_append] at hnd
      exact hnd.2.2 _ hm _ (by simp) rfl
    have hnd₁ : (l₁.map QueueEntry.circuit).Nodup := by
      rw [List.map_append, List.nodup_append] at hnd
      exact hnd.1
    rw [State.record_applyChange_eq, if_pos rfl, State.record_applyAll _ hnd₁, if_neg hnot,
      State.record_applyAll _ hnd, if_pos (by simp)]
  rw [List.foldl_append, State.foldl_applyEntry_unawaited a m b l₁ s h₁, List.foldl_cons,
    State.applyEntry_awaited a m b _ he, State.foldl_applyEntry_unawaited _ _ _ l₂ _ h₂, hrec]
  simp only [State.applyAll, List.foldl_append, List.foldl_cons]

end

/-! ## The step -/

/-- An entry made after the last frame start handed on is not due there (R59). -/
theorem State.due_of_later {e : QueueEntry} (hf : s.manager.frame.tally = s.timing.tally)
    (he : e.tally = s.timing.tally) (hc : s.Allows e.cutover) : s.due e = false := by
  unfold State.due
  cases hcu : e.cutover with
  | nextFrame => simp [hf, he]
  | nextSuperframe => simp [hf, he]
  | atSuperframe n =>
    rw [hcu] at hc
    have hn : s.timing.number ≠ n := by
      rintro rfl
      simp [State.Allows] at hc
    simp [hn]

theorem State.serveWaiting_of_nobody (h : ∀ j, (s.record j).waits = false) (n : Nat) :
    s.serveWaiting n = s := State.serveWaiting_nobody (State.firstRecord_eq_none h) n

/-- An entry of the queue names the change staged on its record (R57). -/
theorem State.QueueMatches.staged_of_mem (h : s.QueueMatches) {e : QueueEntry}
    (he : e ∈ s.manager.queue) : ∃ st, (s.record e.circuit).staged = some st
      ∧ st.change.kind = e.kind := by
  obtain ⟨hne, hone⟩ := (h e.circuit).of_entry (List.mem_filter.mpr ⟨he, by simp⟩)
  obtain ⟨st, hst⟩ := Option.ne_none_iff_exists'.mp hne
  have hk := (h e.circuit).2
  rw [hone, hst] at hk
  simp only [List.map_cons, List.map_nil, Option.map_some, Option.toList_some, List.cons.injEq,
    Prod.mk.injEq, and_true] at hk
  exact ⟨st, hst, hk.1.symm⟩

/-- Where nobody waited, nobody waits after the changes of some entries have been applied: a record that
goes to ACTIVE comes from OPENING or ALTERING (R75). -/
theorem State.applyAll_nobodyWaits (hq : s.QueueMatches) (hw : s.NobodyWaits) {l : List QueueEntry}
    (hl : l.Sublist s.manager.queue) (j : RecNo) : ((s.applyAll f l).record j).waits = false := by
  have hnd : (l.map QueueEntry.circuit).Nodup := (hl.map _).nodup hq.nodup
  refine Record.waits_eq_false fun h0 hact => ?_
  rw [State.record_applyAll _ hnd] at h0 hact
  split at h0
  · next hj =>
    rw [if_pos hj] at hact
    obtain ⟨e, he, rfl⟩ := List.mem_map.mp hj
    obtain ⟨st, hst, -⟩ := hq.staged_of_mem (hl.subset he)
    obtain ⟨-, hstate, hlease⟩ := Record.applied_state hst f
    have hk : st.change.kind ≠ .deactivate := fun hk => by
      rw [if_pos hk, hact] at hstate
      split at hstate <;> cases hstate
    have hholds := (hq e.circuit).1
    rw [hst, Option.map_some, CircuitState.holds_some] at hholds
    rw [Record.remaining, hlease hk] at h0
    rcases hw _ h0 with hr | hr <;> rw [hr] at hholds <;> simp [hk] at hholds
  · next hj =>
    rw [if_neg hj] at hact
    rcases hw j h0 with hr | hr <;> rw [hr] at hact <;> cases hact

/-- The one awaited entry of the queue, where it is due. -/
theorem awaited_split {q : List QueueEntry} {p : QueueEntry → Bool} {e : QueueEntry}
    (hone : q.countP QueueEntry.awaited = 1) (he : e ∈ q.filter p) (ha : e.awaited = true) :
    ∃ l₁ l₂, q.filter p = l₁ ++ e :: l₂ ∧ (∀ x ∈ l₁, x.awaited = false)
      ∧ ∀ x ∈ l₂, x.awaited = false := by
  obtain ⟨l₁, l₂, hl⟩ := List.append_of_mem he
  have hle := (List.filter_sublist (p := p) (l := q)).countP_le (p := QueueEntry.awaited)
  rw [hl, List.countP_append, List.countP_cons_of_pos ha, hone] at hle
  refine ⟨l₁, l₂, hl, fun x hx => ?_, fun x hx => ?_⟩
  · simpa using List.countP_eq_zero.mp (by omega : l₁.countP QueueEntry.awaited = 0) x hx
  · simpa using List.countP_eq_zero.mp (by omega : l₂.countP QueueEntry.awaited = 0) x hx

/-- Settles O37: the entries that are due apply their changes as they stand, whatever they tell the
mailbox. -/
theorem dueChangesAreAppliedAndLeaveTheQueue :
    Obligations.DueChangesAreAppliedAndLeaveTheQueue := by
  unfold Obligations.DueChangesAreAppliedAndLeaveTheQueue
  intro s u due hdue hu
  replace hu : u = s.applyAll s.manager.frame due := hu
  refine ⟨fun e => ?_, fun e => State.due_of_later, fun hn => ?_, fun happ hq => ?_⟩
  · unfold State.due
    rw [Bool.eq_iff_iff]
    cases e.cutover <;> simp [and_assoc]
  · show Host.Outcome.next s.takeApplication = _
    rw [State.takeApplication, hn]
    rfl
  have hsub : due.Sublist s.manager.queue := hdue ▸ List.filter_sublist
  have hnd : (due.map QueueEntry.circuit).Nodup := (hsub.map _).nodup hq.nodup
  have hstart : ({ s with manager := { s.manager with applicationDue := false } } : State)
      = s.noted false s.mailbox 0#13 := by
    simp only [State.noted, BitVec.or_zero]
  obtain ⟨m, b, hfold, hb⟩ :=
    State.foldl_applyEntry (f := s.manager.frame) false due s.mailbox 0#13 s
  have hwork := s.worksTo_applyAll s.manager.frame due
  have hrec := fun j => s.record_applyAll (f := s.manager.frame) hnd j
  rw [← hu] at hfold hwork hrec
  have hexec : exec .applyDueChanges s = .next (((u.noted false m b).setQueue
      (s.manager.queue.filter fun e => !s.due e)).serveWaiting due.length) := by
    show Host.Outcome.next s.takeApplication = _
    rw [State.takeApplication, happ, if_pos rfl, hstart, ← hfold, hdue]
    rfl
  refine ⟨_, hexec, fun hw => ?_, hwork.timing, hwork.switch, (congrArg State.settings hwork.aside :),
    ?_, (congrArg State.port hwork.aside :), hwork.pins, (congrArg State.pending hwork.aside :), rfl,
    rfl, ?_, fun i hi => ?_, fun e he hd => ?_, fun hnone => ?_, fun e he hd ha hone => ?_⟩
  · rw [hexec, State.serveWaiting_of_nobody fun j => ?_]
    exact hu ▸ State.applyAll_nobodyWaits hq hw hsub j
  · exact hu ▸ foldl_keeps (P := fun v => v.referrals = s.referrals)
      (fun v e hv => (v.applies_applyChange e.circuit _).acts.referrals.trans hv) due s rfl
  · show (u.events.flags ||| b) ||| 0x1000#13 = _
    rw [BitVec.or_assoc, hb, BitVec.zero_or]
  · refine (hrec i).trans (if_neg fun hm => ?_)
    obtain ⟨e, he, hei⟩ := List.mem_map.mp hm
    rw [hdue, List.mem_filter] at he
    rw [hi e (List.mem_filter.mpr ⟨he.1, decide_eq_true hei⟩)] at he
    cases he.2
  · have hm : e.circuit ∈ due.map QueueEntry.circuit :=
      List.mem_map_of_mem (hdue ▸ List.mem_filter.mpr ⟨he, hd⟩)
    obtain ⟨st, hst, hk⟩ := hq.staged_of_mem he
    obtain ⟨hnone, hstate, -⟩ := Record.applied_state hst s.manager.frame
    have hr := (hrec e.circuit).trans (if_pos hm)
    refine ⟨(congrArg Record.staged hr).trans hnone, (congrArg Record.state hr).trans ?_⟩
    rw [hstate, hk, hst]
    simp
  · have hquiet := State.foldl_applyEntry_unawaited (f := s.manager.frame) false s.mailbox 0#13 due s
      fun e he => by
        rw [hdue, List.mem_filter] at he
        exact hnone e he.1 he.2
    rw [hfold, ← hu] at hquiet
    refine ⟨(congrArg State.mailbox hquiet :), (congrArg State.events hquiet).trans ?_⟩
    simp only [State.noted, BitVec.or_zero]
  · obtain ⟨l₁, l₂, hl, h₁, h₂⟩ := awaited_split hone (List.mem_filter.mpr ⟨he, hd⟩) ha
    rw [← hdue] at hl
    have hdone := s.foldl_applyEntry_awaited (f := s.manager.frame) false s.mailbox 0#13 (hl ▸ hnd) ha
      h₁ h₂
    rw [← hl, hfold, ← hu] at hdone
    refine ⟨(congrArg State.mailbox hdone :),
      (congrArg (fun v => v.events.flags.getLsbD 12) hdone).trans ?_⟩
    simp [State.noted]

end Sys2Proof.Machine
end

-- ==== Proofs: the lease tick ====
section
/-! SUPPORT. A lease tick, step by step (R112): the counts go down, the records whose lease runs out are
marked and handled one after another, each on its own, and the waiting ones are staged. -/

namespace Sys2Proof.Machine

-- The proofs are elaborated one after another: many at once take the text past its memory limit.
set_option Elab.async false

variable {s t u : State} {i j : RecNo}

/-! ## Leases that count -/

theorem Record.counts_iff (r : Record) : r.counts = true ↔ r.leaseCounts := by
  unfold Record.counts Record.leaseCounts
  cases r.lease <;> simp [or_assoc]

theorem State.runsOut_iff (s : State) (i : RecNo) : (s.record i).runsOut = true ↔ s.RunsOut i := by
  simp only [Record.runsOut, Bool.and_eq_true, Record.counts_iff, State.RunsOut, Record.remaining]
  cases (s.record i).lease <;> simp

theorem State.mem_runningOut (s : State) (i : RecNo) : i ∈ s.runningOut ↔ s.RunsOut i := by
  rw [State.runningOut, List.mem_filter, s.runsOut_iff]
  exact and_iff_right (List.mem_finRange i)

theorem State.nodup_runningOut (s : State) : s.runningOut.Nodup := (List.nodup_finRange 192).filter _

theorem Record.countDown_of_counts {r : Record} (h : r.leaseCounts) :
    r.countDown = { r with lease := r.lease.map Lease.reduced } :=
  if_pos ((Record.counts_iff r).mpr h)

theorem Record.countDown_of_not {r : Record} (h : ¬r.leaseCounts) : r.countDown = r :=
  if_neg fun hc => h ((Record.counts_iff r).mp hc)

theorem Record.countDown_keeps (r : Record) : r.countDown.state = r.state
    ∧ r.countDown.owner = r.owner ∧ r.countDown.generation = r.generation
    ∧ r.countDown.attention = r.attention := by
  rw [Record.countDown_eq]
  exact ⟨rfl, rfl, rfl, rfl⟩

/-! ## The records that expire are marked -/

/-- The records whose lease runs out have attention, after the counts have gone down (R112). -/
def State.tickMarked (s : State) : State :=
  s.runningOut.foldl (fun s i => s.setAttention i) s.countLeases

theorem State.tickExpired_eq (s : State) :
    s.tickExpired = s.runningOut.foldl State.expire s.tickMarked := rfl

theorem State.record_tickMarked (s : State) (j : RecNo) : s.tickMarked.record j =
    if s.RunsOut j then { (s.record j).countDown with attention := true }
    else (s.record j).countDown := by
  have h := State.record_foldl (op := fun s i => State.setAttention i s) (ix := id)
    (g := fun r => { r with attention := true }) (fun u i j => u.record_setAttention i j) j
    s.runningOut s.countLeases (by simpa using s.nodup_runningOut)
  rw [State.tickMarked, h, State.record_countLeases]
  simp only [List.map_id, State.mem_runningOut]

theorem State.record_tickMarked_keeps (s : State) (j : RecNo) :
    (s.tickMarked.record j).state = (s.record j).state
      ∧ (s.tickMarked.record j).owner = (s.record j).owner
      ∧ (s.tickMarked.record j).generation = (s.record j).generation := by
  obtain ⟨hst, ho, hg, -⟩ := (s.record j).countDown_keeps
  rw [State.record_tickMarked]
  split <;> exact ⟨hst, ho, hg⟩

/-- Marking writes the table, the count and the flags alone (R14). -/
theorem State.tickMarked_keeps (s : State) : s.tickMarked.manager.map = s.manager.map
    ∧ s.tickMarked.manager.queue = s.manager.queue ∧ s.tickMarked.manager.program = s.manager.program
    ∧ s.tickMarked.links = s.links ∧ s.tickMarked.mailbox = s.mailbox
    ∧ s.tickMarked.referrals = s.referrals ∧ s.tickMarked.timing = s.timing :=
  foldl_keeps (P := fun u : State => u.manager.map = s.manager.map
      ∧ u.manager.queue = s.manager.queue ∧ u.manager.program = s.manager.program
      ∧ u.links = s.links ∧ u.mailbox = s.mailbox ∧ u.referrals = s.referrals ∧ u.timing = s.timing)
    (fun u i hu => by rw [State.setAttention_eq]; exact hu) _ _ ⟨rfl, rfl, rfl, rfl, rfl, rfl, rfl⟩

theorem State.attentionCount_foldl_setAttention : ∀ (l : List RecNo) (s : State), l.Nodup →
    (l.foldl (fun s i => State.setAttention i s) s).manager.attentionCount
      = s.manager.attentionCount + l.countP fun i => !(s.record i).attention
  | [], _, _ => rfl
  | i :: l, s, hnd => by
    rw [List.nodup_cons] at hnd
    have hrest : (l.countP fun j => !((s.setAttention i).record j).attention)
        = l.countP fun j => !(s.record j).attention := List.countP_congr fun j hj => by
      rw [State.record_setAttention, if_neg (by rintro rfl; exact hnd.1 hj)]
    rw [List.foldl_cons, State.attentionCount_foldl_setAttention l _ hnd.2, hrest, List.countP_cons,
      State.setAttention_eq]
    dsimp only
    cases (s.record i).attention with
    | false => simp only [Bool.false_eq_true, if_false, Bool.not_false, if_true]; omega
    | true => simp

theorem State.attentionCount_tickMarked (s : State) : s.tickMarked.manager.attentionCount
    = s.manager.attentionCount + (List.finRange 192).countP fun i =>
        decide (s.RunsOut i ∧ (s.record i).attention = false) := by
  rw [State.tickMarked, State.attentionCount_foldl_setAttention _ _ s.nodup_runningOut,
    State.runningOut, List.countP_filter]
  congr 1
  refine List.countP_congr fun i _ => ?_
  have hr := s.runsOut_iff i
  rw [State.record_countLeases, (s.record i).countDown_keeps.2.2.2]
  simp [hr, and_comm]

/-- Each record marked for the first time raises ATTENTION (R14). -/
theorem State.flags_tickMarked (h : s.RunsOut i) (ha : (s.record i).attention = false) :
    s.tickMarked.events.flags.getLsbD 11 = true := by
  obtain ⟨l₁, l₂, hl⟩ := List.append_of_mem ((s.mem_runningOut i).mpr h)
  have hnot : i ∉ l₁ := fun hm => by
    have hnd := hl ▸ s.nodup_runningOut
    exact (List.nodup_append.mp hnd).2.2 i hm i (by simp) rfl
  have hrec : ((l₁.foldl (fun s i => State.setAttention i s) s.countLeases).record i).attention
      = false := by
    have hkept : (l₁.foldl (fun s i => State.setAttention i s) s.countLeases).record i
        = s.countLeases.record i := by
      have hnd : (l₁.map id).Nodup := by
        simpa using (List.nodup_append.mp (hl ▸ s.nodup_runningOut)).1
      rw [State.record_foldl (ix := id) (g := fun r => { r with attention := true })
        (fun u i j => u.record_setAttention i j) i l₁ _ hnd, if_neg (by simpa using hnot)]
    rw [hkept, State.record_countLeases, (s.record i).countDown_keeps.2.2.2, ha]
  rw [State.tickMarked, hl, List.foldl_append, List.foldl_cons]
  refine (State.WorksTo.foldl (fun u i => u.worksTo_setAttention i) l₂ _).raised 11 ?_
  rw [State.setAttention_eq]
  simp [hrec, flagBit, attentionEvent]

/-! ## One record expires -/

/-- Expiry is by the state of the record (R112). -/
theorem CircuitState.expiry_cases (st : CircuitState) :
    st = .opening ∨ st = .altering ∨ (st ≠ .opening ∧ st ≠ .altering) := by cases st <;> simp

theorem State.expire_opening (h : (s.record i).state = .opening) : s.expire i = s.expireOpening i := by
  rw [State.expire, h]

theorem State.expire_altering (h : (s.record i).state = .altering) :
    s.expire i = s.expireAltering i := by rw [State.expire, h]

theorem State.expire_else (ho : (s.record i).state ≠ .opening)
    (ha : (s.record i).state ≠ .altering) : s.expire i = s := by
  unfold State.expire
  split
  · next h => exact absurd h ho
  · next h => exact absurd h ha
  · rfl

/-- A record after its expiry (R114, R115). -/
def Record.expired (r : Record) : Record :=
  match r.state with
  | .opening =>
    { r with state := .retired, staged := none, retireCause := some .leaseExpired, attention := true }
  | .altering => { r with state := .closing, staged := some ⟨.deactivate, .nextFrame, .lease⟩ }
  | _ => r

theorem Record.expired_else {r : Record} (ho : r.state ≠ .opening) (ha : r.state ≠ .altering) :
    r.expired = r := by
  unfold Record.expired
  split
  · next h => exact absurd h ho
  · next h => exact absurd h ha
  · rfl

theorem State.record_expire (s : State) (i j : RecNo) :
    (s.expire i).record j = if i = j then (s.record j).expired else s.record j := by
  rw [(s.actsOn_expire i).recordBecomes j]
  split
  · next h =>
    subst h
    rcases (s.record i).state.expiry_cases with hst | hst | ⟨ho, ha⟩
    · rw [State.expire_opening hst, State.record_expireOpening, Record.expired, hst]
    · rw [State.expire_altering hst, State.record_expireAltering, Record.expired, hst]
    · rw [State.expire_else ho ha, Record.expired_else ho ha]
  · rfl

/-- Expiry in OPENING: what is written beside the record (R73, R114). -/
theorem State.expireOpening_writes (s : State) (i : RecNo) : s.expireOpening i = { s with
    manager := { s.manager with
      table := (s.expireOpening i).manager.table
      map := (s.releaseClaims i).manager.map
      queue := s.manager.queue.filter fun e => e.circuit ≠ i
      attentionCount := s.countSet i }
    links := (s.notifyOwner (s.record i).owner .retiredLease i (s.record i).generation).links
    mailbox := if s.isAwaited i then s.mailboxWithdrawn i .retired else s.mailbox
    events := { s.events with flags := (s.expireOpening i).events.flags } } := by
  have hret := State.retireRecord_eq (s.removeEntry i) i .leaseExpired
  have hlinks : (((s.removeEntry i).retireRecord i .leaseExpired).notifyOwner (s.record i).owner
      .retiredLease i (s.record i).generation).links
      = (s.notifyOwner (s.record i).owner .retiredLease i (s.record i).generation).links :=
    State.links_notifyOwner_congr (by rw [hret]; rfl) _ _ _ _
  have hmail : (((s.removeEntry i).retireRecord i .leaseExpired).notifyOwner (s.record i).owner
      .retiredLease i (s.record i).generation).mailboxWithdrawn i .retired
      = s.mailboxWithdrawn i .retired := by
    rw [State.mailboxWithdrawn, State.mailboxWithdrawn, State.record_notifyOwner,
      State.mailbox_notifyOwner, State.mailbox_retireRecord, State.record_retireRecord, if_pos rfl]
    rfl
  rw [State.expireOpening_eq, State.withdrawn_eq, hmail, State.notifyOwner_eq, hlinks, hret]
  rfl

/-- Expiry in ALTERING: what is written beside the record and the claims (R73, R115). -/
theorem State.expireAltering_writes (s : State) (i : RecNo) : s.expireAltering i = { s with
    manager := { s.manager with
      table := (s.expireAltering i).manager.table
      map := ((s.withdrawClaims i).rephase i everywhere .live (.claimed i .leaving)).manager.map
      queue := (s.rewriteEntry i).manager.queue }
    mailbox := if s.isAwaited i then s.mailboxWithdrawn i .closing else s.mailbox
    events := { s.events with flags := (s.expireAltering i).events.flags } } := by
  rw [State.expireAltering_eq, State.withdrawn_eq]
  have hgen : ∀ v : State, v.mailbox = s.mailbox →
      (v.setRecord i { s.record i with
        state := .closing, staged := some ⟨.deactivate, .nextFrame, .lease⟩ }).mailboxWithdrawn i
          .closing = s.mailboxWithdrawn i .closing := fun v hv => by
    rw [State.mailboxWithdrawn, State.mailboxWithdrawn, State.record_setRecord, if_pos rfl,
      State.setRecord_mailbox, hv]
  rw [hgen _ (by rfl)]
  rfl

/-- The claims of a record after its expiry (R114, R115). -/
def Record.expiredClaim (r : Record) (i : RecNo) (ph : Phase) : PosEntry :=
  match r.state with
  | .opening => .openPos
  | .altering => if ph = .joining then .openPos else .claimed i .leaving
  | _ => .claimed i ph

theorem Record.expiredClaim_else {r : Record} (ho : r.state ≠ .opening) (ha : r.state ≠ .altering)
    (i : RecNo) (ph : Phase) : r.expiredClaim i ph = .claimed i ph := by
  unfold Record.expiredClaim
  split
  · next h => exact absurd h ho
  · next h => exact absurd h ha
  · rfl

/-- Every claim becomes what a function of its record and phase makes of it; no other entry changes. -/
def PosEntry.through (f : RecNo → Phase → PosEntry) (e : PosEntry) : PosEntry :=
  match e with
  | .claimed i ph => f i ph
  | e => e

theorem PosEntry.through_claimed (e : PosEntry) : e.through .claimed = e := by cases e <;> rfl

theorem State.mapBecomes_expire (s : State) (i : RecNo) : s.MapBecomes (s.expire i) fun _ _ _ e =>
    e.through fun j ph =>
      if j = i then (s.record j).expiredClaim j ph else .claimed j ph := fun p l q => by
  rcases (s.record i).state.expiry_cases with hst | hst | ⟨ho, ha⟩
  · rw [State.expire_opening hst, State.entry_congr (s := s.releaseClaims i)
      (by rw [State.expireOpening_writes]), s.entry_releaseClaims i l.isLt q.isLt]
    cases s.entry p l q with
    | claimed j ph => by_cases hj : j = i <;> simp [PosEntry.through, Record.expiredClaim, hj, hst]
    | fixed | openPos | barred => rfl
  · rw [State.expire_altering hst, State.entry_congr
      (s := (s.withdrawClaims i).rephase i everywhere .live (.claimed i .leaving))
      (by rw [State.expireAltering_writes]), State.entry_rephase _ i _ _ _ l.isLt q.isLt,
      State.withdrawClaims, State.entry_rephase _ i _ _ _ l.isLt q.isLt,
      State.entry_rephase _ i _ _ _ l.isLt q.isLt]
    cases s.entry p l q with
    | claimed j ph =>
      by_cases hj : j = i
      · subst hj
        cases ph <;> simp [PosEntry.through, Record.expiredClaim, hst, everywhere]
      · simp [PosEntry.through, hj]
    | fixed | openPos | barred => simp [PosEntry.through]
  · have hkept : (fun j ph => if j = i then (s.record j).expiredClaim j ph else .claimed j ph)
        = PosEntry.claimed := funext fun j => funext fun ph => by
      split
      · next hj => rw [hj, Record.expiredClaim_else ho ha]
      · rfl
    rw [State.expire_else ho ha, hkept]
    exact (PosEntry.through_claimed _).symm

/-- The entry of a record after its expiry: gone, rewritten, or as it was (R73). -/
def State.expiredEntry (s : State) (e : QueueEntry) : Option QueueEntry :=
  match (s.record e.circuit).state with
  | .opening => none
  | .altering => some (s.expiryEntry e.circuit)
  | _ => some e

theorem State.expiredEntry_else {e : QueueEntry} (ho : (s.record e.circuit).state ≠ .opening)
    (ha : (s.record e.circuit).state ≠ .altering) : s.expiredEntry e = some e := by
  unfold State.expiredEntry
  split
  · next h => exact absurd h ho
  · next h => exact absurd h ha
  · rfl

theorem State.queue_expire (s : State) (i : RecNo) : (s.expire i).manager.queue =
    s.manager.queue.filterMap fun e => if e.circuit = i then s.expiredEntry e else some e := by
  rcases (s.record i).state.expiry_cases with hst | hst | ⟨ho, ha⟩
  · rw [State.expire_opening hst, State.expireOpening_writes, ← List.filterMap_eq_filter]
    refine List.filterMap_congr fun e _ => ?_
    by_cases he : e.circuit = i
    · simp [he, State.expiredEntry, hst]
    · simp [he, Option.guard]
  · rw [State.expire_altering hst, State.queue_expireAltering]
    show List.map _ _ = _
    rw [← List.filterMap_eq_map]
    refine List.filterMap_congr fun e _ => ?_
    by_cases he : e.circuit = i
    · simp [he, State.expiredEntry, hst, State.expiryEntry]
    · simp [he]
  · rw [State.expire_else ho ha]
    refine List.filterMap_some.symm.trans (List.filterMap_congr fun e _ => ?_)
    split
    · next he => exact (State.expiredEntry_else (he ▸ ho) (he ▸ ha)).symm
    · rfl

end Sys2Proof.Machine
end

-- ==== Proofs: the lease tick, record after record ====
section
/-! SUPPORT. What the expiries of a lease tick, and the staging that follows them, amount to for all the
records together (R112, R116). -/

namespace Sys2Proof.Machine

-- The proofs are elaborated one after another: many at once take the text past its memory limit.
set_option Elab.async false

variable {s t u : State} {i j : RecNo}

/-! ## Claims -/

/-- Steps that each change the claims of the record they name, and no record twice. -/
theorem State.mapBecomes_foldl {op : State → RecNo → State} {η : Record → RecNo → Phase → PosEntry}
    (hmap : ∀ (u : State) (i : RecNo), u.MapBecomes (op u i) fun _ _ _ e => e.through fun j ph =>
      if j = i then η (u.record j) j ph else .claimed j ph)
    (hrec : ∀ u i j, j ≠ i → (op u i).record j = u.record j)
    (hη : ∀ r j ph, η r j ph = .openPos ∨ ∃ ph', η r j ph = .claimed j ph') :
    ∀ (l : List RecNo) (u : State), l.Nodup → u.MapBecomes (l.foldl op u) fun _ _ _ e =>
      e.through fun j ph => if j ∈ l then η (u.record j) j ph else .claimed j ph
  | [], u, _, p, lk, q => by
    rw [List.foldl_nil]
    cases u.entry p lk q <;> simp [PosEntry.through]
  | i :: l, u, hnd, p, lk, q => by
    rw [List.nodup_cons] at hnd
    rw [List.foldl_cons, State.mapBecomes_foldl hmap hrec hη l (op u i) hnd.2 p lk q, hmap u i p lk q]
    cases u.entry p lk q with
    | claimed j ph =>
      by_cases hj : j = i
      · subst hj
        rcases hη (u.record j) j ph with h | ⟨ph', h⟩ <;> simp [PosEntry.through, h, hnd.1]
      · simp [PosEntry.through, hj, hrec u i j hj]
    | fixed | openPos | barred => rfl

theorem Record.expiredClaim_cases (r : Record) (j : RecNo) (ph : Phase) :
    r.expiredClaim j ph = .openPos ∨ ∃ ph', r.expiredClaim j ph = .claimed j ph' := by
  unfold Record.expiredClaim
  split
  · exact .inl rfl
  · split
    · exact .inl rfl
    · exact .inr ⟨_, rfl⟩
  · exact .inr ⟨_, rfl⟩

/-! ## The expiries -/

theorem State.record_expire_of_ne (s : State) (h : j ≠ i) : (s.expire i).record j = s.record j :=
  (s.actsOn_expire i).records j h

theorem State.record_foldl_expire (j : RecNo) (l : List RecNo) (u : State) (hnd : l.Nodup) :
    (l.foldl State.expire u).record j = if j ∈ l then (u.record j).expired else u.record j := by
  simpa using State.record_foldl (ix := id) (fun u i j => u.record_expire i j) j l u (by simpa using hnd)

theorem State.mapBecomes_foldl_expire (l : List RecNo) (u : State) (hnd : l.Nodup) :
    u.MapBecomes (l.foldl State.expire u) fun _ _ _ e => e.through fun j ph =>
      if j ∈ l then (u.record j).expiredClaim j ph else .claimed j ph :=
  State.mapBecomes_foldl State.mapBecomes_expire (fun u _ _ h => u.record_expire_of_ne h)
    Record.expiredClaim_cases l u hnd

theorem State.expiredEntry_congr {e : QueueEntry} (hr : t.record e.circuit = s.record e.circuit)
    (ht : t.timing = s.timing) : t.expiredEntry e = s.expiredEntry e := by
  rw [State.expiredEntry, State.expiredEntry, hr, State.expiryEntry, State.expiryEntry, ht]

/-- What is left of an entry names the same record. -/
theorem State.expiredEntry_circuit {e e' : QueueEntry} (h : s.expiredEntry e = some e') :
    e'.circuit = e.circuit := by
  unfold State.expiredEntry at h
  split at h
  · cases h
  · exact Option.some.inj h ▸ rfl
  · exact Option.some.inj h ▸ rfl

theorem State.queue_foldl_expire : ∀ (l : List RecNo) (u : State), l.Nodup →
    (l.foldl State.expire u).manager.queue = u.manager.queue.filterMap fun e =>
      if e.circuit ∈ l then u.expiredEntry e else some e
  | [], u, _ => by simp
  | i :: l, u, hnd => by
    rw [List.nodup_cons] at hnd
    rw [List.foldl_cons, State.queue_foldl_expire l _ hnd.2, State.queue_expire, List.filterMap_filterMap]
    refine List.filterMap_congr fun e _ => ?_
    by_cases he : e.circuit = i
    · simp only [he, if_true, List.mem_cons, true_or]
      cases hx : u.expiredEntry e with
      | none => rfl
      | some e' =>
        rw [Option.bind_some, State.expiredEntry_circuit hx, he, if_neg hnd.1]
    · simp only [he, if_false, List.mem_cons, false_or, Option.bind_some]
      rw [State.expiredEntry_congr (u.record_expire_of_ne he) (u.actsOn_expire i).timing]

/-- Expiry counts no attention twice (R14). -/
theorem State.attentionCount_foldl_expire : ∀ (l : List RecNo) (u : State), l.Nodup →
    (∀ i ∈ l, (u.record i).attention = true) →
    (l.foldl State.expire u).manager.attentionCount = u.manager.attentionCount
  | [], _, _, _ => rfl
  | i :: l, u, hnd, hatt => by
    rw [List.nodup_cons] at hnd
    have hone : (u.expire i).manager.attentionCount = u.manager.attentionCount := by
      unfold State.expire
      split
      · rw [State.expireOpening_writes]
        simp [State.countSet, hatt i]
      · rw [State.expireAltering_writes]
      · rfl
    rw [List.foldl_cons, State.attentionCount_foldl_expire l _ hnd.2 fun j hj => ?_, hone]
    have hne : j ≠ i := by rintro rfl; exact hnd.1 hj
    rw [u.record_expire_of_ne hne]
    exact hatt j (by simp [hj])

/-- The notices of some expiries, to the owners that a table of records gives. -/
def State.expiryNotices (ρ : RecNo → Record) (l : List RecNo) (s : State) : State :=
  l.foldl (fun u i => u.notifyOwner (ρ i).owner .retiredLease i (ρ i).generation) s

theorem State.links_expiryNotices_congr (ρ : RecNo → Record) : ∀ (l : List RecNo) {s t : State},
    t.links = s.links → (t.expiryNotices ρ l).links = (s.expiryNotices ρ l).links
  | [], _, _, h => h
  | _ :: l, _, _, h =>
    State.links_expiryNotices_congr ρ l (State.links_notifyOwner_congr h _ _ _ _)

/-- The links after some expiries: notices for those in OPENING, in the same order (R112, R114). -/
theorem State.links_foldl_expire (ρ : RecNo → Record) : ∀ (l : List RecNo) (u v : State), l.Nodup →
    (∀ i ∈ l, (u.record i).state = (ρ i).state ∧ (u.record i).owner = (ρ i).owner
      ∧ (u.record i).generation = (ρ i).generation) → u.links = v.links →
    (l.foldl State.expire u).links
      = (v.expiryNotices ρ (l.filter fun i => decide ((ρ i).state = .opening))).links
  | [], _, _, _, _, h => h
  | i :: l, u, v, hnd, hρ, h => by
    rw [List.nodup_cons] at hnd
    obtain ⟨hst, ho, hg⟩ := hρ i (by simp)
    have hrest : ∀ j ∈ l, ((u.expire i).record j).state = (ρ j).state
        ∧ ((u.expire i).record j).owner = (ρ j).owner
        ∧ ((u.expire i).record j).generation = (ρ j).generation := fun j hj => by
      rw [u.record_expire_of_ne (by rintro rfl; exact hnd.1 hj)]
      exact hρ j (by simp [hj])
    by_cases hop : (ρ i).state = .opening
    · rw [List.foldl_cons, List.filter_cons_of_pos (by simpa using hop)]
      refine State.links_foldl_expire ρ l _ _ hnd.2 hrest ?_
      have hexp : u.expire i = u.expireOpening i := State.expire_opening (hst.trans hop)
      rw [hexp, State.expireOpening_writes]
      dsimp only
      rw [ho, hg]
      exact State.links_notifyOwner_congr h _ _ _ _
    · rw [List.foldl_cons, List.filter_cons_of_neg (by simpa using hop)]
      refine State.links_foldl_expire ρ l _ _ hnd.2 hrest (Eq.trans ?_ h)
      unfold State.expire
      split
      · next ho => exact absurd (hst ▸ ho) hop
      · rw [State.expireAltering_writes]
      · rfl

theorem State.program_expire (s : State) (i : RecNo) :
    (s.expire i).manager.program = s.manager.program := by
  unfold State.expire
  split
  · rw [State.expireOpening_writes]
  · rw [State.expireAltering_writes]
  · rfl

/-! ### The mailbox -/

theorem State.isAwaited_congr (h : t.entriesOf i = s.entriesOf i) : t.isAwaited i = s.isAwaited i := by
  rw [QueueEntry.isAwaited_eq, QueueEntry.isAwaited_eq, h]

theorem State.mailbox_expire (h : s.isAwaited i = false) : (s.expire i).mailbox = s.mailbox := by
  unfold State.expire
  split
  · rw [State.expireOpening_writes]
    simp [h]
  · rw [State.expireAltering_writes]
    simp [h]
  · rfl

/-- Expiry of a record whose entry is awaited (R73, R74). -/
theorem State.mailbox_expire_awaited (h : s.isAwaited i = true)
    (hst : (s.record i).state = .opening ∨ (s.record i).state = .altering) :
    (s.expire i).mailbox = s.mailboxWithdrawn i (s.record i).expired.state
      ∧ (s.expire i).events.flags.getLsbD 12 = true := by
  have hflag : ∀ (v : State) (st : CircuitState),
      (v.withdrawn i true st).events.flags.getLsbD 12 = true := fun v st => by
    rw [State.withdrawn_eq]
    simp
  rcases hst with hst | hst
  · have hexp := State.expire_opening hst
    refine ⟨?_, ?_⟩
    · rw [hexp, State.expireOpening_writes, Record.expired, hst]
      simp [h]
    · rw [hexp, State.expireOpening_eq, h]
      exact hflag _ _
  · have hexp := State.expire_altering hst
    refine ⟨?_, ?_⟩
    · rw [hexp, State.expireAltering_writes, Record.expired, hst]
      simp [h]
    · rw [hexp, State.expireAltering_eq, h]
      exact hflag _ _

theorem State.mailbox_foldl_expire : ∀ (l : List RecNo) (u : State), l.Nodup →
    (∀ i ∈ l, u.isAwaited i = false) → (l.foldl State.expire u).mailbox = u.mailbox
  | [], _, _, _ => rfl
  | i :: l, u, hnd, h => by
    rw [List.nodup_cons] at hnd
    rw [List.foldl_cons, State.mailbox_foldl_expire l _ hnd.2 fun j hj => ?_,
      State.mailbox_expire (h i (by simp))]
    have hne : j ≠ i := by rintro rfl; exact hnd.1 hj
    rw [State.isAwaited_congr ((u.actsOn_expire i).entries j hne)]
    exact h j (by simp [hj])

/-- What expiry of other records leaves of a record. -/
theorem State.foldl_expire_others : ∀ (l : List RecNo) (u : State), i ∉ l →
    (l.foldl State.expire u).record i = u.record i
      ∧ (l.foldl State.expire u).entriesOf i = u.entriesOf i
  | [], _, _ => ⟨rfl, rfl⟩
  | j :: l, u, hi => by
    rw [List.mem_cons, not_or] at hi
    obtain ⟨hr, he⟩ := State.foldl_expire_others l (u.expire j) hi.2
    exact ⟨hr.trans (u.record_expire_of_ne hi.1), he.trans ((u.actsOn_expire j).entries i hi.1)⟩

/-- The one awaited entry among those of some expiries (R74). -/
theorem State.mailbox_foldl_expire_awaited {l : List RecNo} (hnd : l.Nodup) (hi : i ∈ l)
    (hone : ∀ j ∈ l, s.isAwaited j = true ↔ j = i)
    (hst : (s.record i).state = .opening ∨ (s.record i).state = .altering) :
    (l.foldl State.expire s).mailbox = s.mailboxWithdrawn i (s.record i).expired.state
      ∧ (l.foldl State.expire s).events.flags.getLsbD 12 = true := by
  obtain ⟨l₁, l₂, rfl⟩ := List.append_of_mem hi
  obtain ⟨hnd₁, hnd₂, hne⟩ := List.nodup_append.mp hnd
  rw [List.nodup_cons] at hnd₂
  have hi₁ : i ∉ l₁ := fun h => hne i h i (by simp) rfl
  have hnot : ∀ j ∈ l₁ ++ i :: l₂, j ≠ i → s.isAwaited j = false := fun j hj hji => by
    simpa using fun h => hji ((hone j hj).mp h)
  have hbefore := State.mailbox_foldl_expire l₁ s hnd₁ fun j hj =>
    hnot j (by simp [hj]) (by rintro rfl; exact hi₁ hj)
  obtain ⟨hrec, hent⟩ := State.foldl_expire_others l₁ s hi₁
  rw [List.foldl_append, List.foldl_cons]
  obtain ⟨hmail, hflag⟩ := State.mailbox_expire_awaited (s := l₁.foldl State.expire s) (i := i)
    ((State.isAwaited_congr hent).trans ((hone i hi).mpr rfl)) (by rw [hrec]; exact hst)
  refine ⟨?_, (State.WorksTo.foldl (fun u j => u.worksTo_expire j) l₂ _).raised 12 hflag⟩
  rw [State.mailbox_foldl_expire l₂ _ hnd₂.2 fun j hj => ?_, hmail, hrec, State.mailboxWithdrawn,
    State.mailboxWithdrawn, hbefore, hrec]
  have hji : j ≠ i := by rintro rfl; exact hnd₂.1 hj
  have hj₁ : j ∉ l₁ := fun h => hne j h j (by simp [hj]) rfl
  rw [State.isAwaited_congr (((State.actsOn_expire _ i).entries j hji).trans
    (State.foldl_expire_others l₁ s hj₁).2)]
  exact hnot j (by simp [hj]) hji

/-! ## The staging pass -/

/-- The staging pass of a lease tick, record after record (R116). -/
def State.stageAll (l : List RecNo) (s : State) : State := l.foldl (fun u i => u.stageExpiry i) s

theorem State.record_stageAll (s : State) {l : List RecNo} (hnd : l.Nodup) (j : RecNo) :
    (s.stageAll l).record j = if j ∈ l then
      { s.record j with state := .closing, staged := some ⟨.deactivate, .nextFrame, .lease⟩ }
    else s.record j := by
  have h := State.record_foldl (op := fun u i => State.stageExpiry i u) (ix := id)
    (g := fun r => { r with state := .closing, staged := some ⟨.deactivate, .nextFrame, .lease⟩ })
    (fun u i j => by
      refine (u.recordBecomes_stageExpiry i j).trans ?_
      split
      · next h => exact h ▸ (if_pos rfl).symm
      · next h => exact (if_neg h).symm) j l s (by simpa using hnd)
  rwa [List.map_id] at h

theorem State.mapBecomes_stageAll (s : State) {l : List RecNo} (hnd : l.Nodup) :
    s.MapBecomes (s.stageAll l) fun _ _ _ e => e.through fun j ph =>
      if j ∈ l then .claimed j (if ph = .live then .leaving else ph) else .claimed j ph :=
  State.mapBecomes_foldl (op := fun u i => State.stageExpiry i u)
    (η := fun _ j ph => .claimed j (if ph = .live then .leaving else ph))
    (fun u i p lk q => by
      rw [u.mapBecomes_stageExpiry i p lk q]
      cases u.entry p lk q with
      | claimed j ph => by_cases hj : j = i <;> cases ph <;> simp [PosEntry.through, hj]
      | fixed | openPos | barred => simp [PosEntry.through])
    (fun u i j h => (u.recordBecomes_stageExpiry i j).trans (if_neg (Ne.symm h)))
    (fun _ _ _ => .inr ⟨_, rfl⟩) l s hnd

/-- What the staging pass writes beside the records and their claims (R116). -/
theorem State.stageAll_eq : ∀ (l : List RecNo) (s : State), s.stageAll l = { s with
    manager := { s.manager with
      table := (s.stageAll l).manager.table
      map := (s.stageAll l).manager.map
      queue := s.manager.queue ++ l.map s.expiryEntry } }
  | [], s => by simp [State.stageAll]
  | i :: l, s => by
    have hstep : s.stageAll (i :: l) = (s.stageExpiry i).stageAll l := rfl
    rw [hstep, State.stageAll_eq l (s.stageExpiry i), List.map_cons, List.append_cons]
    rfl

end Sys2Proof.Machine
end

-- ==== Proofs: what a lease tick does ====
section
/-! SUPPORT. The steps of a lease tick put together, where the records and the change queue agree
(R57, R112). -/

namespace Sys2Proof.Machine

-- The proofs are elaborated one after another: many at once take the text past its memory limit.
set_option Elab.async false

variable {s t u : State} {i j : RecNo}

/-! ## The records before the staging pass -/

theorem State.record_tickExpired (s : State) (j : RecNo) : s.tickExpired.record j =
    if s.RunsOut j then { (s.record j).countDown with attention := true : Record }.expired
    else (s.record j).countDown := by
  rw [State.tickExpired_eq, State.record_foldl_expire j _ _ s.nodup_runningOut,
    State.record_tickMarked]
  simp only [State.mem_runningOut]
  split <;> rfl

/-- A lease runs out only in OPENING, ACTIVE and ALTERING (R111). -/
theorem State.RunsOut.state (h : s.RunsOut i) : (s.record i).state = .opening
    ∨ (s.record i).state = .active ∨ (s.record i).state = .altering := h.1.1

theorem State.QueueMatches.altering_of_entry (hq : s.QueueMatches) {e : QueueEntry}
    (he : e ∈ s.manager.queue) (hr : s.RunsOut e.circuit)
    (ho : (s.record e.circuit).state ≠ .opening) : (s.record e.circuit).state = .altering := by
  have hent : e ∈ s.entriesOf e.circuit := List.mem_filter.mpr ⟨he, by simp⟩
  rcases hr.state with h | h | h
  · exact absurd h ho
  · rw [((hq e.circuit).unstaged (.inr (.inr (.inl h)))).2] at hent
    cases hent
  · exact h

theorem State.queue_tickExpired (hq : s.QueueMatches) : s.tickExpired.manager.queue = s.tickQueue := by
  obtain ⟨-, hqueue, -, -, -, -, htime⟩ := s.tickMarked_keeps
  rw [State.tickExpired_eq, State.queue_foldl_expire _ _ s.nodup_runningOut, hqueue, State.tickQueue]
  refine List.filterMap_congr fun e he => ?_
  simp only [State.mem_runningOut]
  by_cases hr : s.RunsOut e.circuit
  · rw [if_pos hr, if_pos hr, State.expiredEntry, (s.record_tickMarked_keeps e.circuit).1]
    by_cases ho : (s.record e.circuit).state = .opening
    · rw [if_pos ho, ho]
    · rw [if_neg ho, hq.altering_of_entry he hr ho]
      simp only [State.expiryEntry, htime]
  · rw [if_neg hr, if_neg hr]

/-- Who waits for the staging pass (R116). -/
theorem State.waiters_tickExpired (s : State) : s.tickExpired.waiters = s.tickWaiters := by
  refine List.filter_congr fun j _ => ?_
  rw [Bool.eq_iff_iff, Record.waits_iff, decide_eq_true_eq, State.record_tickExpired]
  by_cases hr : s.RunsOut j
  · have hcounts := hr.1
    have h1 := hr.2
    rw [if_pos hr, Record.countDown_of_counts hcounts]
    obtain ⟨l, hl⟩ : ∃ l, (s.record j).lease = some l := by
      obtain ⟨-, l, hl, -⟩ := hcounts
      exact ⟨l, hl⟩
    have hl1 : l.remaining = 1 := by simpa [Record.remaining, hl] using h1
    rcases hcounts.1 with h | h | h <;>
      simp [Record.expired, Record.remaining, Lease.reduced, h, hl, hl1, eq_true hr]
  · rw [if_neg hr]
    by_cases hcounts : (s.record j).leaseCounts
    · rw [Record.countDown_of_counts hcounts]
      have h1 : (s.record j).remaining ≠ some 1 := fun h => hr ⟨hcounts, h⟩
      obtain ⟨-, l, hl, h0⟩ := hcounts
      rw [Option.mem_def] at hl
      have hl1 : l.remaining ≠ 1 := by simpa [Record.remaining, hl] using h1
      have hsub : l.remaining - 1#8 ≠ 0#8 := fun h => hl1 (by simpa using sub_eq_zero.mp h)
      have hne : l.remaining ≠ 0#8 := h0
      simp [Record.remaining, Lease.reduced, hl, hne, hsub, eq_false hr]
    · rw [Record.countDown_of_not hcounts]
      simp [hr]

theorem State.nodup_tickServed (s : State) : s.tickServed.Nodup :=
  ((List.take_sublist _ _).trans List.filter_sublist).nodup (List.nodup_finRange 192)

theorem State.mem_tickServed (h : i ∈ s.tickServed) : (s.record i).state = .active
    ∧ (s.RunsOut i ∨ (s.record i).remaining = some 0) := by
  have hm := List.mem_of_mem_take h
  exact of_decide_eq_true (List.mem_filter.mp hm).2

/-- A lease tick is its expiries, and then the staging of as many as the queue has room for (R112,
R116). -/
theorem State.leaseTick_stages (hq : s.QueueMatches) :
    s.leaseTick = s.tickExpired.stageAll s.tickServed := by
  have hlen := congrArg List.length (State.queue_tickExpired hq)
  rw [State.leaseTick_eq, hlen, Config.queueRoom, State.tickServed, ← State.waiters_tickExpired]
  by_cases hroom : s.tickQueue.length ≤ 24
  · exact State.serveWaiting_eq_foldl _ _ (by omega)
  · rw [show 24 - s.tickQueue.length = 0 by omega]
    rfl

/-! ## What a tick writes -/

theorem State.record_leaseTick (hq : s.QueueMatches) (j : RecNo) : s.leaseTick.record j =
    if j ∈ s.tickServed then { s.tickExpired.record j with
      state := .closing, staged := some ⟨.deactivate, .nextFrame, .lease⟩ }
    else s.tickExpired.record j := by
  rw [State.leaseTick_stages hq, State.record_stageAll _ s.nodup_tickServed]

theorem State.record_leaseTick_runsOut (hq : s.QueueMatches) (h : s.RunsOut i) :
    s.leaseTick.record i = (match (s.record i).state with
      | .opening => { s.record i with
          state := .retired
          staged := none
          retireCause := some .leaseExpired
          attention := true
          lease := (s.record i).lease.map Lease.reduced }
      | .altering => { s.record i with
          state := .closing
          staged := some ⟨.deactivate, .nextFrame, .lease⟩
          attention := true
          lease := (s.record i).lease.map Lease.reduced }
      | _ => { s.record i with
          state := if i ∈ s.tickServed then .closing else .active
          staged := if i ∈ s.tickServed then some ⟨.deactivate, .nextFrame, .lease⟩ else none
          attention := true
          lease := (s.record i).lease.map Lease.reduced }) := by
  have hserved : i ∈ s.tickServed → (s.record i).state = .active := fun hm =>
    (State.mem_tickServed hm).1
  rw [State.record_leaseTick hq, State.record_tickExpired, if_pos h, Record.countDown_of_counts h.1]
  rcases h.state with hst | hst | hst
  · rw [if_neg fun hm => by simp [hst] at hserved; exact hserved hm]
    simp only [Record.expired, hst]
  · have hnone := ((hq i).unstaged (.inr (.inr (.inl hst)))).1
    simp only [Record.expired, hst]
    split
    · rfl
    · rw [← hnone, ← hst]
  · rw [if_neg fun hm => by simp [hst] at hserved; exact hserved hm]
    simp only [Record.expired, hst]

theorem State.record_leaseTick_others (hq : s.QueueMatches) (h : ¬s.RunsOut i) :
    s.leaseTick.record i = if (s.record i).leaseCounts then
        { s.record i with lease := (s.record i).lease.map Lease.reduced }
      else if i ∈ s.tickServed then
        { s.record i with state := .closing, staged := some ⟨.deactivate, .nextFrame, .lease⟩ }
      else s.record i := by
  rw [State.record_leaseTick hq, State.record_tickExpired, if_neg h]
  by_cases hc : (s.record i).leaseCounts
  · have hnot : i ∉ s.tickServed := fun hm => by
      rcases (State.mem_tickServed hm).2 with hr | h0
      · exact h hr
      · obtain ⟨-, l, hl, hne⟩ := hc
        rw [Option.mem_def] at hl
        rw [Record.remaining, hl] at h0
        exact hne (Option.some.inj h0)
    rw [if_neg hnot, if_pos hc, Record.countDown_of_counts hc]
  · rw [if_neg hc, Record.countDown_of_not hc]

theorem State.mapBecomes_leaseTick (hq : s.QueueMatches) :
    s.MapBecomes s.leaseTick fun _ _ _ e => match e with
      | .claimed i ph =>
        if s.RunsOut i ∧ (s.record i).state = .opening then .openPos
        else if s.RunsOut i ∧ (s.record i).state = .altering then
          if ph = .joining then .openPos else .claimed i .leaving
        else if i ∈ s.tickServed ∧ ph = .live then .claimed i .leaving
        else e
      | e => e := fun p l q => by
  rw [State.leaseTick_stages hq, State.mapBecomes_stageAll _ s.nodup_tickServed p l q,
    State.tickExpired_eq, State.mapBecomes_foldl_expire _ _ s.nodup_runningOut p l q,
    State.entry_congr s.tickMarked_keeps.1]
  cases s.entry p l q with
  | claimed i ph =>
    have hst := (s.record_tickMarked_keeps i).1
    have hserved : i ∈ s.tickServed → (s.record i).state = .active := fun hm =>
      (State.mem_tickServed hm).1
    by_cases hr : s.RunsOut i
    · rcases hr.state with h | h | h
      · simp [PosEntry.through, State.mem_runningOut, eq_true hr, Record.expiredClaim, hst, h]
      · cases ph <;>
          simp [PosEntry.through, State.mem_runningOut, eq_true hr, Record.expiredClaim, hst, h]
      · have hnot : i ∉ s.tickServed := fun hm => by simp [h] at hserved; exact hserved hm
        cases ph <;>
          simp [PosEntry.through, State.mem_runningOut, eq_true hr, Record.expiredClaim, hst, h, hnot]
    · cases ph <;> simp [PosEntry.through, State.mem_runningOut, eq_false hr]
  | fixed | openPos | barred => rfl

theorem State.attentionCount_tickExpired (s : State) : s.tickExpired.manager.attentionCount
    = s.manager.attentionCount + (List.finRange 192).countP fun i =>
        decide (s.RunsOut i ∧ (s.record i).attention = false) := by
  rw [State.tickExpired_eq, State.attentionCount_foldl_expire _ _ s.nodup_runningOut fun i hi => ?_,
    State.attentionCount_tickMarked]
  rw [State.record_tickMarked, if_pos ((s.mem_runningOut i).mp hi)]

theorem State.program_tickExpired (s : State) :
    s.tickExpired.manager.program = s.manager.program :=
  foldl_keeps (P := fun u : State => u.manager.program = s.manager.program)
    (fun u i hu => (u.program_expire i).trans hu) _ _ s.tickMarked_keeps.2.2.1

theorem State.referrals_tickExpired (s : State) : s.tickExpired.referrals = s.referrals :=
  foldl_keeps (P := fun u : State => u.referrals = s.referrals)
    (fun u i hu => (u.actsOn_expire i).referrals.trans hu) _ _ s.tickMarked_keeps.2.2.2.2.2.1

theorem State.links_tickExpired (s : State) : s.tickExpired.links = s.tickNotices.links := by
  obtain ⟨-, -, -, hlinks, -⟩ := s.tickMarked_keeps
  rw [State.tickExpired_eq, State.links_foldl_expire s.record _ _ s s.nodup_runningOut
    (fun i _ => s.record_tickMarked_keeps i) hlinks]
  have hlist : (s.runningOut.filter fun i => decide ((s.record i).state = .opening))
      = (List.finRange 192).filter fun i =>
          decide (s.RunsOut i ∧ (s.record i).state = .opening) := by
    rw [State.runningOut, List.filter_filter]
    refine List.filter_congr fun i _ => ?_
    have hr := s.runsOut_iff i
    rw [Bool.eq_iff_iff]
    simp [hr, and_comm]
  rw [hlist]
  rfl

/-- What a lease tick writes beside the records and their claims (R112, R116). -/
theorem State.leaseTick_writes (hq : s.QueueMatches) : s.leaseTick = { s with
    manager := { s.manager with
      table := s.leaseTick.manager.table
      map := s.leaseTick.manager.map
      queue := s.tickQueue ++ s.tickServed.map s.expiryEntry
      attentionCount := s.manager.attentionCount + (List.finRange 192).countP fun i =>
        decide (s.RunsOut i ∧ (s.record i).attention = false) }
    links := s.tickNotices.links
    mailbox := s.leaseTick.mailbox
    events := { s.events with flags := s.leaseTick.events.flags } } := by
  have hwork := s.worksTo_tickExpired
  have hentry : s.tickExpired.expiryEntry = s.expiryEntry := funext fun i => by
    rw [State.expiryEntry, State.expiryEntry, hwork.timing]
  have hqueue : s.leaseTick.manager.queue = s.tickQueue ++ s.tickServed.map s.expiryEntry := by
    rw [State.leaseTick_stages hq, State.stageAll_eq, hentry, State.queue_tickExpired hq]
  have hcount := s.attentionCount_tickExpired
  have hprogram := s.program_tickExpired
  have hreferrals := s.referrals_tickExpired
  have hlinks := s.links_tickExpired
  have hstage := State.stageAll_eq s.tickServed s.tickExpired
  rw [← State.leaseTick_stages hq] at hstage
  have hc : s.leaseTick.manager.attentionCount = s.tickExpired.manager.attentionCount := by
    rw [hstage]
  have hp : s.leaseTick.manager.program = s.manager.program := by rw [hstage]; exact hprogram
  have hr : s.leaseTick.referrals = s.referrals := by rw [hstage]; exact hreferrals
  have hl : s.leaseTick.links = s.tickNotices.links := by rw [hstage]; exact hlinks
  have heq := s.worksTo_leaseTick.eq
  rw [hqueue, hc, hcount, hp, hr, hl] at heq
  exact heq

/-! ## What is told -/

theorem State.mailbox_leaseTick (hq : s.QueueMatches) :
    s.leaseTick.mailbox = s.tickExpired.mailbox := by
  rw [State.leaseTick_stages hq, State.stageAll_eq]

theorem State.events_leaseTick (hq : s.QueueMatches) :
    s.leaseTick.events = s.tickExpired.events := by
  rw [State.leaseTick_stages hq, State.stageAll_eq]

theorem State.isAwaited_tickMarked (s : State) (i : RecNo) :
    s.tickMarked.isAwaited i = s.isAwaited i :=
  State.isAwaited_congr (State.entriesOf_congr s.tickMarked_keeps.2.1 i)

theorem State.mem_queue_of_isAwaited (h : s.isAwaited i = true) :
    ∃ e ∈ s.manager.queue, e.circuit = i ∧ e.awaited = true := by
  obtain ⟨e, he, ha⟩ := (s.isAwaited_iff i).mp h
  obtain ⟨hm, hi⟩ := List.mem_filter.mp he
  exact ⟨e, hm, of_decide_eq_true hi, ha⟩

theorem State.mailbox_leaseTick_unawaited (hq : s.QueueMatches)
    (h : ∀ e ∈ s.manager.queue, s.RunsOut e.circuit → e.awaited = false) :
    s.leaseTick.mailbox = s.mailbox := by
  obtain ⟨-, -, -, -, hmail, -⟩ := s.tickMarked_keeps
  rw [State.mailbox_leaseTick hq, State.tickExpired_eq,
    State.mailbox_foldl_expire _ _ s.nodup_runningOut fun i hi => ?_, hmail]
  rw [State.isAwaited_tickMarked, Bool.eq_false_iff]
  intro hi'
  obtain ⟨e, he, rfl, ha⟩ := State.mem_queue_of_isAwaited hi'
  rw [h e he ((s.mem_runningOut _).mp hi)] at ha
  cases ha

/-- One entry of the queue is awaited: no other record's is. -/
theorem eq_of_awaited {q : List QueueEntry} {e e' : QueueEntry}
    (hone : q.countP QueueEntry.awaited = 1) (he : e ∈ q) (ha : e.awaited = true) (he' : e' ∈ q)
    (ha' : e'.awaited = true) : e = e' := by
  rw [List.countP_eq_length_filter] at hone
  obtain ⟨x, hx⟩ := List.length_eq_one_iff.mp hone
  have hm : e ∈ q.filter QueueEntry.awaited := List.mem_filter.mpr ⟨he, ha⟩
  have hm' : e' ∈ q.filter QueueEntry.awaited := List.mem_filter.mpr ⟨he', ha'⟩
  rw [hx, List.mem_singleton] at hm hm'
  rw [hm, hm']

theorem State.mailbox_leaseTick_awaited (hq : s.QueueMatches) {e : QueueEntry}
    (he : e ∈ s.manager.queue) (hr : s.RunsOut e.circuit) (ha : e.awaited = true)
    (hone : s.manager.queue.countP QueueEntry.awaited = 1) :
    s.leaseTick.mailbox = s.mailboxWithdrawn e.circuit (s.leaseTick.record e.circuit).state
      ∧ s.leaseTick.events.flags.getLsbD 12 = true := by
  obtain ⟨hst, -, hgen⟩ := s.record_tickMarked_keeps e.circuit
  obtain ⟨-, -, -, -, hmail, -⟩ := s.tickMarked_keeps
  have hstate : (s.record e.circuit).state = .opening ∨ (s.record e.circuit).state = .altering :=
    (em _).imp_right fun ho => hq.altering_of_entry he hr ho
  have hnot : e.circuit ∉ s.tickServed := fun hm => by
    rcases hstate with h | h <;> rw [(State.mem_tickServed hm).1] at h <;> cases h
  obtain ⟨hm, hf⟩ := State.mailbox_foldl_expire_awaited (s := s.tickMarked) (i := e.circuit)
    s.nodup_runningOut ((s.mem_runningOut _).mpr hr) (fun j _ => by
      rw [State.isAwaited_tickMarked]
      refine ⟨fun hj => ?_, fun hj => ?_⟩
      · obtain ⟨e', he', rfl, ha'⟩ := State.mem_queue_of_isAwaited hj
        rw [eq_of_awaited hone he ha he' ha']
      · exact (s.isAwaited_iff j).mpr ⟨e, List.mem_filter.mpr ⟨he, by simp [hj]⟩, ha⟩)
    (by rw [hst]; exact hstate)
  have hrec : (s.leaseTick.record e.circuit).state = (s.tickMarked.record e.circuit).expired.state := by
    rw [State.record_leaseTick hq, if_neg hnot, State.tickExpired_eq,
      State.record_foldl_expire _ _ _ s.nodup_runningOut, if_pos ((s.mem_runningOut _).mpr hr)]
  rw [State.mailbox_leaseTick hq, State.events_leaseTick hq, State.tickExpired_eq, hm, hrec]
  refine ⟨?_, hf⟩
  rw [State.mailboxWithdrawn, State.mailboxWithdrawn, hmail, hgen]

/-- Settles O41: the tick handed on is the tick of the part with none outstanding. -/
theorem leaseTicksCountDownAndExpire : Obligations.LeaseTicksCountDownAndExpire := by
  unfold Obligations.LeaseTicksCountDownAndExpire
  intro s c hc
  have hexec : exec c s = .next s.takeTick := by rcases hc with rfl | rfl <;> rfl
  refine ⟨fun hno => ?_, fun htick hq => ?_⟩
  · rw [hexec, State.takeTick, hno]
    rfl
  · let s₀ : State := { s with manager := { s.manager with tickDue := false } }
    have hq₀ : s₀.QueueMatches := hq
    have hwrites := State.leaseTick_writes hq₀
    refine ⟨s₀.leaseTick, by rw [hexec, State.takeTick, if_pos htick],
      fun i hi => ⟨State.record_leaseTick_runsOut hq₀ hi, fun ha => ?_⟩,
      fun i hi => State.record_leaseTick_others hq₀ hi, State.mapBecomes_leaseTick hq₀,
      (congrArg State.manager hwrites :), ?_, State.mailbox_leaseTick_unawaited hq₀,
      fun e he hr ha hone => State.mailbox_leaseTick_awaited hq₀ he hr ha hone, fun hnone => ?_⟩
    · rw [State.events_leaseTick hq₀]
      exact (State.WorksTo.foldl (fun u i => u.worksTo_expire i) _ _).raised 11
        (State.flags_tickMarked (s := s₀) hi ha)
    · have hmanager := congrArg State.manager hwrites
      have hlinks : s₀.tickNotices.links = s.tickNotices.links :=
        State.links_expiryNotices_congr s.record _ rfl
      refine hwrites.trans ?_
      conv_rhs => rw [hmanager, ← hlinks]
    · replace hnone : s₀.runningOut = [] := hnone
      have hquiet : s₀.tickExpired = s₀.countLeases := by rw [State.tickExpired, hnone]; rfl
      rw [State.mailbox_leaseTick hq₀, State.events_leaseTick hq₀, hquiet]
      exact ⟨rfl, rfl⟩

end Sys2Proof.Machine
end

-- ==== Proofs: a frame start ====
section
/-! SUPPORT. What a frame start writes, and what it begins with (R80, R84, R86, R101). -/

namespace Sys2Proof.Machine

-- The proofs are elaborated one after another: many at once take the text past its memory limit.
set_option Elab.async false

variable {s t u : State}

/-! ## The frame start in full -/

/-- What a superframe start leaves of the part at the Referral Unit: the items that it writes, blanked out
(R171). -/
def State.uncounted (s : State) : State := { s with
  manager := { s.manager with timeouts := [] }
  referrals := { s.referrals with records := State.reset.referrals.records } }

theorem State.eq_of_uncounted (h : t.uncounted = s.uncounted) : t = { s with
    manager := { s.manager with timeouts := t.manager.timeouts }
    referrals := { s.referrals with records := t.referrals.records } } := by
  obtain ⟨_, _, ⟨⟩, _, _, ⟨⟩, _⟩ := s
  obtain ⟨_, _, ⟨⟩, _, _, ⟨⟩, _⟩ := t
  simp only [State.uncounted, State.mk.injEq, Manager.mk.injEq, ReferralUnit.mk.injEq] at h ⊢
  simp [h]

theorem State.uncounted_countReferral (s : State) (k : LinkNo) :
    (s.countReferral k).uncounted = s.uncounted := by
  unfold State.countReferral
  split
  · rfl
  · split
    · rfl
    · dsimp only
      split <;> rfl

theorem State.countReferrals_eq (s : State) : s.countReferrals = { s with
    manager := { s.manager with timeouts := s.countReferrals.manager.timeouts }
    referrals := { s.referrals with records := s.countReferrals.referrals.records } } :=
  State.eq_of_uncounted (foldl_keeps (P := fun v : State => v.uncounted = s.uncounted)
    (fun u k hu => (u.uncounted_countReferral k).trans hu) _ s rfl)

theorem State.handSuperframe_eq (s : State) (b : Bool) : s.handSuperframe b = { s with
    manager := { s.manager with
      divider := if b then s.manager.divider + 1 else s.manager.divider
      tickDue := (s.handSuperframe b).manager.tickDue
      timeouts := (s.handSuperframe b).manager.timeouts }
    referrals := { s.referrals with records := (s.handSuperframe b).referrals.records } } := by
  cases b with
  | false => rfl
  | true =>
    have h := State.countReferrals_eq s.advanceDivider
    have ht : s.advanceDivider.countReferrals.manager.tickDue = s.advanceDivider.manager.tickDue := by
      rw [h]
    rw [show s.handSuperframe true = s.advanceDivider.countReferrals from rfl, ht]
    exact h

theorem State.frameStart_handed (first ended : Bool) (rx : LineOctets) (s : State) :
    s.frameStart first ended rx = (State.handFrame (s.timing.startsSuperframe first s.pins.sfm) ended rx
      { s.settle with timing := s.timing.counted first s.pins.sfm }).handSuperframe
        (s.timing.startsSuperframe first s.pins.sfm) := by
  have hwork := s.worksTo_settle
  have ht : s.settle.timing = s.timing := hwork.timing
  have hp : s.settle.pins = s.pins := hwork.pins
  simp only [State.frameStart, ht, hp]

/-- What a frame start writes, once the work of the frame start before has been taken (R101). -/
theorem State.frameStart_eq (first ended : Bool) (rx : LineOctets) (s : State) :
    s.frameStart first ended rx = { s.settle with
      timing := s.timing.counted first s.pins.sfm
      switch := s.switch.frameStart ended rx
      manager := { s.settle.manager with
        frame := (s.timing.counted first s.pins.sfm).carried
          (s.timing.startsSuperframe first s.pins.sfm)
        applicationDue := true
        divider := if s.timing.startsSuperframe first s.pins.sfm then s.manager.divider + 1
          else s.manager.divider
        tickDue := (s.frameStart first ended rx).manager.tickDue
        timeouts := (s.frameStart first ended rx).manager.timeouts }
      links := s.settle.links.map Link.beginFrame
      referrals := { s.settle.referrals with
        records := (s.frameStart first ended rx).referrals.records } } := by
  have hwork := s.worksTo_settle
  have hsw : s.settle.switch = s.switch := hwork.switch
  have hd : s.settle.manager.divider = s.manager.divider := hwork.divider
  have hstart := State.frameStart_handed first ended rx s
  have hall := State.handSuperframe_eq (State.handFrame (s.timing.startsSuperframe first s.pins.sfm)
    ended rx { s.settle with timing := s.timing.counted first s.pins.sfm })
    (s.timing.startsSuperframe first s.pins.sfm)
  rw [← hstart] at hall
  rw [← hsw, ← hd]
  exact hall

/-! ## The counts -/

/-- A frame start 320 bit periods after the last is a superframe start where the counter wraps, or at the
marker (R102, R103). -/
theorem Timing.startsSuperframe_false (sfm : Bool) (t : Timing) :
    t.startsSuperframe false sfm = decide (t.superframeNext sfm) := by
  rw [Bool.eq_iff_iff]
  simp only [Timing.startsSuperframe, Timing.forced, Bool.not_false, Bool.true_and, Bool.false_or,
    Bool.or_eq_true, Bool.and_eq_true, bne_iff_ne, beq_iff_eq, decide_eq_true_eq, Timing.superframeNext]
  tauto

theorem Timing.forced_false (sfm : Bool) (t : Timing) : t.forced false sfm = true ↔
    (t.markerEnabled = true ∧ sfm = true ∧ t.windowOpen = true) ∧ t.counter ≠ 15 := by
  simp [Timing.forced, and_assoc]

/-- The counts of a frame start that ends a frame at its 320 bit periods (R101 to R104). -/
theorem Timing.advances_counted {t₀ t : Timing} (sfm : Bool) (h : t = { t₀ with
      role := t.role
      state := t.state
      holdoverCount := t.holdoverCount
      clock := max t₀.clock (t₀.frameAt + 320)
      frameAt := t₀.frameAt + 320 }) : t₀.Advances sfm (t.counted false sfm) := by
  have hc : t.counter = t₀.counter := by rw [h]
  have hm : t.markerEnabled = t₀.markerEnabled := by rw [h]
  have hw : t.windowOpen = t₀.windowOpen := by rw [h]
  have hn : t.number = t₀.number := by rw [h]
  have hforced := t.forced_false sfm
  have hstarts := t.startsSuperframe_false sfm
  rw [hm, hw, hc] at hforced
  simp only [Timing.superframeNext, hm, hw, hc] at hstarts
  have hrest : ∀ c n w, ({ t with
      tally := t.tally + 1, counter := c, number := n, windowOpen := w } : Timing) = { t₀ with
      role := t.role
      state := t.state
      holdoverCount := t.holdoverCount
      tally := t₀.tally + 1
      counter := c
      number := n
      windowOpen := w
      clock := max t₀.clock (t₀.frameAt + 320)
      frameAt := t₀.frameAt + 320 } := fun c n w => by rw [h]
  refine ⟨hrest _ _ _, fun h15 => ?_, fun h15 hm' hs' hw' => ?_, fun h15 hno => ?_⟩
  · have hf : t.forced false sfm = false := by
      rw [Bool.eq_false_iff, Ne, hforced]
      exact fun hx => hx.2 h15
    simp [Timing.counted, hf, hstarts, hc, hn, hw, h15]
  · have hf : t.forced false sfm = true := hforced.mpr ⟨⟨hm', hs', hw'⟩, h15⟩
    have hsup : t.startsSuperframe false sfm = true :=
      hstarts.trans (decide_eq_true (.inr ⟨hm', hs', hw'⟩))
    simp [Timing.counted, hf, hsup, hn]
  · have hf : t.forced false sfm = false := by
      rw [Bool.eq_false_iff, Ne, hforced]
      exact fun hx => hno hx.1
    have hs' : t.startsSuperframe false sfm = false := by
      rw [hstarts]
      exact decide_eq_false fun hx => hx.elim h15 hno
    have h14 : (t₀.counter + 1#4 == 15#4) = (t₀.counter == 14#4) := by
      generalize t₀.counter = c
      revert c
      decide
    simp [Timing.counted, hf, hs', hc, hn, hw, h14]

/-- A superframe start that begins frames: the counter at 0, the next number, the window as it was
(R96). -/
theorem Timing.counted_true (sfm : Bool) (t : Timing) : t.counted true sfm = { t with
    tally := t.tally + 1, counter := 0, number := t.number + 1 } := by
  simp [Timing.counted, Timing.startsSuperframe, Timing.forced]

/-! ## The octets -/

theorem heldIndex_lt (l : Fin 8) (q : Fin 38) : 38 * l.val + q.val < 304 := by omega

theorem State.heldOctet_eq (s : State) (l : Fin 8) (q : Fin 38) :
    s.heldOctet l q = s.switch.held[38 * l.val + q.val]'(heldIndex_lt l q) := by
  simp [State.heldOctet, Config.bearerSlots, Vector.getElem?_eq_getElem (heldIndex_lt l q)]

theorem heldIndex_div (l : Fin 8) (q : Fin 38) : (38 * l.val + q.val) / 38 = l.val := by omega

/-- A frame start that ends a frame replaces the held octets; one that resumes frames keeps them (R80,
R89). -/
theorem State.heldOctet_frameStart (s : State) (first ended : Bool) (rx : LineOctets) (l : Fin 8)
    (q : Fin 38) : (s.frameStart first ended rx).heldOctet l q =
      if ended then s.arrivedOctet rx l q else s.heldOctet l q := by
  rw [State.heldOctet_eq, State.frameStart_eq]
  dsimp only [SwitchPath.frameStart]
  cases ended with
  | false => rw [State.heldOctet_eq]; rfl
  | true =>
    simp [SwitchPath.replaced, SwitchPath.arrived, SwitchPath.fillOf, State.arrivedOctet, heldIndex_div,
      Nat.mod_eq_of_lt q.isLt]

/-! ## What stands before a frame start -/

/-- The counts and the pins have been written, and TIMING may have been raised: nothing else (R92,
R109). -/
structure State.Retimes (s t : State) : Prop where
  eq : t = { s with
    timing := t.timing
    events := { s.events with flags := t.events.flags }
    pins := t.pins }
  flags : t.events.flags ||| 1 = s.events.flags ||| 1

theorem State.Retimes.of_timing (s : State) (x : Timing) : s.Retimes { s with timing := x } := ⟨rfl, rfl⟩

theorem State.Retimes.trans (h : s.Retimes t) (g : t.Retimes u) : s.Retimes u :=
  ⟨g.eq.trans (by rw [h.eq]), g.flags.trans h.flags⟩

theorem State.retimes_withSfm (s : State) (b : Bool) : s.Retimes (s.withSfm b) := ⟨rfl, rfl⟩

theorem State.retimes_toTimingState (s : State) (st : TimingState) (n : Nat) :
    s.Retimes (s.toTimingState st n) :=
  ⟨rfl, by
    show (s.events.flags ||| 1#13) ||| 1#13 = _
    rw [BitVec.or_assoc, BitVec.or_self]
    rfl⟩

theorem State.Retimes.switch (h : s.Retimes t) : t.switch = s.switch := by rw [h.eq]

theorem State.Retimes.links (h : s.Retimes t) : t.links = s.links := by rw [h.eq]

theorem State.Retimes.arrivedOctet (h : s.Retimes t) (rx : LineOctets) (l : Fin 8) (q : Fin 38) :
    t.arrivedOctet rx l q = s.arrivedOctet rx l q := by
  simp only [State.arrivedOctet, h.switch]

theorem State.Retimes.heldOctet (h : s.Retimes t) (l q : Nat) : t.heldOctet l q = s.heldOctet l q := by
  simp only [State.heldOctet, h.switch]

/-- What a frame start leaves alone, whatever has been counted before it (R101). -/
theorem State.Retimes.handsOn (h : s.Retimes t) (first ended : Bool) (rx : LineOctets) :
    s.HandsOn (t.frameStart first ended rx) := fun ha ht => by
  have hset : t.settle = t := by
    refine State.settle_idle t ?_ ?_ <;> rw [h.eq]
    · exact ha
    · exact ht
  have hstart := State.frameStart_eq first ended rx t
  rw [hset] at hstart
  have hflags : (t.frameStart first ended rx).events.flags = t.events.flags := by rw [hstart]
  refine ⟨?_, hflags ▸ h.flags⟩
  generalize t.frameStart first ended rx = v at hstart hflags ⊢
  rw [hstart, h.eq]

/-- What a frame start that ends a frame hands on (R80, R84, R101). -/
theorem State.Retimes.beginsFrame (h : s.Retimes t) (rx : LineOctets) (sup : Prop) [Decidable sup]
    (hsup : t.timing.startsSuperframe false t.pins.sfm = decide sup) :
    s.BeginsFrame (t.frameStart false true rx) rx sup := by
  have hstart := State.frameStart_eq false true rx t
  refine ⟨fun l q => ?_, ?_, ?_, ?_, ?_, ?_, h.handsOn false true rx⟩
  · rw [State.heldOctet_frameStart, if_pos rfl, h.arrivedOctet]
  · rw [hstart, ← h.switch]; rfl
  · rw [hstart, ← h.switch]; rfl
  · rw [hstart]; rfl
  · rw [hstart, hsup]; rfl
  · rw [hstart]

/-- A flag that stands before a frame start stands after it (R191). -/
theorem State.flag_frameStart {n : Nat} (h : s.events.flags.getLsbD n = true) (first ended : Bool)
    (rx : LineOctets) : (s.frameStart first ended rx).events.flags.getLsbD n = true := by
  rw [State.frameStart_eq]
  exact s.worksTo_settle.raised n h

theorem State.flag_toTimingState (s : State) (st : TimingState) (n : Nat) :
    (s.toTimingState st n).events.flags.getLsbD 0 = true := by
  show (s.events.flags ||| 1#13).getLsbD 0 = true
  simp

end Sys2Proof.Machine
end

-- ==== Proofs: changes of the timing state ====
section
/-! SUPPORT. The writes of ROLE, and the expected position that passes with no pulse (R92, R97, R98). -/

namespace Sys2Proof.Machine

-- The proofs are elaborated one after another: many at once take the text past its memory limit.
set_option Elab.async false

variable {s t u : State}

/-! ## Catching up -/

section
variable (ts : List Timeout)

theorem State.freeRecord_setTimeouts (s : State) (i : RecNo) :
    (s.setTimeouts ts).freeRecord i = (s.freeRecord i).setTimeouts ts := by
  have hi : ((s.setTimeouts ts).releaseClaims i).record i = (s.releaseClaims i).record i := rfl
  simp only [State.freeRecord, State.clearAttention, hi]
  split <;> rfl

theorem State.answerLine_setTimeouts (s : State) (k : LinkNo) (r : Reply) :
    (s.setTimeouts ts).answerLine k r = (s.answerLine k r).setTimeouts ts := by
  have hk : (s.setTimeouts ts).link k = s.link k := rfl
  simp only [State.answerLine, hk]
  split <;> rfl

/-- A timeout is taken whatever the list of those still to take (R171). -/
theorem State.timeOut_setTimeouts (s : State) (x : Timeout) :
    (s.setTimeouts ts).timeOut x = (s.timeOut x).setTimeouts ts := by
  have hr : (s.setTimeouts ts).referral x.link = s.referral x.link := rfl
  have hset : ∀ (v : State) (k : LinkNo), (v.setTimeouts ts).setReferral k none
      = (v.setReferral k none).setTimeouts ts := fun _ _ => rfl
  unfold State.timeOut
  rw [hr]
  cases s.referral x.link with
  | none => rfl
  | some r =>
    dsimp only
    split
    · simp only [State.denyReferral, State.freeRecord_setTimeouts, State.answerLine_setTimeouts, hset]
    · rfl

end

/-- The timeouts taken one by one, each by its link, are those that have been handed on, in their order
(R171). -/
theorem State.foldl_takeTimeout : ∀ (ts : List Timeout) (s : State),
    ts.foldl (fun u x => u.takeTimeout x.link) (s.setTimeouts ts)
      = ts.foldl State.timeOut (s.setTimeouts [])
  | [], _ => rfl
  | x :: ts, s => by
    have hfind : (x :: ts).find? (fun y => decide (y.link = x.link)) = some x :=
      List.find?_cons_of_pos (by simp)
    have hone : (s.setTimeouts (x :: ts)).takeTimeout x.link = (s.timeOut x).setTimeouts ts := by
      rw [State.takeTimeout, show (s.setTimeouts (x :: ts)).manager.timeouts = x :: ts from rfl, hfind]
      dsimp only
      rw [List.erase_cons_head, ← State.timeOut_setTimeouts]
      rfl
    rw [List.foldl_cons, List.foldl_cons, hone, State.foldl_takeTimeout ts, State.timeOut_setTimeouts]

/-- What has been handed on is taken by the rows of its own (R61, R123, R171). -/
theorem State.caughtUp_takeTimeouts (s : State) : s.CaughtUp s.settle.takeTimeouts :=
  ⟨s.takeApplication, s.settle, rfl, rfl,
    (State.foldl_takeTimeout s.settle.manager.timeouts s.settle).symm⟩

/-- What stands once everything handed on has been taken (R61, R123). -/
theorem State.takeTimeouts_idles (s : State) : s.settle.takeTimeouts.NothingOutstanding
    ∧ s.settle.takeTimeouts.timing = s.timing ∧ s.settle.takeTimeouts.switch = s.switch
    ∧ (s.NothingOutstanding → s.settle.takeTimeouts = s) := by
  have hwork := s.worksTo_caughtUp
  refine ⟨⟨hwork.applicationDue, hwork.tickDue, hwork.timeouts⟩, hwork.timing, hwork.switch,
    fun ⟨ha, ht, hto⟩ => ?_⟩
  rw [State.settle_idle s ha ht, State.takeTimeouts_idle s hto]

/-! ## Frames stop -/

/-- What an entry into ACQUIRING writes, once everything handed on has been taken (R88, R95). -/
theorem State.stopFrames_eq (s : State) (n : Nat) : s.stopFrames n = { s with
    timing := { s.timing with
      state := .acquiring, holdoverCount := n, consistency := 0, pulseAt := none }
    switch := s.switch.enterAcquiring
    links := s.links.map Link.endFrame
    events := { s.events with flags := s.events.flags ||| 1 } } := rfl

/-- The sample store is emptied (R88). -/
theorem State.storeEmptied_of_switch (h : t.switch = s.switch.enterAcquiring) : s.StoreEmptied t := by
  refine ⟨fun l q => ?_, by rw [h]; rfl, by rw [h]; rfl, by rw [h]; rfl⟩
  rw [State.heldOctet_eq]
  simp [h, SwitchPath.enterAcquiring, SwitchPath.fillOf, heldIndex_div]

/-- While frames are absent every LOUT line is high (R88). -/
theorem State.lout_acquiring (h : s.timing.state = .acquiring) (k : LinkNo) : s.lout k = true := by
  simp [State.lout, State.framesRun, h]

theorem State.link_mapEndFrame (h : t.links = s.links.map Link.endFrame) (k : LinkNo) :
    t.link k = { s.link k with arrived := false } := by
  simp [State.link, h, Link.endFrame]

/-! ## The writes of ROLE -/

theorem State.toMaster_eq (h : s.timing.state ≠ .freeRun) (rx : LineOctets) :
    ∃ v : State, s.toMaster rx = v.frameStart true s.framesRun rx ∧ s.Retimes v
      ∧ v.timing = { s.timing with
          role := .master
          state := .freeRun
          frameAt := s.timing.clock }
      ∧ v.pins = s.pins ∧ v.events.flags.getLsbD 0 = true := by
  unfold State.toMaster
  rw [if_neg h]
  refine ⟨_, rfl, ?_, ?_, rfl, State.flag_toTimingState _ _ _⟩
  · exact ((State.Retimes.of_timing s _).trans (State.retimes_toTimingState _ _ _)).trans
      (State.Retimes.of_timing _ _)
  · simp [State.toTimingState, State.raise, State.frameFalls]

/-- What a write of SLAVE does, by the state it finds (R92, R94, R98). -/
theorem State.toSlave_eq (h : s.timing.state ≠ .acquiring) : s.toSlave =
    { s.settle.takeTimeouts.stopFrames
        (if s.timing.state = .holdover then 0 else s.timing.holdoverCount) with
      timing := { s.timing with
        role := if s.timing.state = .freeRun then .slave else s.timing.role
        state := .acquiring
        consistency := 0
        holdoverCount := if s.timing.state = .holdover then 0 else s.timing.holdoverCount
        pulseAt := none
        frmBefore := if s.timing.state = .freeRun then true else s.timing.frmBefore } } := by
  obtain ⟨-, ht, -, -⟩ := s.takeTimeouts_idles
  unfold State.toSlave State.enterAcquiring
  cases hst : s.timing.state with
  | acquiring => exact absurd hst h
  | freeRun | locked | holdover => simp [State.stopFrames_eq, ht]

/-- Settles O25: MASTER begins a frame by a superframe start, SLAVE stops the frames. -/
theorem roleWritesActByTheState : Obligations.RoleWritesActByTheState := by
  unfold Obligations.RoleWritesActByTheState
  intro s rx
  refine ⟨fun h => ?_, fun h => ?_, fun h => ?_, fun h => ?_⟩
  · show Host.Outcome.next (s.toMaster rx) = _
    rw [State.toMaster, if_pos h]
  · show Host.Outcome.next s.toSlave = _
    rw [State.toSlave, h]
  · obtain ⟨v, hv, hre, htime, hpins, hflag⟩ := State.toMaster_eq h rx
    have hstart := State.frameStart_eq true s.framesRun rx v
    have hsup : v.timing.startsSuperframe true v.pins.sfm = true := rfl
    have hdiv : v.manager.divider = s.manager.divider := by rw [hre.eq]
    rw [Timing.counted_true, hsup, htime] at hstart
    refine ⟨v.frameStart true s.framesRun rx, congrArg Host.Outcome.next hv, by rw [hstart],
      State.flag_frameStart hflag _ _ _, by rw [hstart]; rfl, by rw [hstart],
      by rw [hstart, if_pos rfl, hdiv], ?_, hre.handsOn _ _ _, fun l q => ?_, ?_⟩
    · rw [hstart]
      exact v.worksTo_settle.pins.trans hpins
    · rw [State.heldOctet_frameStart, hre.arrivedOctet, hre.heldOctet]
      by_cases hst : s.timing.state = .acquiring <;> simp [State.framesRun, hst]
    · rw [hstart]
      simp [State.frmDriven, State.bitPeriod]
  · obtain ⟨hidle, ht, hsw, hnone⟩ := s.takeTimeouts_idles
    refine ⟨s.settle.takeTimeouts, s.caughtUp_takeTimeouts, hidle, ht, hsw, hnone, s.toSlave, rfl, ?_⟩
    rw [State.toSlave_eq h, State.stopFrames_eq]
    refine ⟨rfl, State.link_mapEndFrame rfl, State.storeEmptied_of_switch (by rw [hsw]),
      State.lout_acquiring rfl, fun hslave => ?_⟩
    unfold State.frmDriven
    rw [if_neg fun hm => by rw [hslave] at hm; cases hm]

/-! ## The expected position passes -/

theorem State.frameEnds_freeRun (h : s.timing.state = .freeRun) (pulse : Bool) (rx : LineOctets) :
    s.frameEnds pulse rx = (s.frameFalls s.timing.expected).frameStart false true rx := by
  rw [State.frameEnds, h]

theorem State.frameEnds_locked (h : s.timing.state = .locked) (rx : LineOctets) :
    s.frameEnds false rx =
      ((s.toTimingState .holdover 1).frameFalls s.timing.expected).frameStart false true rx := by
  rw [State.frameEnds, h]
  rfl

theorem State.frameEnds_holdover (h : s.timing.state = .holdover)
    (hn : s.timing.holdoverCount + 1 ≤ s.timing.holdoverLimit.toNat) (rx : LineOctets) :
    s.frameEnds false rx = (State.frameFalls s.timing.expected { s with
      timing := { s.timing with holdoverCount := s.timing.holdoverCount + 1 } }).frameStart
        false true rx := by
  rw [State.frameEnds, h]
  dsimp only
  rw [if_neg (by simp), if_pos hn]
  rfl

theorem State.frameEnds_exceeded (h : s.timing.state = .holdover)
    (hn : s.timing.holdoverLimit.toNat < s.timing.holdoverCount + 1) (rx : LineOctets) :
    s.frameEnds false rx = (s.enterAcquiring 0).passTo s.timing.expected := by
  rw [State.frameEnds, h]
  dsimp only
  rw [if_neg (by simp), if_neg (by omega)]

/-- A flywheel frame start (R97): what it begins with. -/
theorem State.frameEnds_flywheel (rx : LineOctets) (h : s.timing.state = .locked
      ∨ (s.timing.state = .holdover
          ∧ s.timing.holdoverCount + 1 ≤ s.timing.holdoverLimit.toNat)) :
    ∃ v : State, s.frameEnds false rx = v.frameStart false true rx ∧ s.Retimes v ∧ v.pins = s.pins
      ∧ v.timing = { s.timing with
          state := .holdover
          holdoverCount := if s.timing.state = .locked then 1 else s.timing.holdoverCount + 1
          clock := max s.timing.clock (s.timing.frameAt + 320)
          frameAt := s.timing.frameAt + 320 }
      ∧ (s.timing.state = .locked → v.events.flags.getLsbD 0 = true) := by
  rcases h with hst | ⟨hst, hn⟩
  · refine ⟨_, State.frameEnds_locked hst rx,
      (s.retimes_toTimingState _ _).trans (State.Retimes.of_timing _ _), rfl, ?_,
      fun _ => s.flag_toTimingState _ _⟩
    rw [if_pos hst]
    rfl
  · refine ⟨_, State.frameEnds_holdover hst hn rx,
      (State.Retimes.of_timing s _).trans (State.Retimes.of_timing _ _), rfl, ?_, fun hl => ?_⟩
    · rw [if_neg (by rw [hst]; simp), ← hst]
      rfl
    · rw [hst] at hl
      cases hl

/-- Settles O31: the flywheel begins a frame, or frames stop with everything handed on taken. -/
theorem positionsPassedWithoutAPulse : Obligations.PositionsPassedWithoutAPulse := by
  unfold Obligations.PositionsPassedWithoutAPulse
  refine ⟨fun s sfm rx c hc hst => ?_, fun s sfm rx c hc hst hn => ?_⟩
  · have hexec : exec c s = .next ((s.withSfm sfm).frameEnds false rx) := by rcases hc with rfl | rfl <;> rfl
    obtain ⟨v, hv, hre, hpins, htime, hflag⟩ := State.frameEnds_flywheel (s := s.withSfm sfm) rx hst
    have hstart := State.frameStart_eq false true rx v
    have hadv : s.timing.Advances sfm (v.timing.counted false sfm) :=
      Timing.advances_counted sfm (by rw [htime]; rfl)
    have htiming : (v.frameStart false true rx).timing = v.timing.counted false sfm := by
      rw [hstart, hpins]
      rfl
    refine ⟨v.frameStart false true rx, hexec.trans (congrArg Host.Outcome.next hv),
      htiming ▸ hadv, ?_, ?_, ?_, fun hl => State.flag_frameStart (hflag hl) _ _ _, ?_, ?_⟩
    · rw [htiming]
      exact (congrArg Timing.role htime :)
    · rw [htiming]
      exact (congrArg Timing.state htime :)
    · rw [htiming]
      exact (congrArg Timing.holdoverCount htime :)
    · rw [hstart]
      exact v.worksTo_settle.pins.trans hpins
    · refine ((s.retimes_withSfm sfm).trans hre).beginsFrame rx _ ?_
      rw [Timing.startsSuperframe_false, hpins, htime]
      rfl
  · have hexec : exec c s = .next ((s.withSfm sfm).frameEnds false rx) := by
      rcases hc with rfl | rfl | rfl <;> rfl
    obtain ⟨hidle, ht, hsw, hnone⟩ := (s.withSfm sfm).takeTimeouts_idles
    refine ⟨(s.withSfm sfm).settle.takeTimeouts, (s.withSfm sfm).caughtUp_takeTimeouts, hidle, ht, hsw,
      hnone, _, hexec, ?_⟩
    rw [State.frameEnds_exceeded (s := s.withSfm sfm) hst hn, State.enterAcquiring, State.stopFrames_eq, ht]
    exact ⟨rfl, State.link_mapEndFrame rfl, State.storeEmptied_of_switch (by rw [hsw]; rfl),
      State.lout_acquiring rfl⟩

end Sys2Proof.Machine
end

-- ==== Proofs: what a frame carries ====
section
/-! SUPPORT. Every row that begins a frame does so by a frame start of the same part, timing apart; and
what that frame then carries in each slot (R78, R81, R86). -/

namespace Sys2Proof.Machine

-- The proofs are elaborated one after another: many at once take the text past its memory limit.
set_option Elab.async false

variable {s t u v : State} {k : LinkNo}

/-! ## The frame starts of the table -/

/-- A state from which a frame begins at a position: the part as it was, timing apart, with frames
running (R92, R101). -/
structure State.FrameAt (s v : State) (p : Nat) : Prop where
  retimes : s.Retimes v
  runs : v.timing.state ≠ .acquiring
  frameAt : v.timing.frameAt = p
  clock : v.timing.clock = max s.timing.clock p

theorem State.frameAt_frameFalls {w : State} (h : s.Retimes w) (hruns : w.timing.state ≠ .acquiring)
    (hclock : w.timing.clock = s.timing.clock) (p : Nat) : s.FrameAt (w.frameFalls p) p where
  retimes := h.trans (.of_timing _ _)
  runs := hruns
  frameAt := rfl
  clock := by rw [← hclock]; rfl

/-- A pulse at the expected position begins a frame (R93, R97). -/
theorem State.frameEnds_pulse (h : s.timing.state = .freeRun ∨ s.timing.tracking) (rx : LineOctets) :
    ∃ v : State, s.frameEnds true rx = v.frameStart false true rx
      ∧ s.FrameAt v (s.timing.frameAt + 320) := by
  rcases h with hst | hst | hst
  · exact ⟨_, State.frameEnds_freeRun hst true rx,
      State.frameAt_frameFalls (.of_timing s _) (by rw [hst]; simp) rfl _⟩
  · refine ⟨s.frameFalls s.timing.expected, ?_,
      State.frameAt_frameFalls (.of_timing s _) (by rw [hst]; simp) rfl _⟩
    rw [State.frameEnds, hst]
    rfl
  · refine ⟨(s.toTimingState .locked 0).frameFalls s.timing.expected, ?_,
      State.frameAt_frameFalls (s.retimes_toTimingState .locked 0) (fun h => by cases h) rfl _⟩
    rw [State.frameEnds, hst]
    rfl

/-- The expected position passes in LOCKED or in HOLDOVER within its limit (R97). -/
theorem State.frameEnds_passed (rx : LineOctets) (h : s.timing.state = .locked
      ∨ (s.timing.state = .holdover
          ∧ s.timing.holdoverCount + 1 ≤ s.timing.holdoverLimit.toNat)) :
    ∃ v : State, s.frameEnds false rx = v.frameStart false true rx
      ∧ s.FrameAt v (s.timing.frameAt + 320) := by
  obtain ⟨v, hv, hre, -, htime, -⟩ := State.frameEnds_flywheel rx h
  exact ⟨v, hv, hre, by rw [htime]; nofun, by rw [htime], by rw [htime]⟩

/-- The third pulse of acquisition resumes frames (R95, R96). -/
theorem State.acquirePulse_resumes {p : Nat} (hp : s.timing.pulseAt.map (· + 320) = some p)
    (hn : 2 ≤ s.timing.consistency) :
    ∃ v : State, s.acquirePulse p = v.frameStart true false [] ∧ s.FrameAt v p := by
  obtain ⟨q, hq, hqp⟩ := Option.map_eq_some_iff.mp hp
  have hcount : s.timing.nextConsistency p = s.timing.consistency + 1 := by
    rw [Timing.nextConsistency, hq]
    exact if_pos ⟨hqp.symm, by omega⟩
  have hthird : Config.pulsesToLock ≤ s.timing.consistency + 1 := by
    rw [Config.pulsesToLock]
    omega
  refine ⟨_, by rw [State.acquirePulse, hcount]; exact if_pos hthird, ?_, ?_, ?_, ?_⟩
  · exact ((State.Retimes.of_timing s _).trans (State.retimes_toTimingState _ _ _)).trans (.of_timing _ _)
  · nofun
  · rfl
  · rfl

/-- Every row that begins a frame does so by a frame start, which ends a frame exactly where one was in
progress (R80, R89, R101). -/
theorem State.FrameBegins.frameStart {c : Instr} {sfm : Bool} {rx : LineOctets} {p : Nat}
    (h : s.FrameBegins c sfm rx p) : ∃ (v : State) (first : Bool) (rx' : LineOctets),
      exec c s = .next (v.frameStart first (decide (s.timing.state ≠ .acquiring)) rx')
        ∧ s.FrameAt v p ∧ (s.timing.state ≠ .acquiring → rx' = rx) := by
  have hpins : ∀ {w : State}, (s.withSfm sfm).FrameAt w p → s.FrameAt w p := fun hw =>
    ⟨(s.retimes_withSfm sfm).trans hw.retimes, hw.runs, hw.frameAt, hw.clock⟩
  have hhigh : ∀ {w : State}, (s.withSfm sfm).frmHigh.FrameAt w p → s.FrameAt w p := fun hw =>
    ⟨((s.retimes_withSfm sfm).trans (.of_timing _ _)).trans hw.retimes, hw.runs, hw.frameAt, hw.clock⟩
  rcases h with ⟨rfl, hst, rfl⟩ | ⟨rfl, hst, rfl⟩ | ⟨rfl, hrole, hst, rfl⟩ | ⟨hc, hst, rfl⟩
    | ⟨rfl, hrole, hst, hp, hn⟩ | ⟨rfl, hst, rfl⟩
  · refine ⟨(s.withSfm sfm).frameFalls (s.withSfm sfm).timing.expected, false, rx, ?_,
      hpins (State.frameAt_frameFalls (.of_timing _ _) (fun h => by cases hst.symm.trans h) rfl _),
      fun _ => rfl⟩
    rw [decide_eq_true (by rw [hst]; simp), ← State.frameEnds_freeRun (s := s.withSfm sfm) hst false]
    rfl
  · obtain ⟨v, hv, hat⟩ := State.frameEnds_pulse (s := s.withSfm sfm) hst rx
    refine ⟨v, false, rx, ?_, hpins hat, fun _ => rfl⟩
    rw [decide_eq_true (by rcases hst with h | h | h <;> rw [h] <;> simp), ← hv]
    rfl
  · obtain ⟨v, hv, hat⟩ := State.frameEnds_pulse (s := (s.withSfm sfm).frmHigh) (.inr hst) rx
    refine ⟨v, false, rx, ?_, hhigh hat, fun _ => rfl⟩
    rw [decide_eq_true (by rcases hst with h | h <;> rw [h] <;> simp), ← hv]
    show Host.Outcome.next (if s.timing.role = .slave then _ else _) = _
    rw [if_pos hrole, State.pulse]
    have hstate : (s.withSfm sfm).frmHigh.timing.state = s.timing.state := rfl
    rw [hstate]
    rcases hst with h | h <;> rw [h] <;> exact congrArg Host.Outcome.next (if_pos rfl)
  · have hexec : exec c s = .next ((s.withSfm sfm).frameEnds false rx) := by
      rcases hc with rfl | rfl <;> rfl
    obtain ⟨v, hv, hat⟩ := State.frameEnds_passed (s := s.withSfm sfm) rx hst
    refine ⟨v, false, rx, ?_, hpins hat, fun _ => rfl⟩
    rw [decide_eq_true (by rcases hst with h | ⟨h, -⟩ <;> rw [h] <;> simp), ← hv, hexec]
  · obtain ⟨v, hv, hat⟩ := State.acquirePulse_resumes (s := (s.withSfm sfm).frmHigh) hp hn
    refine ⟨v, true, [], ?_, hhigh hat, fun h => absurd hst h⟩
    rw [decide_eq_false (by rw [hst]; simp), ← hv]
    show Host.Outcome.next (if s.timing.role = .slave then _ else _) = _
    rw [if_pos hrole, State.pulse]
    have hstate : (s.withSfm sfm).frmHigh.timing.state = s.timing.state := rfl
    rw [hstate, hst]
  · obtain ⟨v, hv, hre, htime, -, -⟩ := State.toMaster_eq hst rx
    refine ⟨v, true, rx, ?_, ⟨hre, by rw [htime]; nofun, by rw [htime], by rw [htime]; simp⟩, fun _ => rfl⟩
    show Host.Outcome.next (s.toMaster rx) = _
    rw [hv]
    congr 2
    cases hst' : s.timing.state <;> simp [State.framesRun, hst']

/-! ## The pair -/

/-- The bits of a handshake octet with valid presence (R127; 13.1). -/
theorem handshakeOctet_bits : ∀ offer seq final ack refuse : Bool,
    (handshakeOctet offer seq final ack refuse).extractLsb' 5 3 = 5
      ∧ (handshakeOctet offer seq final ack refuse).getLsbD 4 = offer
      ∧ (handshakeOctet offer seq final ack refuse).getLsbD 3 = seq
      ∧ (handshakeOctet offer seq final ack refuse).getLsbD 2 = final
      ∧ (handshakeOctet offer seq final ack refuse).getLsbD 1 = ack
      ∧ (handshakeOctet offer seq final ack refuse).getLsbD 0 = refuse := by decide

theorem Link.Hears.presented {l l' : Link} (h : l.Hears l') :
    l'.presented = l.presented ∧ l'.arrived = l.arrived := by
  obtain ⟨ms, h⟩ := h
  rw [h]
  exact ⟨rfl, rfl⟩

theorem Link.Hears.head {l l' : Link} (h : l.Hears l') {j : Nat} {x : Byte}
    (hx : l.head[j]? = some x) : l'.head = l.head := by
  obtain ⟨ms, h⟩ := h
  rw [h]
  unfold Link.head at hx ⊢
  cases ho : l.outbound with
  | nil => simp [ho] at hx
  | cons m rest => simp

/-- The pair as a channel stands once it has been handed messages is the pair as it stood (R86, R128). -/
theorem Link.Hears.pairAsItStands {l' : Link} (h : (s.link k).Hears l') :
    s.PairAsItStands k (l'.pairNow.channel, l'.pairNow.handshake) := by
  have hhead : ∀ {j x}, (s.link k).head[j]? = some x → l'.head = (s.link k).head := fun hx => h.head hx
  obtain ⟨ms, h⟩ := h
  have hst : l'.state = (s.link k).state := by rw [h]
  have hw : l'.withdrawal = (s.link k).withdrawal := by rw [h]
  have ho : l'.onOffer = (s.link k).onOffer := by rw [h]
  have hseq : l'.sendSeq = (s.link k).sendSeq := by rw [h]
  have hack : l'.receiveAck = (s.link k).receiveAck := by rw [h]
  have href : l'.refusalDisplay = (s.link k).refusalDisplay := by rw [h]
  unfold State.PairAsItStands Link.pairNow
  rw [hst, hw, ho, hseq, hack, href]
  dsimp only
  cases hs : (s.link k).state with
  | disabled => rfl
  | absent =>
    by_cases h0 : 0 < (s.link k).withdrawal
    · simp [h0]
    · simp only [h0, if_false]
      rfl
  | up =>
    cases hj : (s.link k).onOffer with
    | none => simp only [handshakeOctet_bits]; simp
    | some j =>
      simp only [handshakeOctet_bits]
      refine ⟨trivial, by simp, trivial, trivial, trivial, by simp, fun _ i hi x hx => ?_⟩
      cases hi
      rw [hhead hx, hx]
      exact ⟨rfl, rfl⟩
  | stalled => simp only [handshakeOctet_bits]; simp

/-! ## The slots -/

/-- The application step writes neither the counts nor the Switch Path, and leaves the pair of every
channel (R62, R86). -/
theorem State.applied_leaves (s : State) : s.takeApplication.timing = s.timing
    ∧ s.takeApplication.switch = s.switch
    ∧ ∀ k, (s.takeApplication.link k).presented = (s.link k).presented := by
  have hwork := s.worksTo_takeApplication
  exact ⟨hwork.timing, hwork.switch, fun k => (hwork.links k).presented.1⟩

theorem State.programSlot_eq (s : State) (k : LinkNo) (q : Fin 38) : s.egressOctet k q =
    match s.programEntry k q with
    | .ingress l q => s.heldOctet l q
    | .constant v => v
    | .noEntry => s.switch.fillInForce[k] := if_pos q.isLt

/-- Settles O33: the frame of a frame start, once its application step has been taken. -/
theorem framesCarryTheOctetsOfTheFrameBefore :
    Obligations.FramesCarryTheOctetsOfTheFrameBefore := by
  unfold Obligations.FramesCarryTheOctetsOfTheFrameBefore
  intro s c sfm rx p k pair hbegins
  obtain ⟨v, first, rx', hexec, hat, hrx⟩ := hbegins.frameStart
  have hstart := State.frameStart_eq first (decide (s.timing.state ≠ .acquiring)) rx' v
  have hheld := v.heldOctet_frameStart first (decide (s.timing.state ≠ .acquiring)) rx'
  generalize v.frameStart first (decide (s.timing.state ≠ .acquiring)) rx' = t at hexec hstart hheld
  obtain ⟨htime, hswitch, hpair⟩ := t.applied_leaves
  refine ⟨t, hexec, t.takeApplication, rfl, fun q l q' hq => ?_, fun q x hq => ?_, fun q hq => ?_,
    fun hp => ?_, fun hclock => ?_⟩
  · rw [State.programSlot_eq, hq]
    show State.heldOctet _ _ _ = _
    rw [State.heldOctet, hswitch]
    refine (hheld l q').trans ?_
    rw [hat.retimes.arrivedOctet, hat.retimes.heldOctet]
    by_cases hst : s.timing.state = .acquiring
    · simp [hst]
    · simp [hst, hrx hst]
  · rw [State.programSlot_eq, hq]
  · rw [State.programSlot_eq, hq]
    dsimp only
    rw [hswitch, hstart, ← hat.retimes.switch]
    rfl
  · have hlink : t.link k = (v.settle.link k).beginFrame := by
      rw [hstart]
      simp [State.link]
    have hhears : (s.link k).Hears (v.settle.link k) :=
      (State.link_congr hat.retimes.links k) ▸ v.worksTo_settle.links k
    have hshown : pair = ((v.settle.link k).beginFrame.presented.channel,
        (v.settle.link k).beginFrame.presented.handshake) := by
      rw [hp, ← hlink, ← hpair k]
      rfl
    obtain ⟨hpres, harr⟩ := hhears.presented
    refine ⟨fun ha => ?_, fun ha => ?_⟩
    · rw [hshown, Link.beginFrame, harr, ha, if_pos rfl, hpres]
    · rw [hshown, Link.presented_beginFrame _ (harr.trans ha)]
      exact hhears.pairAsItStands
  · have htiming : t.takeApplication.timing = v.timing.counted first v.pins.sfm :=
      htime.trans (by rw [hstart])
    have hbit : t.takeApplication.bitPeriod = 0 := by
      rw [State.bitPeriod, htiming]
      show v.timing.clock - v.timing.frameAt = 0
      rw [hat.clock, hat.frameAt]
      omega
    have hruns : t.takeApplication.framesRun = true := by
      rw [State.framesRun, htiming]
      exact bne_iff_ne.mpr hat.runs
    rw [State.lout, hruns, if_pos rfl, hbit]

end Sys2Proof.Machine
end

-- ==== Proofs: writes of flags, indicators and fill octets ====
section
/-! SUPPORT. The writes of EVENT_FLAGS, EVENT_ENABLE, LOST_NOTICE and FILL_k, bit by bit (R84, R163,
R194, R195). -/

namespace Sys2Proof.Machine

-- The proofs are elaborated one after another: many at once take the text past its memory limit.
set_option Elab.async false

/-- The positions that an octet of EVENT_FLAGS or EVENT_ENABLE covers, and the bit written at each
(13.6). -/
theorem getElem_eventOctet (second : Bool) (v : Byte) (i : Fin 13) : (eventOctet second v)[i] =
    if (8 ≤ i.val) = (second = true) then v.getLsbD (i.val % 8) else false := by
  have hi : i.val < 13 := i.isLt
  rw [Fin.getElem_fin, ← BitVec.getLsbD_eq_getElem]
  by_cases h : 8 ≤ i.val
  · have hmod : i.val % 8 = i.val - 8 := by omega
    cases second <;> simp [eventOctet, h, hi, hmod]
  · have hmod : i.val % 8 = i.val := by omega
    cases second <;> simp [eventOctet, h, hi, hmod]

/-- A 1 clears a flag, and a 0 leaves it (R195). -/
theorem State.flags_clearFlags (s : State) (second : Bool) (v : Byte) (i : Fin 13) :
    (s.clearFlags second v).events.flags[i] =
      if (8 ≤ i.val) = (second = true) then s.events.flags[i] && !v.getLsbD (i.val % 8)
      else s.events.flags[i] := by
  have hbit : (s.clearFlags second v).events.flags[i]
      = (s.events.flags[i] && !(eventOctet second v)[i]) := by simp [State.clearFlags]
  rw [hbit, getElem_eventOctet]
  split <;> simp

/-- An enable becomes the bit written at its position (R194). -/
theorem State.enables_writeEnables (s : State) (second : Bool) (v : Byte) (i : Fin 13) :
    (s.writeEnables second v).events.enables[i] =
      if (8 ≤ i.val) = (second = true) then v.getLsbD (i.val % 8) else s.events.enables[i] := by
  have hones : (0xFF : Byte).getLsbD (i.val % 8) = true := by
    revert i
    decide
  have hbit : (s.writeEnables second v).events.enables[i]
      = ((s.events.enables[i] && !(eventOctet second 0xFF)[i]) || (eventOctet second v)[i]) := by
    simp [State.writeEnables]
  rw [hbit, getElem_eventOctet, getElem_eventOctet, hones]
  split <;> simp

/-- A 1 clears the notice-lost indicator of its link (R163). -/
theorem State.link_clearLost (s : State) (v : Byte) (k : LinkNo) : (s.clearLost v).link k =
    { s.link k with noticeLost := (s.link k).noticeLost && !v.getLsbD k } := by
  simp only [State.clearLost, State.link, Fin.getElem_fin, getElem_updateAll]
  cases v.getLsbD k <;> simp

/-- IRQ_N is low while some flag is both set and enabled (R197). -/
theorem Events.irqLow_iff (e : Events) :
    e.irqLow = true ↔ ∃ i : Fin 13, e.flags[i] = true ∧ e.enables[i] = true := by
  rw [Events.irqLow, bne_iff_ne, Ne, ← not_iff_comm]
  constructor
  · intro hnone
    refine BitVec.eq_of_getElem_eq fun i hi => ?_
    have h := not_exists.mp hnone ⟨i, hi⟩
    simpa using h
  · rintro hz ⟨i, hflag, henable⟩
    have h : (e.flags &&& e.enables)[i] = true := by
      rw [Fin.getElem_fin, BitVec.getElem_and]
      exact Bool.and_eq_true_iff.mpr ⟨hflag, henable⟩
    rw [hz] at h
    simp at h

/-- A fill octet written is not yet in force for sending (R84). -/
theorem State.egressOctet_writeFill (s : State) (k j : LinkNo) (v : Byte) (slot : Nat) :
    (s.writeFill k v).egressOctet j slot = s.egressOctet j slot := rfl

/-- The addresses of FILL_k (13.6). -/
theorem fill_address (k : LinkNo) : (0x68 + BitVec.ofNat 7 k : BitVec 7).toNat = 0x68 + k.val
    ∧ Decode.bankLink (0x68 + BitVec.ofNat 7 k) = k := by
  revert k
  decide

/-- FILL_k reads the fill octet last written (R84; 13.6). -/
theorem State.readRegister_fill (s : State) (k : LinkNo) :
    s.readRegister (0x68 + BitVec.ofNat 7 k) = s.switch.fill[k] := by
  obtain ⟨ha, hk⟩ := fill_address k
  have hlt : k.val < 8 := k.isLt
  simp only [State.readRegister, ha, hk]
  repeat rw [if_neg (by omega)]
  rw [if_pos (by omega)]

/-- Settles O34: each write acts on the bits of its octet, and a fill octet waits for the next frame. -/
theorem flagEnableIndicatorAndFillWrites : Obligations.FlagEnableIndicatorAndFillWrites := by
  unfold Obligations.FlagEnableIndicatorAndFillWrites
  refine ⟨fun s second v => ⟨?_, ?_, ?_⟩, fun s => s.events.irqLow_iff, fun s k v => ?_⟩
  · exact ⟨s.clearFlags second v, rfl, rfl, s.flags_clearFlags second v⟩
  · exact ⟨s.writeEnables second v, rfl, rfl, s.enables_writeEnables second v⟩
  · exact ⟨s.clearLost v, rfl, rfl, s.link_clearLost v⟩
  · refine ⟨s.writeFill k v, rfl, rfl, fun j slot => s.egressOctet_writeFill k j v slot, ?_⟩
    rw [State.readRegister_fill]
    exact Vector.getElem_set_self k.isLt

end Sys2Proof.Machine
end

-- ==== Proofs: the pulses of acquisition ====
section
/-! SUPPORT. A pulse on FRM in ACQUIRING: the run of pulses 320 bit periods apart, and the superframe
start of the third (R95, R96). -/

namespace Sys2Proof.Machine

-- The proofs are elaborated one after another: many at once take the text past its memory limit.
set_option Elab.async false

variable {s : State} {p : Nat}

/-- The consistency count goes on at a pulse 320 bit periods after the one before, and begins anew at any
other (R95). -/
theorem Timing.nextConsistency_eq (t : Timing) (p : Nat) : t.nextConsistency p =
    if t.pulseAt.map (· + 320) = some p ∧ 1 ≤ t.consistency then t.consistency + 1 else 1 := by
  unfold Timing.nextConsistency
  cases t.pulseAt with
  | none => simp
  | some q =>
    have hq : (some q).map (· + 320) = some p ↔ p = q + 320 := by simp [eq_comm]
    exact if_congr (and_congr_left' hq.symm) rfl rfl

/-- The part at the third pulse of acquisition, before its frame start: LOCKED, with the frame at the
pulse (R96). -/
def State.lockedAt (s : State) (p : Nat) : State := { s with
  timing := { s.timing with
    state := .locked
    consistency := 0
    holdoverCount := 0
    pulseAt := none
    frameAt := p
    clock := max s.timing.clock p }
  events := { s.events with flags := s.events.flags ||| 1 } }

/-- Where FRM has been sampled high, a sample of high changes nothing (R94). -/
theorem State.frmHigh_eq_self (h : s.timing.frmBefore = true) : s.frmHigh = s := by
  rw [State.frmHigh, ← h]

theorem State.withSfm_eq_self {sfm : Bool} (h : s.pins.sfm = sfm) : s.withSfm sfm = s := by
  rw [State.withSfm, ← h]

theorem State.retimes_lockedAt (s : State) (p : Nat) : s.Retimes (s.lockedAt p) :=
  ⟨rfl, (s.retimes_toTimingState .locked 0).flags⟩

theorem State.acquirePulse_counts (h : s.timing.nextConsistency p < 3) : s.acquirePulse p = { s with
    timing := { s.timing with
      consistency := s.timing.nextConsistency p
      pulseAt := some p
      clock := max s.timing.clock p } } :=
  if_neg (Nat.not_le.mpr h)

theorem State.acquirePulse_locks (h : 3 ≤ s.timing.nextConsistency p) :
    s.acquirePulse p = (s.lockedAt p).frameStart true false [] :=
  if_pos h

/-- A pulse seen in ACQUIRING belongs to a run (R94, R95). -/
theorem exec_frmPulse_acquiring (hrole : s.timing.role = .slave) (hst : s.timing.state = .acquiring)
    (sfm : Bool) (rx : LineOctets) :
    exec (.frmPulse p sfm rx) s = .next ((s.withSfm sfm).frmHigh.acquirePulse p) := by
  have hstate : (s.withSfm sfm).frmHigh.timing.state = .acquiring := hst
  refine congrArg Host.Outcome.next ((if_pos hrole).trans ?_)
  rw [State.pulse, hstate]

/-- Settles O26: a pulse is counted, and the third of a run resumes frames. -/
theorem threePulsesInARowLock : Obligations.ThreePulsesInARowLock := by
  unfold Obligations.ThreePulsesInARowLock
  intro s p sfm rx count hrole hst hcount
  have hexec := exec_frmPulse_acquiring (p := p) hrole hst sfm rx
  have hnext : (s.withSfm sfm).frmHigh.timing.nextConsistency p = count :=
    (Timing.nextConsistency_eq _ p).trans hcount.symm
  have hre : s.Retimes ((s.withSfm sfm).frmHigh.lockedAt p) :=
    ((s.retimes_withSfm sfm).trans (.of_timing _ _)).trans (State.retimes_lockedAt _ p)
  refine ⟨fun hlt => ?_, fun hthree => ?_⟩
  · rw [hexec, State.acquirePulse_counts (hnext ▸ hlt), hnext]
    rfl
  · have hflag : ((s.withSfm sfm).frmHigh.lockedAt p).events.flags.getLsbD 0 = true :=
      (s.flag_toTimingState .locked 0 :)
    have hstart := State.frameStart_eq true false [] ((s.withSfm sfm).frmHigh.lockedAt p)
    rw [Timing.counted_true] at hstart
    refine ⟨_, hexec.trans (congrArg Host.Outcome.next (State.acquirePulse_locks (hnext ▸ hthree))),
      by rw [hstart]; rfl, State.flag_frameStart hflag _ _ _, by rw [hstart]; rfl, by rw [hstart],
      by rw [hstart]; rfl, ?_, hre.handsOn _ _ _, by rw [hstart]; rfl⟩
    rw [hstart]
    exact (State.worksTo_settle _).pins

end Sys2Proof.Machine
end

-- ==== Proofs: a bit period ====
section
/-! SUPPORT. A bit period of CLKIN with nothing for the Circuit Manager to take: the lines sampled in the
period that passes, and the Timing Unit at the beginning of the next (R78, R79, R85, R94). -/

namespace Sys2Proof.Machine

-- The proofs are elaborated one after another: many at once take the text past its memory limit.
set_option Elab.async false

variable {s : State} {b : Nat}

/-! ## What an arrival leaves -/

/-- The Timing Unit, the Switch Path and the levels of the input pins. -/
def State.lineSide (s : State) : Timing × SwitchPath × Pins := (s.timing, s.switch, s.pins)

theorem lineSide_endSession (s : State) (k : LinkNo) (l : Link) :
    (s.endSession k l).lineSide = s.lineSide := by
  rw [State.endSession_elsewhere]
  rfl

theorem lineSide_absentArrival (s : State) (k : LinkNo) (valid : Bool) :
    (s.absentArrival k valid).lineSide = s.lineSide := by
  unfold State.absentArrival
  dsimp only
  split
  · rfl
  · rfl
  · split_ifs <;> rfl

theorem lineSide_sessionArrival (s : State) (k : LinkNo) (valid : Bool) (chan hs : Byte) :
    (s.sessionArrival k valid chan hs).lineSide = s.lineSide := by
  have hraise : ∀ (v : State) (c : Nat), (v.raise c).lineSide = v.lineSide := fun _ _ => rfl
  unfold State.sessionArrival
  dsimp only
  split
  · rw [State.loseSession_setLink, hraise, lineSide_endSession]
  · split <;> rfl

/-- An arrival is the matter of its channel: it writes neither counts nor octets of the lines (R134). -/
theorem lineSide_arrival (s : State) (k : LinkNo) (chan hs : Byte) :
    (s.arrival k chan hs).lineSide = s.lineSide := by
  have hset : ∀ (v : State) (l : Link), (v.setLink k l).lineSide = v.lineSide := fun _ _ => rfl
  unfold State.arrival
  split
  · rfl
  · dsimp only
    rw [hset]
    cases (s.link k).state with
    | disabled => rfl
    | absent => exact lineSide_absentArrival s k _
    | up | stalled => exact lineSide_sessionArrival s k _ chan hs

theorem lineSide_handArrivals (s : State) : s.handArrivals.lineSide = s.lineSide :=
  foldl_keeps (P := fun v : State => v.lineSide = s.lineSide)
    (fun v k hv => (lineSide_arrival v k _ _).trans hv) _ s rfl

/-- The octets that the arrivals of one frame hand on are those that stand at the first (R85). -/
theorem foldl_arrival (w : SwitchPath) : ∀ (ks : List LinkNo) (u : State), u.switch = w →
    ks.foldl (fun v k => v.arrival k v.switch.channelIn[k] v.switch.shift[k]) u
      = ks.foldl (fun v k => v.arrival k w.channelIn[k] w.shift[k]) u
  | [], _, _ => rfl
  | k :: ks, u, hu => by
    have hnext : (u.arrival k u.switch.channelIn[k] u.switch.shift[k]).switch = w :=
      (congrArg (fun x => x.2.1) (lineSide_arrival u k _ _)).trans hu
    rw [List.foldl_cons, List.foldl_cons, foldl_arrival w ks _ hnext, hu]

/-! ## The lines -/

/-- Every LIN line has been sampled into its octet in progress (R78). -/
def State.sampled (s : State) : State := { s with switch := s.switch.sample s.pins.lin }

theorem State.shift_sampled (s : State) (k : LinkNo) : s.sampled.switch.shift[k] = s.shifted k := by
  simp only [State.sampled, SwitchPath.sample, State.shifted, Fin.getElem_fin, getElem_updateAll]
  cases s.pins.lin.getLsbD k <;> rfl

theorem State.capture_captureOctets (s : State) (k : LinkNo) :
    s.sampled.switch.captureOctets.capture[k] = s.switch.capture[k] ++ [s.shifted k] := by
  have hk : k.val < 8 := k.isLt
  have hshift : s.sampled.switch.shift[k.val] = s.shifted k := s.shift_sampled k
  simp only [SwitchPath.captureOctets, Fin.getElem_fin, getElem_updateAll,
    Vector.getElem?_eq_getElem hk, Option.getD_some, hshift]
  rfl

theorem State.framesRun_of_ne (h : s.timing.state ≠ .acquiring) : s.framesRun = true :=
  bne_iff_ne.mpr h

theorem State.framesRun_acquiring (h : s.timing.state = .acquiring) : s.framesRun = false := by
  simp [State.framesRun, h]

/-- The bit period of the frame in progress, from its start (R78). -/
theorem State.bitPeriod_eq (h : s.timing.frameAt + b = s.timing.clock) : s.bitPeriod = b := by
  rw [State.bitPeriod]
  omega

/-- A bit period of a running frame, and the slot that its last bit completes (R78). -/
theorem State.lineTick_running (h : s.timing.state ≠ .acquiring) : s.lineTick =
    if s.bitPeriod % 8 = 7 then s.sampled.octetsComplete (s.bitPeriod / 8) else s.sampled :=
  if_pos (State.framesRun_of_ne h)

/-- What a bit period of a running frame brings in on the LIN lines (R78, R79, R85). -/
theorem State.linesTaken_lineTick (h : s.timing.state ≠ .acquiring) (hb : s.bitPeriod = b)
    (hlt : b < 320) : s.LinesTaken s.lineTick b := by
  rw [State.lineTick_running h, hb]
  by_cases hlast : b % 8 = 7
  · rw [if_pos hlast, State.octetsComplete, Config.bearerSlots]
    by_cases hbearer : b / 8 < 38
    · rw [if_pos hbearer]
      refine ⟨{ s.sampled with switch := s.sampled.switch.captureOctets }, rfl, s.shift_sampled,
        fun k => ?_, fun k => ?_, ?_⟩
      · rw [if_pos ⟨hlast, hbearer⟩]
        exact s.capture_captureOctets k
      · rw [if_neg (by omega)]
        rfl
      · rw [if_neg (by omega)]
    · rw [if_neg hbearer]
      by_cases hchannel : b = 311
      · rw [if_pos (by omega)]
        refine ⟨{ s.sampled with switch := s.sampled.switch.keepChannel }, rfl, s.shift_sampled,
          fun k => ?_, fun k => ?_, ?_⟩
        · rw [if_neg (by omega)]
          rfl
        · rw [if_pos hchannel]
          exact s.shift_sampled k
        · rw [if_neg (by omega)]
      · rw [if_neg (by omega), if_pos (by omega)]
        refine ⟨s.sampled, rfl, s.shift_sampled, fun k => ?_, fun k => ?_, ?_⟩
        · rw [if_neg (by omega)]
          rfl
        · rw [if_neg hchannel]
          rfl
        · rw [if_pos (by omega), State.handArrivals, foldl_arrival _ _ _ rfl]
          simp only [State.shift_sampled]
          rfl
  · rw [if_neg hlast]
    refine ⟨s.sampled, rfl, s.shift_sampled, fun k => ?_, fun k => ?_, ?_⟩
    · rw [if_neg (by omega)]
      rfl
    · rw [if_neg (by omega)]
      rfl
    · rw [if_neg (by omega)]

theorem State.octetsComplete_leaves (s : State) (slot : Nat) :
    (s.octetsComplete slot).timing = s.timing ∧ (s.octetsComplete slot).pins = s.pins := by
  have harrivals := lineSide_handArrivals s
  simp only [State.lineSide, Prod.mk.injEq] at harrivals
  obtain ⟨htiming, -, hpins⟩ := harrivals
  unfold State.octetsComplete
  split_ifs
  · exact ⟨rfl, rfl⟩
  · exact ⟨rfl, rfl⟩
  · exact ⟨htiming, hpins⟩
  · exact ⟨rfl, rfl⟩

/-- What the LIN lines bring in moves neither the counts nor the levels of the pins (R78). -/
theorem State.lineTick_leaves (h : s.timing.state ≠ .acquiring) :
    s.lineTick.timing = s.timing ∧ s.lineTick.pins = s.pins := by
  rw [State.lineTick_running h]
  split
  · exact s.sampled.octetsComplete_leaves _
  · exact ⟨rfl, rfl⟩

/-! ## The next bit period -/

/-- With nothing handed on and no request to take, the Circuit Manager has no step (R24). -/
theorem State.managerStep_none (h : s.NothingOutstanding) (hh : ∀ k : LinkNo, s.handed k = none) :
    s.managerStep = none := by
  obtain ⟨ha, ht, hto⟩ := h
  have hfirst : s.firstHanded = none := List.find?_eq_none.mpr fun k _ => by simp [hh k]
  simp [State.managerStep, ha, ht, hto, hfirst]

/-- A bit period passes where no command waits and the Circuit Manager has no step to take (R78). -/
theorem step_bitTick (hp : s.pending = []) (h : s.NothingOutstanding)
    (hh : ∀ k : LinkNo, s.handed k = none) : step s = .next s.bitTick := by
  rw [step, hp]
  dsimp only
  rw [State.idle, State.managerStep_none h hh]
  rfl

theorem State.frmEdge_eq (s : State) : s.frmEdge =
    decide (s.timing.role = .slave ∧ s.pins.frm = true ∧ s.timing.frmBefore = false) := by
  rw [Bool.eq_iff_iff]
  simp [State.frmEdge, and_assoc]

/-- FRM is sampled as the next bit period begins (R94). -/
theorem State.sampleFrm_countBit (s : State) : s.countBit.sampleFrm = s.nextBit := rfl

/-- The Timing Unit at the beginning of a bit period of ACQUIRING (R95). -/
theorem State.timingTick_acquiring (h : s.timing.state = .acquiring) : s.countBit.timingTick =
    if s.frmEdge then s.nextBit.acquirePulse (s.timing.clock + 1) else s.nextBit := by
  have hruns : ¬s.nextBit.framesRun = true := ne_true_of_eq_false (State.framesRun_acquiring h)
  rw [State.timingTick_eq, State.sampleFrm_countBit, if_neg hruns]
  rfl

/-- The Timing Unit at the beginning of a bit period where frames run: the frame before it ends with its
320th (R93, R97). -/
theorem State.timingTick_running (h : s.timing.state ≠ .acquiring)
    (hb : s.timing.frameAt + b = s.timing.clock) (hlt : b < 320) : s.countBit.timingTick =
    if b = 319 then s.nextBit.frameEnds s.frmEdge [] else s.nextBit := by
  have hends : s.nextBit.timing.expected ≤ s.nextBit.timing.clock ↔ b = 319 := by
    show s.timing.frameAt + 320 ≤ s.timing.clock + 1 ↔ b = 319
    omega
  have hruns : s.nextBit.framesRun = true := State.framesRun_of_ne h
  rw [State.timingTick_eq, State.sampleFrm_countBit, if_pos hruns, if_congr hends rfl rfl]
  rfl

/-- Settles O29: the lines are sampled in the period that passes, and a frame or a pulse may begin the
next. -/
theorem bitPeriodsCarryTheLines : Obligations.BitPeriodsCarryTheLines := by
  unfold Obligations.BitPeriodsCarryTheLines
  intro s b edge hpending hidle hhanded hedge
  have hstep := step_bitTick hpending hidle hhanded
  rw [← State.frmEdge_eq] at hedge
  refine ⟨fun hst => ⟨?_, State.lout_acquiring hst, ?_⟩, fun hst hb hlt => ?_⟩
  · have hline : s.lineTick = s := if_neg (ne_true_of_eq_false (State.framesRun_acquiring hst))
    rw [hstep, State.bitTick, hline, State.timingTick_acquiring hst, ← hedge]
    cases edge with
    | false => rfl
    | true =>
      rw [State.frmEdge_eq, eq_comm, decide_eq_true_eq] at hedge
      obtain ⟨hslave, hfrm, -⟩ := hedge
      have hbefore : s.nextBit.timing.frmBefore = true := (if_pos hslave).trans hfrm
      rw [if_pos rfl, if_pos rfl, exec_frmPulse_acquiring (s := s.nextBit) hslave hst,
        State.withSfm_eq_self (s := s.nextBit) rfl, State.frmHigh_eq_self hbefore]
  · simp [State.sfo, State.framesRun_acquiring hst]
  · have hperiod := State.bitPeriod_eq hb
    have hruns := State.framesRun_of_ne hst
    refine ⟨⟨s.lineTick, State.linesTaken_lineTick hst hperiod hlt, ?_⟩, fun k => ?_, ?_, ?_⟩
    · obtain ⟨htiming, hpins⟩ := State.lineTick_leaves hst
      have hsame : s.lineTick.frmEdge = edge := by
        rw [hedge, State.frmEdge, htiming, hpins]
        rfl
      rw [hstep, State.bitTick, State.timingTick_running (by rwa [htiming]) (by rwa [htiming]) hlt, hsame]
      split
      · have hsfm : s.lineTick.nextBit.withSfm s.pins.sfm = s.lineTick.nextBit :=
          State.withSfm_eq_self (congrArg Pins.sfm hpins)
        refine congrArg Host.Outcome.next ?_
        rw [hsfm]
      · rfl
    · rw [State.lout, if_pos hruns, hperiod]
    · simp [State.sfo, hruns, hperiod, and_comm]
    · rw [State.frmDriven, hperiod]

end Sys2Proof.Machine
end

-- ==== Proofs: SET_SUPERFRAME ====
section
/-! SUPPORT. What a SET_SUPERFRAME finds in the change queue, and what it answers (R107). -/

namespace Sys2Proof.Machine

-- The proofs are elaborated one after another: many at once take the text past its memory limit.
set_option Elab.async false

variable {s : State}

theorem QueueEntry.numbered_iff (e : QueueEntry) :
    e.numbered = true ↔ ∃ n, e.cutover = .atSuperframe n := by
  unfold QueueEntry.numbered
  cases e.cutover <;> simp

/-- The time of an answer that reports no state (13.4). -/
theorem timeResponse_eq (n : Half) (c : BitVec 4) : timeResponse ⟨n, c⟩ =
    respond [(0, 8), (3, octet (16 * c.toNat)), (6, highOctet n), (7, lowOctet n)] := by
  rw [timeResponse, timeFields, Nat.zero_add]
  rfl

/-- A SET_SUPERFRAME while an AT_SUPERFRAME entry is staged (R107). -/
theorem State.hostSetSuperframe_locked
    (h : ∃ e ∈ s.manager.queue, ∃ n, e.cutover = .atSuperframe n) : s.hostSetSuperframe =
    (⟨.epochLocked, timeResponse ⟨s.timing.number, s.timing.counter⟩, none⟩, s) := by
  obtain ⟨e, he, hn⟩ := h
  exact if_pos (List.any_eq_true.mpr ⟨e, he, e.numbered_iff.mpr hn⟩)

/-- A SET_SUPERFRAME with no AT_SUPERFRAME entry staged (R107). -/
theorem State.hostSetSuperframe_free
    (h : ∀ e ∈ s.manager.queue, ∀ n, e.cutover ≠ .atSuperframe n) : s.hostSetSuperframe =
    (⟨.ok, timeResponse ⟨s.request 0 ++ s.request 1, s.timing.counter⟩, none⟩,
      { s with timing := { s.timing with number := s.request 0 ++ s.request 1 } }) :=
  if_neg fun hany => by
    obtain ⟨e, he, hnum⟩ := List.any_eq_true.mp hany
    obtain ⟨n, hn⟩ := e.numbered_iff.mp hnum
    exact h e he n hn

/-- Settles O24, by whether an AT_SUPERFRAME entry is staged. -/
theorem setSuperframeSetsTheNumberAlone : Obligations.SetSuperframeSetsTheNumberAlone := by
  unfold Obligations.SetSuperframeSetsTheNumberAlone
  intro s await hr
  by_cases hstaged : ∃ e ∈ s.manager.queue, ∃ n, e.cutover = .atSuperframe n
  · have hbody := State.hostSetSuperframe_locked (s := s.noteCommand 0x10 await) hstaged
    rw [timeResponse_eq] at hbody
    refine ⟨_, .epochLocked, State.hostCompletes (cmd := .setSuperframe await) hr rfl hbody, rfl,
      State.answersAtOnce_complete rfl _ _, fun _ => ⟨rfl, rfl⟩, fun hnone => ?_⟩
    obtain ⟨e, he, n, hn⟩ := hstaged
    exact absurd hn (hnone e he n)
  · have hnone : ∀ e ∈ s.manager.queue, ∀ n, e.cutover ≠ .atSuperframe n :=
      fun e he n hn => hstaged ⟨e, he, n, hn⟩
    have hbody := State.hostSetSuperframe_free (s := s.noteCommand 0x10 await) hnone
    rw [timeResponse_eq] at hbody
    exact ⟨_, .ok, State.hostCompletes (cmd := .setSuperframe await) hr rfl hbody, rfl,
      State.answersAtOnce_complete rfl _ _, fun h => absurd h hstaged, fun _ => ⟨rfl, rfl⟩⟩

end Sys2Proof.Machine
end

-- ==== Proofs: pulses and frame starts ====
section
/-! SUPPORT. What a pulse on FRM does by the role, the state and its position, and the frame start of a
frame that ends by the count of FREE_RUN or by a pulse at the expected position (R93, R97, R98). -/

namespace Sys2Proof.Machine

-- The proofs are elaborated one after another: many at once take the text past its memory limit.
set_option Elab.async false

variable {s : State} {p : Nat} {sfm : Bool} {rx : LineOctets}

/-! ## Pulses -/

/-- In role MASTER FRM is driven, and no pulse is seen (R93). -/
theorem exec_frmPulse_master (h : s.timing.role = .master) :
    exec (.frmPulse p sfm rx) s = .next (s.withSfm sfm) :=
  congrArg Host.Outcome.next (if_neg (fun hs : s.timing.role = .slave => by rw [h] at hs; cases hs))

/-- A pulse seen in LOCKED or HOLDOVER ends the frame at the expected position, and is ignored at any
other (R97, R98). -/
theorem exec_frmPulse_tracking (hrole : s.timing.role = .slave) (hst : s.timing.tracking) :
    exec (.frmPulse p sfm rx) s = .next (if p = s.timing.frameAt + 320 then
      (s.withSfm sfm).frmHigh.frameEnds true rx else (s.withSfm sfm).frmHigh) := by
  have hstate : (s.withSfm sfm).frmHigh.timing.state = s.timing.state := rfl
  refine congrArg Host.Outcome.next ((if_pos hrole).trans ?_)
  rw [State.pulse, hstate]
  rcases hst with h | h <;> rw [h] <;> rfl

/-- Settles O27: no pulse is seen in role MASTER, and one out of place is sampled and no more. -/
theorem pulsesOutOfPlaceAreIgnored : Obligations.PulsesOutOfPlaceAreIgnored := by
  unfold Obligations.PulsesOutOfPlaceAreIgnored
  refine fun s p sfm rx => ⟨exec_frmPulse_master, fun hrole hst hp => ?_⟩
  rw [exec_frmPulse_tracking hrole hst, if_neg hp]
  rfl

/-! ## Frame starts -/

/-- The frame in progress runs out by the count of FREE_RUN, or with a pulse at the expected position in
LOCKED or HOLDOVER (R93, R97, R98). -/
abbrev Timing.InStep (t : Timing) (pulse : Bool) : Prop :=
  t.state = .freeRun ∨ (pulse = true ∧ t.tracking)

/-- What the frame start after such a frame begins with: the position, the state that is kept or entered,
and TIMING raised where LOCKED is entered (R97, R98, R109). -/
structure State.NextFrame (s v : State) : Prop where
  retimes : s.Retimes v
  pins : v.pins = s.pins
  timing : v.timing = { s.timing with
    state := if s.timing.state = .freeRun then .freeRun else .locked
    holdoverCount := if s.timing.state = .holdover then 0 else s.timing.holdoverCount
    clock := max s.timing.clock (s.timing.frameAt + 320)
    frameAt := s.timing.frameAt + 320 }
  flag : s.timing.state = .holdover → v.events.flags.getLsbD 0 = true

/-- A frame start that changes no state of the Timing Unit (R93, R97). -/
theorem State.nextFrame_frameFalls (h : s.timing.state = .freeRun ∨ s.timing.state = .locked) :
    s.NextFrame (s.frameFalls s.timing.expected) where
  retimes := .of_timing _ _
  pins := rfl
  timing := by
    have hstate : s.timing.state =
        if s.timing.state = .freeRun then TimingState.freeRun else .locked := by
      rcases h with h | h <;> rw [h] <;> rfl
    have hcount : ¬s.timing.state = .holdover := by rcases h with h | h <;> rw [h] <;> simp
    rw [if_neg hcount, ← hstate]
    rfl
  flag hh := by rcases h with h | h <;> rw [h] at hh <;> cases hh

/-- A pulse at the expected position in HOLDOVER enters LOCKED (R98). -/
theorem State.nextFrame_toLocked (h : s.timing.state = .holdover) :
    s.NextFrame ((s.toTimingState .locked 0).frameFalls s.timing.expected) where
  retimes := (s.retimes_toTimingState .locked 0).trans (.of_timing _ _)
  pins := rfl
  timing := by rw [h]; rfl
  flag _ := s.flag_toTimingState .locked 0

theorem State.frameEnds_inStep {pulse : Bool} (h : s.timing.InStep pulse) (rx : LineOctets) :
    ∃ v : State, s.frameEnds pulse rx = v.frameStart false true rx ∧ s.NextFrame v := by
  rcases h with hst | ⟨rfl, hst | hst⟩
  · exact ⟨_, State.frameEnds_freeRun hst pulse rx, State.nextFrame_frameFalls (.inl hst)⟩
  · exact ⟨_, by rw [State.frameEnds, hst]; rfl, State.nextFrame_frameFalls (.inr hst)⟩
  · exact ⟨_, by rw [State.frameEnds, hst]; rfl, State.nextFrame_toLocked hst⟩

/-- SFM has a level, and so has the previous sample of FRM (R94, R103). -/
def State.atLevels (sfm frm : Bool) (s : State) : State := { s with
  timing := { s.timing with frmBefore := frm }
  pins := { s.pins with sfm := sfm } }

theorem State.retimes_atLevels (s : State) (sfm frm : Bool) : s.Retimes (s.atLevels sfm frm) :=
  ⟨rfl, rfl⟩

/-- The row of a frame start and the pulse itself end the frame alike, the sample of FRM apart (R93,
R97). -/
theorem exec_frameEnds_inStep {c : Instr} {pulse : Bool}
    (hc : (c = .frameStart pulse sfm rx ∧ s.timing.InStep pulse)
      ∨ (c = .frmPulse (s.timing.frameAt + 320) sfm rx ∧ s.timing.role = .slave
        ∧ s.timing.tracking)) :
    ∃ frm b, exec c s = .next ((s.atLevels sfm frm).frameEnds b rx) ∧ s.timing.InStep b
      ∧ frm = if c = .frmPulse (s.timing.frameAt + 320) sfm rx then true else s.timing.frmBefore := by
  rcases hc with ⟨rfl, hst⟩ | ⟨rfl, hrole, hst⟩
  · exact ⟨s.timing.frmBefore, pulse, rfl, hst, (if_neg (by simp)).symm⟩
  · refine ⟨true, true, ?_, .inr ⟨rfl, hst⟩, (if_pos rfl).symm⟩
    rw [exec_frmPulse_tracking hrole hst, if_pos rfl]
    rfl

theorem State.timing_frameStart (s : State) (first ended : Bool) (rx : LineOctets) :
    (s.frameStart first ended rx).timing = s.timing.counted first s.pins.sfm := by
  rw [State.frameStart_eq]

theorem State.pins_frameStart (s : State) (first ended : Bool) (rx : LineOctets) :
    (s.frameStart first ended rx).pins = s.pins := by
  rw [State.frameStart_eq]
  exact s.worksTo_settle.pins

/-- The levels of SFO and FRM in the first bit period of a frame (R93, R106). -/
theorem State.outputs_firstBit (hst : s.timing.state ≠ .acquiring) (hbit : s.bitPeriod = 0) :
    s.sfo = s.manager.frame.superframe
      ∧ s.frmDriven = if s.timing.role = .master then some true else none := by
  rw [State.sfo, State.framesRun_of_ne hst, State.frmDriven, hbit]
  exact ⟨by simp, rfl⟩

/-- Settles O28: a frame start and the pulse itself end the frame alike, and the counts are those of the
frame start that follows. -/
theorem frameStartsAdvanceTheCounts : Obligations.FrameStartsAdvanceTheCounts := by
  unfold Obligations.FrameStartsAdvanceTheCounts
  intro s pulse sfm rx c hc
  obtain ⟨frm, b, hexec, hstep, hfrm⟩ := exec_frameEnds_inStep hc
  obtain ⟨v, hv, hnext⟩ := State.frameEnds_inStep (s := s.atLevels sfm frm) hstep rx
  have htime := hnext.timing
  have hsfm : v.pins.sfm = sfm := congrArg Pins.sfm hnext.pins
  have hbegins : s.BeginsFrame (v.frameStart false true rx) rx (s.timing.superframeNext sfm) := by
    refine ((s.retimes_atLevels sfm frm).trans hnext.retimes).beginsFrame rx _ ?_
    rw [Timing.startsSuperframe_false, hsfm, htime]
    rfl
  have hpins : (v.frameStart false true rx).pins = { s.pins with sfm := sfm } :=
    (v.pins_frameStart _ _ _).trans hnext.pins
  have hflag : s.timing.state = .holdover →
      (v.frameStart false true rx).events.flags.getLsbD 0 = true :=
    fun hh => State.flag_frameStart (hnext.flag hh) _ _ _
  have htiming := v.timing_frameStart false true rx
  rw [hsfm] at htiming
  rw [hv] at hexec
  generalize v.frameStart false true rx = t at hexec hbegins hpins hflag htiming
  have hrole : t.timing.role = s.timing.role := by
    rw [htiming]
    exact (congrArg Timing.role htime :)
  have hstate : t.timing.state = if s.timing.state = .freeRun then .freeRun else .locked := by
    rw [htiming]
    exact (congrArg Timing.state htime :)
  refine ⟨t, hexec, ?_, ?_, hrole, hstate, ?_, hflag, hpins, hbegins, fun hclock => ?_⟩
  · rw [htiming]
    exact Timing.advances_counted (t := { v.timing with frmBefore := s.timing.frmBefore }) sfm
      (by rw [htime]; rfl)
  · rw [htiming, ← hfrm]
    exact (congrArg Timing.frmBefore htime :)
  · rw [htiming]
    exact (congrArg Timing.holdoverCount htime :)
  · have hruns : t.timing.state ≠ .acquiring := by
      rw [hstate]
      split <;> nofun
    have hbit : t.bitPeriod = 0 := by
      rw [State.bitPeriod, htiming]
      show v.timing.clock - v.timing.frameAt = 0
      rw [htime]
      show max s.timing.clock (s.timing.frameAt + 320) - (s.timing.frameAt + 320) = 0
      rw [max_eq_right hclock, Nat.sub_self]
    obtain ⟨-, -, -, -, hframe, -⟩ := hbegins
    obtain ⟨hsfo, hdriven⟩ := State.outputs_firstBit hruns hbit
    exact ⟨hsfo.trans (congrArg FrameInfo.superframe hframe), hrole ▸ hdriven⟩

end Sys2Proof.Machine
end

-- ==== Proofs: what a superframe start drives ====
section
/-! SUPPORT. A superframe start at the lease divider and at the Referral Unit, link by link (R110,
R171). -/

namespace Sys2Proof.Machine

-- The proofs are elaborated one after another: many at once take the text past its memory limit.
set_option Elab.async false

variable {s : State} {j k : LinkNo}

/-! ## The referral counts -/

/-- A WAITING referral after a superframe start (R171). -/
def Referral.counted (r : Referral) : Referral :=
  if r.remaining ≠ 0 then { r with remaining := r.remaining - 1 } else r

/-- The timeout that the next superframe start hands on for a link (R171). -/
def State.nextTimeout (s : State) (k : LinkNo) : Option Timeout :=
  (s.referral k).bind fun r =>
    if r.remaining = 1 then some ⟨k, r.circuit, r.generation⟩ else none

/-- A referral record that is EMPTY, or whose count has run out, is left alone (R171). -/
theorem State.countReferral_idle (h : ∀ r, s.referral k = some r → r.remaining = 0) :
    s.countReferral k = s := by
  unfold State.countReferral
  split
  · rfl
  · next r hr => exact if_pos (h r hr)

/-- A count above 0 is reduced, and its timeout handed on where it was the last (R171). -/
theorem State.countReferral_waiting {r : Referral} (hr : s.referral k = some r)
    (h0 : r.remaining ≠ 0) : s.countReferral k = (s.setReferral k (some r.counted)).setTimeouts
      (s.manager.timeouts ++ (s.nextTimeout k).toList) := by
  have hcounted : r.counted = { r with remaining := r.remaining - 1 } := if_pos h0
  rw [State.countReferral, State.nextTimeout, hr, hcounted]
  dsimp only [Option.bind_some]
  rw [if_neg h0]
  by_cases h1 : r.remaining = 1
  · rw [if_pos h1, if_pos h1]
    rfl
  · rw [if_neg h1, if_neg h1, Option.toList_none, List.append_nil]
    rfl

theorem State.setTimeouts_referral (s : State) (ts : List Timeout) (k : LinkNo) :
    (s.setTimeouts ts).referral k = s.referral k := rfl

/-- What the referral of each link becomes when one link's is counted (R171). -/
theorem State.referral_countReferral (s : State) (k j : LinkNo) : (s.countReferral k).referral j =
    if k = j then (s.referral j).map Referral.counted else s.referral j := by
  by_cases hidle : ∀ r, s.referral k = some r → r.remaining = 0
  · rw [State.countReferral_idle hidle]
    split
    · next e =>
      subst e
      cases hr : s.referral k with
      | none => rfl
      | some r => simp [Referral.counted, hidle r hr]
    · rfl
  · push Not at hidle
    obtain ⟨r, hr, h0⟩ := hidle
    rw [State.countReferral_waiting hr h0, State.setTimeouts_referral, State.referral_setReferral]
    split
    · next e => rw [← e, hr, Option.map_some]
    · rfl

/-- The timeouts handed on once one link's referral is counted (R171). -/
theorem State.timeouts_countReferral (s : State) (k : LinkNo) :
    (s.countReferral k).manager.timeouts = s.manager.timeouts ++ (s.nextTimeout k).toList := by
  by_cases hidle : ∀ r, s.referral k = some r → r.remaining = 0
  · rw [State.countReferral_idle hidle, State.nextTimeout]
    cases hr : s.referral k with
    | none => simp
    | some r => simp [hidle r hr]
  · push Not at hidle
    obtain ⟨r, hr, h0⟩ := hidle
    rw [State.countReferral_waiting hr h0]
    rfl

/-- The count of one link's referral leaves the timeout of any other. -/
theorem State.nextTimeout_countReferral (h : k ≠ j) :
    (s.countReferral k).nextTimeout j = s.nextTimeout j := by
  rw [State.nextTimeout, State.referral_countReferral, if_neg h]
  rfl

theorem State.referral_foldl_countReferral (j : LinkNo) : ∀ (ks : List LinkNo) (s : State), ks.Nodup →
    (ks.foldl State.countReferral s).referral j =
      if j ∈ ks then (s.referral j).map Referral.counted else s.referral j
  | [], _, _ => by simp
  | k :: ks, s, hnd => by
    obtain ⟨hk, hks⟩ := List.nodup_cons.mp hnd
    rw [List.foldl_cons, State.referral_foldl_countReferral j ks _ hks,
      State.referral_countReferral]
    by_cases hj : k = j
    · subst hj
      simp [hk]
    · simp [hj, Ne.symm hj]

theorem State.timeouts_foldl_countReferral : ∀ (ks : List LinkNo) (s : State), ks.Nodup →
    (ks.foldl State.countReferral s).manager.timeouts
      = s.manager.timeouts ++ ks.filterMap s.nextTimeout
  | [], _, _ => by simp
  | k :: ks, s, hnd => by
    obtain ⟨hk, hks⟩ := List.nodup_cons.mp hnd
    have hrest : ks.filterMap (s.countReferral k).nextTimeout = ks.filterMap s.nextTimeout :=
      List.filterMap_congr fun j hj => State.nextTimeout_countReferral fun e => hk (e ▸ hj)
    rw [List.foldl_cons, State.timeouts_foldl_countReferral ks _ hks,
      State.timeouts_countReferral, hrest, List.append_assoc, List.filterMap_cons]
    cases s.nextTimeout k <;> rfl

/-! ## What the Circuit Manager catches up with leaves the referrals -/

theorem State.referrals_serveWaiting (n : Nat) (s : State) :
    (s.serveWaiting n).referrals = s.referrals :=
  State.serveWaiting_keeps (P := fun u => u.referrals = s.referrals) (fun _ _ hu _ _ => hu) n s rfl

theorem State.referrals_applyDue (s : State) : s.applyDue.referrals = s.referrals := by
  have happlied := foldl_keeps (P := fun u : State => u.referrals = s.referrals)
    (fun u e hu => (u.actsOn_applyEntry s.manager.frame e).referrals.trans hu)
    (s.manager.queue.filter fun e => s.due e) s rfl
  exact (State.referrals_serveWaiting _ _).trans happlied

theorem State.referrals_leaseTick (s : State) : s.leaseTick.referrals = s.referrals :=
  (State.referrals_serveWaiting _ _).trans s.referrals_tickExpired

/-- Neither an application step nor a lease tick writes a referral (R62, R112). -/
theorem State.referrals_settle (s : State) : s.settle.referrals = s.referrals := by
  have happ : s.takeApplication.referrals = s.referrals := by
    unfold State.takeApplication
    split
    · exact State.referrals_applyDue _
    · rfl
  unfold State.settle State.takeTick
  split
  · exact (State.referrals_leaseTick _).trans happ
  · exact happ

/-! ## The superframe start -/

/-- A frame start is a superframe start where it is that of R96, or where the counts make it one (R102,
R103). -/
theorem Timing.startsSuperframe_iff (first sfm : Bool) (t : Timing) :
    t.startsSuperframe first sfm = true ↔ first = true ∨ t.superframeNext sfm := by
  cases first with
  | true => simp [Timing.startsSuperframe]
  | false => rw [Timing.startsSuperframe_false, decide_eq_true_iff]; simp

theorem State.handSuperframe_tickDue (s : State) (superframe : Bool) :
    (s.handSuperframe superframe).manager.tickDue =
      (s.manager.tickDue || (superframe && s.manager.divider == 63)) := by
  cases superframe with
  | false => simp [State.handSuperframe]
  | true =>
    rw [show s.handSuperframe true = s.advanceDivider.countReferrals from rfl, State.countReferrals_eq]
    rfl

theorem State.handSuperframe_referral (s : State) (superframe : Bool) (k : LinkNo) :
    (s.handSuperframe superframe).referral k = (s.referral k).map fun r =>
      if superframe ∧ r.remaining ≠ 0 then { r with remaining := r.remaining - 1 } else r := by
  cases superframe with
  | false => simp [State.handSuperframe]
  | true =>
    have h := State.referral_foldl_countReferral k _ s.advanceDivider (List.nodup_finRange 8)
    rw [if_pos (List.mem_finRange k)] at h
    refine h.trans (congrArg (Option.map · (s.referral k)) (funext fun r => ?_))
    simp [Referral.counted]

theorem State.handSuperframe_timeouts (s : State) (superframe : Bool) :
    (s.handSuperframe superframe).manager.timeouts = s.manager.timeouts
      ++ (List.finRange 8).filterMap fun k => if superframe then s.nextTimeout k else none := by
  cases superframe with
  | false => simp [State.handSuperframe]
  | true =>
    have hhere : s.advanceDivider.nextTimeout = s.nextTimeout := rfl
    rw [show s.handSuperframe true = s.advanceDivider.countReferrals from rfl, State.countReferrals,
      State.timeouts_foldl_countReferral _ _ (List.nodup_finRange 8), hhere]
    simp

/-- Settles O30: the lease tick outstanding has been taken, and the referrals stand as they were, when a
superframe start is handed on. -/
theorem superframeStartsDriveLeasesAndReferrals :
    Obligations.SuperframeStartsDriveLeasesAndReferrals := by
  unfold Obligations.SuperframeStartsDriveLeasesAndReferrals
  intro s first ended rx superframe hsup
  have hstarts : s.timing.startsSuperframe first s.pins.sfm = superframe := by
    rw [Bool.eq_iff_iff, Timing.startsSuperframe_iff, hsup]
  have hwork := s.worksTo_settle
  have htick : s.settle.manager.tickDue = false := hwork.tickDue
  have hdivider : s.settle.manager.divider = s.manager.divider := hwork.divider
  have htimeouts : s.settle.manager.timeouts = s.manager.timeouts := hwork.timeouts
  have hreferral : ∀ k, s.settle.referral k = s.referral k := fun k =>
    congrArg (fun x => x.records[k]) s.referrals_settle
  have hhanded := State.frameStart_handed first ended rx s
  rw [hstarts] at hhanded
  refine ⟨_, rfl, ?_, ?_, fun k => ?_, ?_⟩
  · rw [State.frameStart_eq, hstarts]
  · rw [hhanded, State.handSuperframe_tickDue]
    show (s.settle.manager.tickDue || (superframe && s.settle.manager.divider == 63)) = _
    rw [htick, hdivider, Bool.false_or]
  · rw [hhanded, State.handSuperframe_referral]
    show (s.settle.referral k).map _ = _
    rw [hreferral]
  · rw [hhanded, State.handSuperframe_timeouts]
    show s.settle.manager.timeouts ++ _ = _
    rw [htimeouts]
    refine congrArg (s.manager.timeouts ++ ·) (List.filterMap_congr fun k _ => ?_)
    show (if superframe then s.settle.nextTimeout k else none) = _
    rw [State.nextTimeout, hreferral]
    cases s.referral k with
    | none => exact ite_self none
    | some r => cases superframe <;> simp

end Sys2Proof.Machine
end

-- ==== Proofs: a link stopped, started and brought up ====
section
/-! SUPPORT. A link without a session: ENABLE, the end of a session, and the arrivals that count
withdrawal and presence (R126, R127, R130 to R133). -/

namespace Sys2Proof.Machine

-- The proofs are elaborated one after another: many at once take the text past its memory limit.
set_option Elab.async false

variable {s : State} {k : LinkNo} {chan hs : Byte}

/-- The LINK k event is the flag that the statements name (R192). -/
theorem flagBit_linkEvent (k : LinkNo) : flagBit (linkEvent k) = linkFlag k := by
  revert k
  decide

/-! ## The end of a session -/

/-- Where a session ends, so does the referral of its link (R133, R175). -/
theorem State.referralEnded_endSession (s : State) (k : LinkNo) (l : Link) :
    s.ReferralEnded (s.endSession k l) k := by
  refine ⟨fun j => s.referral_endSession k j l, ?_⟩
  have hmanager : (s.endSession k l).manager = (s.endReferral k).manager := rfl
  cases hr : s.referral k with
  | none => exact hmanager.trans (by rw [State.endReferral, hr])
  | some r =>
    have hfree : (s.endSession k l).manager = (s.freeRecord r.circuit).manager :=
      hmanager.trans (by rw [State.endReferral, hr]; rfl)
    exact ⟨fun i => (State.record_congr (congrArg Manager.table hfree) i).trans
        (s.record_freeRecord _ i),
      fun p a q => (State.entry_congr (congrArg Manager.map hfree) p a q).trans
        (s.mapBecomes_freeRecord _ p a q),
      (congrArg Manager.attentionCount hfree).trans (by rw [State.freeRecord_eq])⟩

/-- Ending a session touches neither the mailbox nor the change queue. -/
theorem State.keepsElsewhere_endSession (s : State) (k : LinkNo) (l : Link) :
    s.KeepsElsewhere (s.endSession k l) ∧ (s.endSession k l).mailbox = s.mailbox
      ∧ (s.endSession k l).manager.queue = s.manager.queue
      ∧ (s.endSession k l).events = s.events := by
  rw [State.KeepsElsewhere, State.endSession_elsewhere]
  exact ⟨rfl, rfl, rfl, rfl⟩

/-! ## ENABLE -/

theorem State.enableLink_disabled (h : (s.link k).state = .disabled) : s.enableLink k =
    (s.setLink k { (s.link k).enterAbsent with enable := true }).raise (linkEvent k) := if_pos h

/-- Settles O32: a stop ends the session and its referral, a start begins withdrawal. -/
theorem enableWritesStopAndStartALink : Obligations.EnableWritesStopAndStartALink := by
  unfold Obligations.EnableWritesStopAndStartALink
  refine fun s k => ⟨fun v => ⟨s.writePolicy k (v.getLsbD 1), rfl,
    fun j => s.refers_writePolicy k j _, ?_⟩,
    fun h => congrArg Host.Outcome.next (if_pos h), fun h => congrArg Host.Outcome.next (if_neg h),
    fun h => ?_, fun h => ?_⟩
  · refine (congrArg Host.Outcome.next (s.writeRegister_linkControl k v)).trans ?_
    rw [State.writeLinkControl]
    cases v.getLsbD 0 <;> rfl
  · refine ⟨_, congrArg Host.Outcome.next (State.enableLink_disabled h), ?_, fun j => ?_, ?_⟩
    · rw [← flagBit_linkEvent]; rfl
    · exact s.link_setLink k j _
    · refine (congrArg (fun l => (Link.beginFrame l).presented) (s.link_setLink k k _)).trans ?_
      rw [if_pos rfl]
      unfold Link.beginFrame Link.enterAbsent Link.cutPair
      cases (s.link k).arrived <;> rfl
  · obtain ⟨hkeeps, hmailbox, hqueue, hevents⟩ :=
      s.keepsElsewhere_endSession k (s.link k).clear.switchOff
    refine ⟨_, congrArg Host.Outcome.next (State.disableLink_eq h), hkeeps.trans rfl, hmailbox,
      hqueue, ?_, s.referralEnded_endSession k (s.link k).clear.switchOff,
      fun j => s.link_endSession k j _, ?_⟩
    · rw [← flagBit_linkEvent, ← hevents]; rfl
    · refine (congrArg (fun l => (Link.beginFrame l).presented)
        (s.link_endSession k k (s.link k).clear.switchOff)).trans ?_
      rw [if_pos rfl]
      unfold Link.beginFrame Link.switchOff Link.resetItems Link.cutPair
      cases (s.link k).clear.arrived <;> simp [Link.pairNow]

/-! ## Arrivals without a session -/

/-- The presence field carries the valid code (R127). -/
theorem handshakePresent_iff : handshakePresent hs = true ↔ hs.extractLsb' 5 3 = 5 := beq_iff_eq

/-- While frames are absent no arrival is handled (R85, R88). -/
theorem State.arrival_acquiring (h : s.timing.state = .acquiring) : s.arrival k chan hs = s :=
  if_pos h

/-- An arrival in DISABLED presents the pair and does nothing else (R127). -/
theorem State.arrival_disabled (hrun : s.timing.state ≠ .acquiring)
    (h : (s.link k).state = .disabled) :
    s.arrival k chan hs = s.setLink k (s.link k).present := by
  rw [State.arrival, if_neg hrun]
  simp only [h]

theorem State.arrival_absent (hrun : s.timing.state ≠ .acquiring)
    (h : (s.link k).state = .absent) : s.arrival k chan hs =
      (s.absentArrival k (handshakePresent hs)).setLink k
        ((s.absentArrival k (handshakePresent hs)).link k).present := by
  rw [State.arrival, if_neg hrun]
  simp only [h]

/-- An arrival in ABSENT that leaves the link there (R131). -/
theorem State.arrival_staysAbsent (hrun : s.timing.state ≠ .acquiring)
    (h : (s.link k).state = .absent) {l : Link}
    (hl : s.absentArrival k (handshakePresent hs) = s.setLink k l) :
    s.arrival k chan hs = s.setLink k l.present := by
  rw [State.arrival_absent hrun h, hl, State.setLink_setLink, State.link_setLink, if_pos rfl]

/-- The pair that DISABLED presents (R128, R130). -/
theorem Link.present_disabled {l : Link} (h : l.state = .disabled) :
    l.present = { l with presented := ⟨0xFF, 0xFF, .other⟩, arrived := true } := by
  rw [Link.present, Link.pairNow, h]

/-- The pair that ABSENT presents (R128, R131). -/
theorem Link.present_absent {l : Link} (h : l.state = .absent) : l.present = { l with
    presented := if 0 < l.withdrawal then ⟨0xFF, 0xFF, .withdrawal⟩ else ⟨0xFF, 0xA2, .ready⟩
    arrived := true } := by
  rw [Link.present, Link.pairNow, h]
  rfl

/-- What the arrivals of a link in ABSENT do short of the one that brings it UP (R131): withdrawal
is counted down, nothing is counted, or presence is counted or set back. -/
def Link.countPresence (valid : Bool) (l : Link) : Link :=
  match l.presented.kind with
  | .withdrawal => { l with withdrawal := l.withdrawal - 1 }
  | .other => l
  | .ready => { l with presence := if valid then l.presence + 1 else 0 }

theorem Link.countPresence_state (valid : Bool) (l : Link) :
    (l.countPresence valid).state = l.state := by
  unfold Link.countPresence
  split <;> rfl

/-- The arrival is the fourth in a row with valid presence (R131). -/
abbrev Link.BringsUp (valid : Bool) (l : Link) : Prop :=
  l.presented.kind = .ready ∧ valid = true ∧ 3 ≤ l.presence

theorem State.setLink_link (s : State) (k : LinkNo) : s.setLink k (s.link k) = s := by
  have hset : s.links.set k (s.link k) = s.links := Vector.set_getElem_self _
  rw [State.setLink, hset]

theorem State.absentArrival_counts {valid : Bool} (h : ¬(s.link k).BringsUp valid) :
    s.absentArrival k valid = s.setLink k ((s.link k).countPresence valid) := by
  cases hkind : (s.link k).presented.kind with
  | withdrawal => simp only [State.absentArrival, Link.countPresence, hkind]
  | other => simp only [State.absentArrival, Link.countPresence, hkind, State.setLink_link]
  | ready =>
    simp only [State.absentArrival, Link.countPresence, hkind]
    cases valid with
    | false => rfl
    | true =>
      have h3 : ¬Config.presenceFrames ≤ (s.link k).presence + 1 := fun h4 =>
        h ⟨hkind, rfl, Nat.le_of_succ_le_succ h4⟩
      simp only [if_true, if_neg h3]

theorem State.absentArrival_bringsUp {valid : Bool} (h : (s.link k).BringsUp valid) :
    s.absentArrival k valid =
      (s.setLink k { s.link k with presence := (s.link k).presence + 1 }.enterUp).raise
        (linkEvent k) := by
  obtain ⟨hkind, hvalid, h3⟩ := h
  have h4 : Config.presenceFrames ≤ (s.link k).presence + 1 := Nat.succ_le_succ h3
  simp only [State.absentArrival, hkind, hvalid, if_true, if_pos h4]

/-- The arrival that brings a link UP presents the first pair of the session (R126, R131). -/
theorem State.arrival_entersUp (hrun : s.timing.state ≠ .acquiring)
    (h : (s.link k).state = .absent) (hup : (s.link k).BringsUp (handshakePresent hs)) :
    s.arrival k chan hs = (s.setLink k
      { s.link k with presence := (s.link k).presence + 1 }.enterUp.present).raise
        (linkEvent k) := by
  have hlink : ∀ l, ((s.setLink k l).raise (linkEvent k)).link k = l := fun l =>
    (s.link_setLink k k l).trans (if_pos rfl)
  rw [State.arrival_absent hrun h, State.absentArrival_bringsUp hup, hlink]
  exact congrArg (State.raise (linkEvent k)) (s.setLink_setLink k _ _)

/-- Settles O44: the pair that the frame carried says what an arrival in ABSENT counts. -/
theorem arrivalsBringALinkUp : Obligations.ArrivalsBringALinkUp := by
  unfold Obligations.ArrivalsBringALinkUp
  refine fun s k chan hs => ⟨fun h => congrArg Host.Outcome.next (State.arrival_acquiring h),
    fun hrun h => ?_, fun hrun h => ?_⟩
  · refine ⟨_, congrArg Host.Outcome.next (State.arrival_disabled hrun h), rfl, fun j => ?_⟩
    rw [State.link_setLink, Link.present_disabled h]
  · by_cases hup : (s.link k).BringsUp (handshakePresent hs)
    · obtain ⟨hkind, hvalid, h3⟩ := hup
      refine ⟨_, congrArg Host.Outcome.next
        (State.arrival_entersUp hrun h ⟨hkind, hvalid, h3⟩), rfl, fun j hj => ?_, fun hk => ?_,
        fun hk => ?_, fun _ hshort => ?_, fun _ _ _ => ⟨?_, ?_⟩⟩
      · exact (s.link_setLink k j _).trans (if_neg hj.symm)
      · rw [hkind] at hk; cases hk
      · rw [hkind] at hk; cases hk
      · exact absurd h3 (hshort.elim (absurd (handshakePresent_iff.mp hvalid)) Nat.not_le_of_lt)
      · rw [← flagBit_linkEvent]; rfl
      · exact (s.link_setLink k k _).trans (if_pos rfl)
    · have hst : ((s.link k).countPresence (handshakePresent hs)).state = .absent :=
        (Link.countPresence_state _ _).trans h
      have hl := (s.link_setLink k k
        ((s.link k).countPresence (handshakePresent hs)).present).trans (if_pos rfl)
      refine ⟨_, congrArg Host.Outcome.next
        (State.arrival_staysAbsent hrun h (State.absentArrival_counts hup)), rfl, fun j hj => ?_,
        fun hk => ⟨rfl, hl.trans ?_⟩, fun hk => ⟨rfl, hl.trans ?_⟩, fun hk _ => ⟨rfl, hl.trans ?_⟩,
        fun hk hv h3 => ?_⟩
      · exact (s.link_setLink k j _).trans (if_neg hj.symm)
      · rw [Link.present_absent hst]
        simp only [Link.countPresence, hk, Nat.sub_pos_iff_lt]
      · rw [Link.present_absent hst]
        simp only [Link.countPresence, hk]
      · rw [Link.present_absent hst]
        simp only [Link.countPresence, hk, handshakePresent_iff]
      · exact absurd ⟨hk, handshakePresent_iff.mpr hv, h3⟩ hup

end Sys2Proof.Machine
end

-- ==== Proofs: an arrival in a session ====
section
/-! SUPPORT. The steps of an arrival in UP or STALLED, in their order (R134): what sending leaves of
receiving and receiving of sending, and the ends of step 6. -/

namespace Sys2Proof.Machine

-- The proofs are elaborated one after another: many at once take the text past its memory limit.
set_option Elab.async false

variable {s : State} {k : LinkNo} {chan hs : Byte} {l m : Link}

/-! ## The session ends, or its channel hears the arrival -/

@[simp] theorem State.link_raise (s : State) (c : Nat) (k : LinkNo) :
    (s.raise c).link k = s.link k := rfl

theorem State.arrival_session (hrun : s.timing.state ≠ .acquiring)
    (h : (s.link k).state = .up ∨ (s.link k).state = .stalled) : s.arrival k chan hs =
      (s.sessionArrival k (handshakePresent hs) chan hs).setLink k
        ((s.sessionArrival k (handshakePresent hs) chan hs).link k).present := by
  rw [State.arrival, if_neg hrun]
  rcases h with h | h <;> simp only [h]

/-- What the fourth arrival in a row with invalid presence makes of a link (R126, R131 to R133). -/
def Link.lost (l : Link) : Link := ({ l with loss := 4 } : Link).clear.enterAbsent.present

theorem State.arrival_losesSession (hrun : s.timing.state ≠ .acquiring)
    (h : (s.link k).state = .up ∨ (s.link k).state = .stalled) (hloss : (s.link k).loss = 3)
    (hinvalid : hs.extractLsb' 5 3 ≠ 5) : s.arrival k chan hs =
      (s.endSession k (s.link k).lost).raise (linkEvent k) := by
  have hvalid : handshakePresent hs = false :=
    Bool.eq_false_iff.mpr fun hv => hinvalid (handshakePresent_iff.mp hv)
  have hnext : (s.link k).nextLoss false = 4 := congrArg (· + 1) hloss
  have hend : s.sessionArrival k false chan hs =
      (s.endSession k ({ s.link k with loss := 4 } : Link).clear.enterAbsent).raise
        (linkEvent k) := by
    rw [State.sessionArrival, hnext]
    exact (if_pos (Nat.le_refl 4)).trans (s.loseSession_setLink k _)
  rw [State.arrival_session hrun h, hvalid, hend]
  have hlink := s.link_endSession k k ({ s.link k with loss := 4 } : Link).clear.enterAbsent
  rw [if_pos rfl] at hlink
  rw [State.link_raise, hlink]
  exact congrArg (State.raise (linkEvent k)) (State.setLink_setLink _ k _ _)

/-- The loss count of an arrival that the session outlives (R132). -/
theorem State.ArrivesInSession.nextLoss_lt (h : s.ArrivesInSession k hs) :
    ¬Config.lossFrames ≤ (s.link k).nextLoss (handshakePresent hs) := by
  obtain ⟨-, -, hv | hl⟩ := h
  · simp [handshakePresent_iff.mpr hv, Link.nextLoss, Config.lossFrames]
  · cases handshakePresent hs <;> simp [Link.nextLoss, Config.lossFrames]
    omega

/-- The loss count of an arrival is written (R132). -/
def Link.noteLoss (hs : Byte) (l : Link) : Link :=
  { l with loss := l.nextLoss (handshakePresent hs) }

/-- The channel once steps 1 to 5 of an arrival are done (R134). -/
def Link.sent (cfg : Settings) (hs : Byte) (l : Link) : Link :=
  if l.state = .up then
    (l.noteLoss hs).sendSteps cfg.ackTimeout (handshakePresent hs) (hs.getLsbD 1) (hs.getLsbD 0)
  else ((l.noteLoss hs).seeRefusal (handshakePresent hs) (hs.getLsbD 0)).dropRefused

/-- The channel once step 6 of an arrival is done (R134). -/
def Link.heard (cfg : Settings) (chan hs : Byte) (l : Link) : Link :=
  (l.sent cfg hs).receiveStep cfg (handshakePresent hs) (shownBy chan hs)

/-- An arrival that a session outlives is the matter of its channel alone, and raises LINK k where
the link stalls (R134, R138). -/
theorem State.arrival_heard (h : s.ArrivesInSession k hs) (chan : Byte) : ∃ t,
    s.arrival k chan hs = t
      ∧ t = { s with links := t.links, events := { s.events with flags := t.events.flags } }
      ∧ (∀ j : LinkNo, j ≠ k → t.link j = s.link j)
      ∧ t.link k = ((s.link k).heard s.settings chan hs).present
      ∧ ((s.link k).state = .up → ((s.link k).heard s.settings chan hs).state = .stalled →
        t.events.flags = s.events.flags ||| linkFlag k)
      ∧ (((s.link k).heard s.settings chan hs).state = (s.link k).state → t.events = s.events) := by
  have hsession : s.sessionArrival k (handshakePresent hs) chan hs =
      if (s.link k).state = .up ∧ ((s.link k).heard s.settings chan hs).state = .stalled then
        (s.setLink k ((s.link k).heard s.settings chan hs)).raise (linkEvent k)
      else s.setLink k ((s.link k).heard s.settings chan hs) := by
    refine (if_neg h.nextLoss_lt).trans ?_
    rw [State.setLink_setLink]
    rfl
  refine ⟨_, rfl, ?_⟩
  rw [State.arrival_session h.1 h.2.1, hsession, ← flagBit_linkEvent]
  split
  · next hst =>
    refine ⟨rfl, fun j hj => by simp [hj.symm], by simp, fun _ _ => rfl, fun he => ?_⟩
    rw [hst.1, hst.2] at he
    cases he
  · next hst =>
    exact ⟨rfl, fun j hj => by simp [hj.symm], by simp, fun hup h => absurd ⟨hup, h⟩ hst,
      fun _ => rfl⟩

/-! ## What sending leaves of receiving -/

/-- No RESULT is HELD (R161). -/
abbrev Link.HoldsNothing (l : Link) : Prop := ∀ q ∈ l.inProcess, ∀ m, q.phase ≠ .held m

/-- A channel with everything that sending writes blanked out. -/
def Link.receiving (l : Link) : Link :=
  { l with
    state := .absent
    sendSeq := false
    onOffer := none
    ackCount := 0
    refusalSeen := 0
    refusalLatch := false
    inProcess := none
    outbound := [] }

/-- What of a channel only receiving and the loss count write. -/
theorem Link.receiving_eq (h : m.receiving = l.receiving) : m.loss = l.loss
    ∧ m.expectedSeq = l.expectedSeq ∧ m.receiveAck = l.receiveAck ∧ m.assembly = l.assembly
    ∧ m.run = l.run ∧ m.before = l.before ∧ m.assemblyCount = l.assemblyCount
    ∧ m.refusalDisplay = l.refusalDisplay :=
  ⟨(congrArg Link.loss h :), (congrArg Link.expectedSeq h :), (congrArg Link.receiveAck h :),
    (congrArg Link.assembly h :), (congrArg Link.run h :), (congrArg Link.before h :),
    (congrArg Link.assemblyCount h :), (congrArg Link.refusalDisplay h :)⟩

/-- A step of sending leaves the receive machine alone, and the request in process unless its RESULT
is HELD (R161). -/
structure Link.SendsOnly (l l' : Link) : Prop where
  receiving : l'.receiving = l.receiving
  request : l'.inProcess = l.inProcess ∨ ¬l.HoldsNothing ∧ l'.inProcess = none

theorem Link.SendsOnly.refl (l : Link) : l.SendsOnly l := ⟨rfl, .inl rfl⟩

theorem Link.SendsOnly.trans {a b c : Link} (h : a.SendsOnly b) (g : b.SendsOnly c) :
    a.SendsOnly c where
  receiving := g.receiving.trans h.receiving
  request := by
    rcases h.request with h1 | ⟨h1, h2⟩
    · rcases g.request with g1 | ⟨g1, g2⟩
      · exact .inl (g1.trans h1)
      · exact .inr ⟨by rwa [Link.HoldsNothing, h1] at g1, g2⟩
    · exact .inr ⟨h1, g.request.elim (·.trans h2) And.right⟩

theorem Link.enterHeld_holdsNothing (h : l.HoldsNothing) : l.enterHeld = l := by
  rcases l.enterHeld_cases with e | ⟨a, b, c, m, hp, -, -⟩
  · exact e
  · exact absurd rfl (h _ hp m)

/-- A HELD RESULT joins the queue where it has room (R161). -/
theorem Link.enterHeld_held {q : InProcess} {m : List Byte} (hq : l.inProcess = some q)
    (hm : q.phase = .held m) (hr : l.outbound.length < 4) :
    l.enterHeld = { l with outbound := l.outbound ++ [m], inProcess := none } := by
  obtain ⟨a, b, c, p⟩ := q
  obtain rfl : p = .held m := hm
  rw [Link.enterHeld, hq]
  exact if_pos hr

theorem Link.sendsOnly_enterHeld (hr : m.receiving = l.receiving)
    (hp : m.inProcess = l.inProcess) : l.SendsOnly m.enterHeld := by
  by_cases h : m.HoldsNothing
  · rw [Link.enterHeld_holdsNothing h]
    exact ⟨hr, .inl hp⟩
  · rcases m.enterHeld_cases with e | ⟨a, b, c, x, -, -, e⟩ <;> rw [e]
    · exact ⟨hr, .inl hp⟩
    · exact ⟨hr, .inr ⟨by rwa [Link.HoldsNothing, hp] at h, rfl⟩⟩

theorem Link.sendsOnly_acknowledge (l : Link) : l.SendsOnly l.acknowledge := by
  unfold Link.acknowledge
  split
  · exact .refl l
  · split
    · exact ⟨rfl, .inl rfl⟩
    · exact Link.sendsOnly_enterHeld rfl rfl

/-- The count of refusals and its latch are all that a REFUSE bit touches before it is recognised
(R137). -/
theorem Link.seeRefusal_eq (l : Link) (v r : Bool) : l.seeRefusal v r = { l with
    refusalSeen := (l.seeRefusal v r).refusalSeen
    refusalLatch := (l.seeRefusal v r).refusalLatch } := by
  unfold Link.seeRefusal
  split_ifs <;> rfl

theorem Link.sendsOnly_settled (l : Link) (v r : Bool) :
    l.SendsOnly (l.seeRefusal v r).dropRefused := by
  rw [Link.seeRefusal_eq]
  unfold Link.dropRefused
  split
  · dsimp only
    split
    · exact Link.sendsOnly_enterHeld rfl rfl
    · exact ⟨rfl, .inl rfl⟩
  · exact ⟨rfl, .inl rfl⟩

theorem Link.sendsOnly_countAck (l : Link) (t : Byte) : l.SendsOnly (l.countAck t) := by
  unfold Link.countAck Link.stall
  dsimp only
  split
  · exact Link.sendsOnly_enterHeld rfl rfl
  · exact ⟨rfl, .inl rfl⟩

theorem Link.sendsOnly_offerHead (l : Link) : l.SendsOnly l.offerHead := by
  unfold Link.offerHead
  split <;> exact ⟨rfl, .inl rfl⟩

theorem Link.sendsOnly_sendSteps (l : Link) (t : Byte) (v a r : Bool) :
    l.SendsOnly (l.sendSteps t v a r) := by
  rcases l.sendSteps_cases t v a r with ⟨m, hm, e⟩ | ⟨-, -, e⟩ <;> rw [e]
  · have hm' : l.SendsOnly m := by
      rcases hm with rfl | rfl
      · exact .refl _
      · exact l.sendsOnly_acknowledge
    exact (hm'.trans (m.sendsOnly_settled v r)).trans (Link.sendsOnly_offerHead _)
  · exact ((l.sendsOnly_settled v r).trans (Link.sendsOnly_countAck _ t)).trans
      (Link.sendsOnly_offerHead _)

/-- The loss count is written, and then sending alone goes on (R132, R134). -/
theorem Link.sendsOnly_sent (cfg : Settings) (hs : Byte) (l : Link) :
    (l.noteLoss hs).SendsOnly (l.sent cfg hs) := by
  unfold Link.sent
  split
  · exact Link.sendsOnly_sendSteps _ _ _ _ _
  · exact Link.sendsOnly_settled _ _ _

/-! ## What receiving leaves of sending -/

/-- A channel with everything that receiving writes blanked out. -/
def Link.sending (l : Link) : Link :=
  { l with
    expectedSeq := false
    receiveAck := false
    assembly := []
    run := 0
    before := ⟨0, false, false, false⟩
    assemblyCount := 0
    refusalDisplay := 0
    inProcess := none
    outbound := [] }

/-- What of a channel only sending and the loss count write. -/
theorem Link.sending_eq (h : m.sending = l.sending) : m.state = l.state ∧ m.loss = l.loss
    ∧ m.sendSeq = l.sendSeq ∧ m.onOffer = l.onOffer ∧ m.ackCount = l.ackCount
    ∧ m.refusalSeen = l.refusalSeen ∧ m.refusalLatch = l.refusalLatch :=
  ⟨(congrArg Link.state h :), (congrArg Link.loss h :), (congrArg Link.sendSeq h :),
    (congrArg Link.onOffer h :), (congrArg Link.ackCount h :), (congrArg Link.refusalSeen h :),
    (congrArg Link.refusalLatch h :)⟩

theorem Link.sending_placeResult (l : Link) (m : List Byte) :
    (l.placeResult m).sending = l.sending := by
  rcases l.placeResult_cases m with ⟨-, e⟩ | ⟨-, -, e⟩ | ⟨-, -, e⟩ <;> rw [e] <;> rfl

theorem Link.sending_finishMessage (l : Link) (msg : List Byte) :
    (l.finishMessage msg).sending = l.sending := by
  unfold Link.finishMessage
  dsimp only
  split
  · rfl
  · exact Link.sending_placeResult _ _

/-- Step 6 of an arrival touches neither the state of the link nor what it has on offer (R140 to
R145). -/
theorem Link.sending_receiveStep (cfg : Settings) (v : Bool) (x : Shown) (l : Link) :
    (l.receiveStep cfg v x).sending = l.sending := by
  rcases l.receiveStep_cases cfg v x with e | ⟨n, e⟩ | ⟨-, -, e⟩ | ⟨-, e⟩ <;> rw [e]
  · rfl
  · rfl
  · unfold Link.takeOctet
    dsimp only
    split
    · exact Link.sending_finishMessage _ _
    · rfl
  · rfl

/-- A message that finishes leaves every message that waits in its place (R152, R161). -/
theorem Link.outbound_finishMessage (l : Link) (msg : List Byte) :
    ∃ ms, (l.finishMessage msg).outbound = l.outbound ++ ms := by
  unfold Link.finishMessage
  dsimp only
  split
  · exact ⟨[], (List.append_nil _).symm⟩
  · rcases Link.placeResult_cases (Reply.result (msg.tail.headD 0) { outcome := .badFormat })
      { l with assembly := [], inProcess := some ⟨msg.headD 0, msg.tail.headD 0, none, .handed⟩ }
      with ⟨-, e⟩ | ⟨-, -, e⟩ | ⟨-, -, e⟩ <;> rw [e]
    · exact ⟨[], (List.append_nil _).symm⟩
    · exact ⟨_, rfl⟩
    · exact ⟨[], (List.append_nil _).symm⟩

theorem Link.outbound_receiveStep (cfg : Settings) (v : Bool) (x : Shown) (l : Link) :
    ∃ ms, (l.receiveStep cfg v x).outbound = l.outbound ++ ms := by
  rcases l.receiveStep_cases cfg v x with e | ⟨n, e⟩ | ⟨-, -, e⟩ | ⟨-, e⟩ <;> rw [e]
  · exact ⟨[], (List.append_nil _).symm⟩
  · exact ⟨[], (List.append_nil _).symm⟩
  · unfold Link.takeOctet
    dsimp only
    split
    · exact Link.outbound_finishMessage _ _
    · exact ⟨[], (List.append_nil _).symm⟩
  · exact ⟨[], (List.append_nil _).symm⟩

/-- The arrival offers the octet that the channel waits for (R140). -/
abbrev Link.Eligible (v : Bool) (x : Shown) (l : Link) : Prop :=
  v = true ∧ x.offer = true ∧ x.seq = l.expectedSeq

/-- Step 6 with no eligible octet: with a message begun the assembly count goes up, to its end or
short of it (R144). -/
theorem Link.receiveStep_ineligible {cfg : Settings} {v : Bool} {x : Shown}
    (h : ¬l.Eligible v x) : l.receiveStep cfg v x =
      if l.assembly = [] then l.noteArrival v x
      else if cfg.assemblyTimeout.toNat ≤ l.assemblyCount + 1 then (l.noteArrival v x).refuseMessage
      else { l.noteArrival v x with assemblyCount := l.assemblyCount + 1 } := by
  have hb : (v && x.offer && x.seq == l.expectedSeq) = false :=
    Bool.eq_false_iff.mpr fun hb => h (by simpa [and_assoc] using hb)
  rw [Link.receiveStep]
  exact if_neg (by simp [hb])

/-- Step 6 with an eligible octet: it is passed over, left on offer, refused with its message, or
taken (R141 to R143, R145). -/
theorem Link.receiveStep_eligible {cfg : Settings} {v : Bool} {x : Shown}
    (h : l.Eligible v x) : l.receiveStep cfg v x =
      if 0 < l.refusalDisplay ∨ (l.noteArrival v x).run < cfg.confirmCount.toNat then
        l.noteArrival v x
      else if l.assembly = [] ∧ l.inProcess.isSome then l.noteArrival v x
      else if l.assembly.length = 16 ∨ (x.final = true ∧ l.assembly.length < 2) then
        (l.noteArrival v x).refuseMessage
      else (l.noteArrival v x).takeOctet x.channel x.seq x.final := by
  have hb : (v && x.offer && x.seq == l.expectedSeq) = true := by simp [h.1, h.2.1, h.2.2]
  rw [Link.receiveStep]
  refine (if_pos hb).trans (if_congr (by simp [Link.noteArrival]) rfl (if_congr Iff.rfl rfl ?_))
  rw [ite_or]
  rfl

/-- Where no message can finish, receiving touches neither the outbound queue nor the request in
process (R141, R145). -/
theorem Link.receiveStep_unfinished {cfg : Settings} {v : Bool} {x : Shown}
    (h : ¬l.Eligible v x ∨ x.final = false ∨ l.assembly.length < 2) :
    (l.receiveStep cfg v x).outbound = l.outbound
      ∧ (l.receiveStep cfg v x).inProcess = l.inProcess := by
  by_cases he : l.Eligible v x
  · rw [Link.receiveStep_eligible he]
    split_ifs with hshort hbusy href
    · exact ⟨rfl, rfl⟩
    · exact ⟨rfl, rfl⟩
    · exact ⟨rfl, rfl⟩
    · have hfinal : x.final = false := by
        rcases h with h | h | h
        · exact absurd he h
        · exact h
        · exact Bool.eq_false_iff.mpr fun hf => href (.inr ⟨hf, h⟩)
      rw [Link.takeOctet, hfinal]
      exact ⟨rfl, rfl⟩
  · rw [Link.receiveStep_ineligible he]
    split_ifs <;> exact ⟨rfl, rfl⟩

end Sys2Proof.Machine
end

-- ==== Proofs: the ends of sending ====
section
/-! SUPPORT. Steps 2 to 5 of an arrival in UP, by what becomes of the octet on offer (R135 to R139):
one equation for each case. -/

namespace Sys2Proof.Machine

-- The proofs are elaborated one after another: many at once take the text past its memory limit.
set_option Elab.async false

variable {l : Link} {t : Byte} {v a r : Bool} {j : Nat}

/-! ## Refusals seen -/

/-- An arrival that completes a refusal: the second in a row with REFUSE, the latch clear (R137). -/
abbrev Link.Refused (v r : Bool) (l : Link) : Prop :=
  v = true ∧ r = true ∧ l.refusalSeen = 1 ∧ l.refusalLatch = false

/-- Steps 3 and 4 of an arrival drop nothing where nothing is on offer, or no refusal is recognised
(R137). -/
theorem Link.settled_keeps
    (h : l.onOffer = none ∨ (l.seeRefusal v r).recognises = false) :
    ∃ n b, (l.seeRefusal v r).dropRefused = { l with refusalSeen := n, refusalLatch := b } := by
  cases hrec : (l.seeRefusal v r).recognises with
  | false =>
    refine ⟨(l.seeRefusal v r).refusalSeen, (l.seeRefusal v r).refusalLatch, ?_⟩
    rw [← Link.seeRefusal_eq, Link.dropRefused, hrec]
    exact if_neg Bool.false_ne_true
  | true =>
    have hnone : l.onOffer = none := h.elim id (by rw [hrec]; nofun)
    refine ⟨0, true, ?_⟩
    rw [Link.dropRefused, hrec, if_pos rfl]
    dsimp only
    rw [Link.seeRefusal_onOffer, hnone, if_neg (by simp), Link.seeRefusal_eq]

/-- The head message has left, with what it had on offer (R136, R137). -/
def Link.headGone (l : Link) : Link := { l with outbound := l.outbound.tail, onOffer := none }

/-- The head message leaves, a HELD RESULT takes its room, and the next message is put on offer
(R135, R136, R137, R161). -/
def Link.passHead (l : Link) : Link := l.headGone.enterHeld.offerHead

/-- A recognised refusal drops the message on offer (R137). -/
theorem Link.settled_drops (h : l.Refused v r) (ho : l.onOffer.isSome = true) :
    (l.seeRefusal v r).dropRefused.offerHead =
      Link.passHead { l with refusalSeen := 0, refusalLatch := true, ackCount := 0 } := by
  obtain ⟨rfl, rfl, hseen, hlatch⟩ := h
  have hsee : l.seeRefusal true true = { l with refusalSeen := 2 } := by
    simp [Link.seeRefusal, hseen, hlatch]
  rw [hsee]
  exact congrArg Link.offerHead ((if_pos rfl).trans (if_pos ho))

/-- The count of refusals seen, and its latch. -/
def Link.refusals (l : Link) : Nat × Bool := (l.refusalSeen, l.refusalLatch)

theorem Link.enterHeld_refusals (l : Link) : l.enterHeld.refusals = l.refusals := by
  rcases l.enterHeld_cases with e | ⟨_, _, _, _, -, -, e⟩ <;> rw [e]
  rfl

theorem Link.acknowledge_refusals (l : Link) : l.acknowledge.refusals = l.refusals := by
  unfold Link.acknowledge
  split
  · rfl
  · split
    · rfl
    · exact Link.enterHeld_refusals _

theorem Link.countAck_refusals (l : Link) (t : Byte) : (l.countAck t).refusals = l.refusals := by
  unfold Link.countAck Link.stall
  dsimp only
  split
  · exact Link.enterHeld_refusals _
  · rfl

theorem Link.offerHead_refusals (l : Link) : l.offerHead.refusals = l.refusals := by
  unfold Link.offerHead
  split <;> rfl

theorem Link.dropRefused_refusals (l : Link) :
    l.dropRefused.refusals = if 2 ≤ l.refusalSeen then (0, true) else l.refusals := by
  unfold Link.dropRefused Link.recognises
  simp only [decide_eq_true_eq]
  split
  · next h =>
    rw [if_pos (show 2 ≤ l.refusalSeen from h)]
    split
    · exact Link.enterHeld_refusals _
    · rfl
  · next h => rw [if_neg (show ¬2 ≤ l.refusalSeen from h)]

/-- What the count of refusals and its latch become at an arrival (R137). -/
theorem Link.settled_refusals (h : l.refusalSeen ≤ 1) (v r : Bool) :
    (l.seeRefusal v r).dropRefused.refusals =
      if v = false then (0, l.refusalLatch)
      else if r = false then (0, false)
      else if l.refusalLatch = true then (l.refusalSeen, true)
      else if l.refusalSeen = 0 then (1, false)
      else (0, true) := by
  rw [Link.dropRefused_refusals]
  unfold Link.seeRefusal Link.refusals
  cases v with
  | false => simp
  | true =>
    cases r with
    | false => simp
    | true =>
      cases hlatch : l.refusalLatch with
      | true => simp [hlatch]; omega
      | false =>
        by_cases h0 : l.refusalSeen = 0
        · simp [h0]
        · simp [h0]

/-! ## The octet on offer -/

/-- With nothing on offer the first octet of the head message is put on offer (R135). -/
theorem Link.sendSteps_starts (hup : l.state = .up) (ho : l.onOffer = none) (hq : l.outbound ≠ []) :
    ∃ n b, l.sendSteps t v a r =
      { l with refusalSeen := n, refusalLatch := b, onOffer := some 0, ackCount := 0 } := by
  obtain ⟨n, b, e⟩ := Link.settled_keeps (v := v) (r := r) (.inl ho)
  refine ⟨n, b, ?_⟩
  have hsend : l.sendSteps t v a r = (l.seeRefusal v r).dropRefused.offerHead := by
    simp [Link.sendSteps, ho]
  rw [hsend, e]
  exact if_pos ⟨hup, ho, hq⟩

/-- An acknowledgement settles the octet on offer before refusals are looked at (R134, R136). -/
theorem Link.sendSteps_acknowledged (ho : l.onOffer.isSome = true) (hv : v = true)
    (ha : a = l.sendSeq) : l.sendSteps t v a r =
      (l.acknowledge.seeRefusal v r).dropRefused.offerHead := by
  simp [Link.sendSteps, ho, hv, ha]

theorem Link.offerHead_onOffer (ho : l.onOffer.isSome = true) : l.offerHead = l := by
  rw [Link.offerHead, if_neg]
  rintro ⟨-, hn, -⟩
  simp [hn] at ho

/-- The octet after an acknowledged one is put on offer (R136). -/
theorem Link.acknowledge_next (ho : l.onOffer = some j) (hj : j + 1 < l.head.length) :
    l.acknowledge = { l with sendSeq := !l.sendSeq, onOffer := some (j + 1), ackCount := 0 } := by
  rw [Link.acknowledge, ho]
  exact if_pos hj

theorem Link.sendSteps_advances (ho : l.onOffer = some j) (hj : j + 1 < l.head.length)
    (hv : v = true) (ha : a = l.sendSeq) (hr : r = false) : ∃ n b, l.sendSteps t v a r =
      { l with
        refusalSeen := n
        refusalLatch := b
        sendSeq := !l.sendSeq
        onOffer := some (j + 1)
        ackCount := 0 } := by
  have hrec : (l.acknowledge.seeRefusal v r).recognises = false := by
    simp [Link.seeRefusal, Link.recognises, Config.refusalFrames, hv, hr]
  obtain ⟨n, b, e⟩ := Link.settled_keeps (.inr hrec)
  refine ⟨n, b, ?_⟩
  rw [Link.sendSteps_acknowledged (by simp [ho]) hv ha, e, Link.acknowledge_next ho hj]
  exact Link.offerHead_onOffer rfl

theorem Link.enterHeld_onOffer (l : Link) : l.enterHeld.onOffer = l.onOffer := by
  rcases l.enterHeld_cases with e | ⟨_, _, _, _, -, -, e⟩ <;> rw [e]

/-- Whether a HELD RESULT joins does not hang on the refusals seen. -/
theorem Link.enterHeld_withRefusals (l : Link) (n : Nat) (b : Bool) :
    Link.enterHeld { l with refusalSeen := n, refusalLatch := b } =
      { l.enterHeld with refusalSeen := n, refusalLatch := b } := by
  unfold Link.enterHeld
  dsimp only
  split
  · split <;> rfl
  · rfl

/-- The last octet of a message is acknowledged, and the message leaves (R136). -/
theorem Link.sendSteps_finishes (ho : l.onOffer = some j) (hj : ¬j + 1 < l.head.length)
    (hv : v = true) (ha : a = l.sendSeq) : ∃ n b, l.sendSteps t v a r =
      Link.passHead { l with refusalSeen := n, refusalLatch := b, sendSeq := !l.sendSeq } := by
  have hack : l.acknowledge =
      (Link.headGone { l with sendSeq := !l.sendSeq }).enterHeld := by
    rw [Link.acknowledge, ho]
    exact if_neg hj
  have hnone : l.acknowledge.onOffer = none := by
    rw [hack, Link.enterHeld_onOffer]
    rfl
  obtain ⟨n, b, e⟩ := Link.settled_keeps (v := v) (r := r) (.inl hnone)
  refine ⟨n, b, ?_⟩
  rw [Link.sendSteps_acknowledged (by simp [ho]) hv ha, e, hack, ← Link.enterHeld_withRefusals]
  rfl

/-- A refusal is recognised while an octet stays on offer, or as the next one is offered (R137). -/
theorem Link.sendSteps_drops (ho : l.onOffer = some j) (href : l.Refused v r)
    (ha : a ≠ l.sendSeq ∨ j + 1 < l.head.length) : l.sendSteps t v a r =
      Link.passHead { l with
        refusalSeen := 0
        refusalLatch := true
        ackCount := 0
        sendSeq := if a = l.sendSeq then !l.sendSeq else l.sendSeq } := by
  have hsome : l.onOffer.isSome = true := by simp [ho]
  by_cases hack : a = l.sendSeq
  · have hj : j + 1 < l.head.length := ha.resolve_left (not_not_intro hack)
    rw [Link.sendSteps_acknowledged hsome href.1 hack, Link.acknowledge_next ho hj, if_pos hack]
    exact Link.settled_drops (l := { l with
      sendSeq := !l.sendSeq, onOffer := some (j + 1), ackCount := 0 }) href rfl
  · have hsend : l.sendSteps t v a r = (l.seeRefusal v r).dropRefused.offerHead := by
      obtain ⟨rfl, rfl, hseen, hlatch⟩ := href
      simp [Link.sendSteps, hack, hsome, Link.seeRefusal, Link.recognises, hseen, hlatch,
        Config.refusalFrames]
    rw [hsend, Link.settled_drops href hsome, if_neg hack]

/-- Neither an acknowledgement nor a refusal: the acknowledge count goes up (R138). -/
theorem Link.sendSteps_stays (ho : l.onOffer.isSome = true) (ha : v = false ∨ a ≠ l.sendSeq)
    (hrec : (l.seeRefusal v r).recognises = false) : ∃ n b, l.sendSteps t v a r =
      (Link.countAck t { l with refusalSeen := n, refusalLatch := b }).offerHead := by
  obtain ⟨n, b, e⟩ := Link.settled_keeps (.inr hrec)
  refine ⟨n, b, ?_⟩
  rw [← e]
  rcases ha with rfl | ha
  · simp [Link.sendSteps, ho, hrec]
  · simp [Link.sendSteps, ho, hrec, ha]

/-- What the refusals seen become through steps 2 to 5 (R137). -/
theorem Link.sendSteps_refusals (l : Link) (t : Byte) (v a r : Bool) :
    ∃ m : Link, m.refusals = l.refusals
      ∧ (l.sendSteps t v a r).refusals = (m.seeRefusal v r).dropRefused.refusals := by
  rcases l.sendSteps_cases t v a r with ⟨m, hm, e⟩ | ⟨-, -, e⟩
  · refine ⟨m, ?_, by rw [e, Link.offerHead_refusals]⟩
    rcases hm with rfl | rfl
    · rfl
    · exact l.acknowledge_refusals
  · exact ⟨l, rfl, by rw [e, Link.offerHead_refusals, Link.countAck_refusals]⟩

/-! ## The next message -/

theorem Link.enterHeld_outbound (l : Link) : ∃ ms, l.enterHeld.outbound = l.outbound ++ ms := by
  rcases l.enterHeld_cases with e | ⟨_, _, _, m, -, -, e⟩ <;> rw [e]
  · exact ⟨[], (List.append_nil _).symm⟩
  · exact ⟨[m], rfl⟩

theorem Link.sending_enterHeld (l : Link) : l.enterHeld.sending = l.sending := by
  rcases l.enterHeld_cases with e | ⟨_, _, _, _, -, -, e⟩ <;> rw [e]
  rfl

theorem Link.offerHead_eq (hup : l.state = .up) (ho : l.onOffer = none) (hq : l.outbound ≠ []) :
    l.offerHead = { l with onOffer := some 0, ackCount := 0 } := if_pos ⟨hup, ho, hq⟩

theorem Link.offerHead_empty (hq : l.outbound = []) : l.offerHead = l :=
  if_neg fun h => h.2.2 hq

theorem Link.offerHead_stalled (hst : l.state = .stalled) : l.offerHead = l :=
  if_neg fun h => by rw [hst] at h; cases h.1

theorem Link.passHead_sendSeq (l : Link) : l.passHead.sendSeq = l.sendSeq := by
  obtain ⟨-, -, hseq, -⟩ := Link.sending_eq l.headGone.sending_enterHeld
  unfold Link.passHead Link.offerHead
  split <;> exact hseq

/-- A message that waits behind the head is put on offer where the head leaves (R136, R137). -/
theorem Link.passHead_next (hup : l.state = .up) {m : List Byte} {ms : List (List Byte)}
    (hq : l.outbound.tail = m :: ms) : l.passHead.onOffer = some 0 ∧ l.passHead.ackCount = 0
      ∧ ∃ ns, l.passHead.outbound = m :: ns := by
  obtain ⟨ns, hns⟩ := l.headGone.enterHeld_outbound
  have hhead : l.headGone.enterHeld.outbound = m :: (ms ++ ns) :=
    hns.trans (congrArg (· ++ ns) hq)
  rw [Link.passHead, Link.offerHead_eq (l.headGone.enterHeld_state.trans hup)
    (l.headGone.enterHeld_onOffer.trans rfl) (by simp [hhead])]
  exact ⟨rfl, rfl, _, hhead⟩

/-- With no message and no RESULT behind the head, nothing is on offer where it leaves (R136). -/
theorem Link.passHead_last (hn : l.HoldsNothing) (hq : l.outbound.tail = []) :
    l.passHead = { l with outbound := [], onOffer := none } := by
  have hgone : l.headGone = { l with outbound := [], onOffer := none } := by rw [Link.headGone, hq]
  rw [Link.passHead, Link.enterHeld_holdsNothing (l := l.headGone) hn, Link.offerHead_empty hq,
    hgone]

theorem Link.passHead_outbound (hn : l.HoldsNothing) :
    l.passHead.outbound = l.outbound.tail := by
  rw [Link.passHead, Link.enterHeld_holdsNothing (l := l.headGone) hn]
  unfold Link.offerHead
  split <;> rfl

/-- A HELD RESULT joins behind the messages that wait (R161). -/
theorem Link.passHead_held (hup : l.state = .up) {q : InProcess} {m : List Byte}
    (hq : l.inProcess = some q) (hm : q.phase = .held m) (hr : l.outbound.tail.length < 4) :
    l.passHead = { l with
      outbound := l.outbound.tail ++ [m]
      inProcess := none
      onOffer := some 0
      ackCount := 0 } := by
  rw [Link.passHead, Link.enterHeld_held (l := l.headGone) hq hm hr]
  exact Link.offerHead_eq hup rfl (by simp)

/-! ## The acknowledge count -/

/-- Short of ACK_TIMEOUT the octet stays on offer (R138). -/
theorem Link.countAck_short (h : l.ackCount + 1 < t.toNat) :
    l.countAck t = { l with ackCount := l.ackCount + 1 } := if_neg (Nat.not_le_of_lt h)

/-- At ACK_TIMEOUT the link stalls (R138, R139). -/
theorem Link.countAck_timeout (h : t.toNat ≤ l.ackCount + 1) :
    l.countAck t = Link.stall { l with ackCount := l.ackCount + 1 } := if_pos h

theorem Link.sending_stall (l : Link) :
    l.stall.sending = ({ l with state := .stalled, onOffer := none } : Link).sending :=
  Link.sending_enterHeld _

theorem Link.stall_outbound (hn : l.HoldsNothing) : l.stall.outbound = [] := by
  rw [Link.stall, Link.enterHeld_holdsNothing (by exact hn)]

theorem Link.stall_held {q : InProcess} {m : List Byte} (hq : l.inProcess = some q)
    (hm : q.phase = .held m) : l.stall.outbound = [m] ∧ l.stall.inProcess = none := by
  rw [Link.stall, Link.enterHeld_held (by exact hq) hm (by simp)]
  exact ⟨rfl, rfl⟩

/-- Steps 2 to 5 keep the link in UP, or take its octet off offer (R139). -/
theorem Link.sendSteps_up (l : Link) (t : Byte) (v a r : Bool) :
    (l.sendSteps t v a r).state = l.state ∨ (l.sendSteps t v a r).onOffer = none := by
  rcases l.sendSteps_cases t v a r with ⟨m, hm, e⟩ | ⟨-, -, e⟩ <;> rw [e]
  · have hst : m.state = l.state := by rcases hm with rfl | rfl <;> simp
    exact .inl (by simp [hst])
  · by_cases ht : t.toNat ≤ (l.seeRefusal v r).dropRefused.ackCount + 1
    · rw [Link.countAck_timeout ht, Link.offerHead_stalled (Link.enterHeld_state _)]
      exact .inr (Link.enterHeld_onOffer _)
    · rw [Link.countAck_short (Nat.lt_of_not_le ht)]
      exact .inl (by simp)

end Sys2Proof.Machine
end

-- ==== Proofs: a session through an arrival ====
section
/-! SUPPORT. What an arrival leaves of a session: presence and loss, the state of the link, and the
pair presented (R128, R132, R134). -/

namespace Sys2Proof.Machine

-- The proofs are elaborated one after another: many at once take the text past its memory limit.
set_option Elab.async false

variable {s t : State} {k : LinkNo} {chan hs : Byte} {l : Link} {cfg : Settings}

/-! ## The state of the link -/

theorem Link.sent_up (h : l.state = .up) : l.sent cfg hs = (l.noteLoss hs).sendSteps
    cfg.ackTimeout (handshakePresent hs) (hs.getLsbD 1) (hs.getLsbD 0) := if_pos h

theorem Link.sent_stalled (h : l.state = .stalled) : l.sent cfg hs =
    ((l.noteLoss hs).seeRefusal (handshakePresent hs) (hs.getLsbD 0)).dropRefused :=
  if_neg (by rw [h]; nofun)

/-- What a link has on offer and what it counts are those that sending leaves (R134). -/
theorem Link.sending_heard (cfg : Settings) (chan hs : Byte) (l : Link) :
    (l.heard cfg chan hs).sending = (l.sent cfg hs).sending := Link.sending_receiveStep _ _ _ _

theorem Link.heard_state (cfg : Settings) (chan hs : Byte) (l : Link) :
    (l.heard cfg chan hs).state = (l.sent cfg hs).state :=
  (Link.sending_eq (l.sending_heard cfg chan hs)).1

theorem Link.heard_loss (cfg : Settings) (chan hs : Byte) (l : Link) :
    (l.heard cfg chan hs).loss = l.nextLoss (handshakePresent hs) :=
  (Link.sending_eq (l.sending_heard cfg chan hs)).2.1.trans
    (Link.receiving_eq (l.sendsOnly_sent cfg hs).receiving).1

theorem Link.heard_session (h : l.state = .up ∨ l.state = .stalled) :
    (l.heard cfg chan hs).state = .up ∨ (l.heard cfg chan hs).state = .stalled := by
  have hsession : (l.noteLoss hs).hasSession = true := (Link.hasSession_iff _).mpr h
  obtain ⟨-, hsent⟩ := Link.keeps_sent hsession cfg.ackTimeout (handshakePresent hs)
    (hs.getLsbD 1) (hs.getLsbD 0)
  rw [Link.heard_state]
  exact (Link.hasSession_iff _).mp hsent

theorem Link.heard_stalled (h : l.state = .stalled) : (l.heard cfg chan hs).state = .stalled := by
  rw [Link.heard_state, Link.sent_stalled h, Link.dropRefused_state, Link.seeRefusal_state]
  exact h

/-- Sending stalls a link at the end of an acknowledge count alone (R138). -/
theorem Link.sendSteps_state {t : Byte} {v a r : Bool}
    (h : l.onOffer = none ∨ l.ackCount + 1 < t.toNat) :
    (l.sendSteps t v a r).state = l.state := by
  rcases l.sendSteps_cases t v a r with ⟨m, hm, e⟩ | ⟨ho, hrec, e⟩ <;> rw [e, Link.offerHead_state]
  · have hst : m.state = l.state := by rcases hm with rfl | rfl <;> simp
    simp [hst]
  · have hrec' : (l.seeRefusal v r).recognises = false := by simpa [ho] using hrec
    have hshort : l.ackCount + 1 < t.toNat := h.resolve_left (by rintro hn; simp [hn] at ho)
    obtain ⟨n, b, hkeeps⟩ := Link.settled_keeps (.inr hrec')
    rw [hkeeps, Link.countAck_short (by exact hshort)]

theorem Link.heard_keepsState (h : l.state = .up ∨ l.state = .stalled)
    (hshort : l.onOffer = none ∨ l.ackCount + 1 < cfg.ackTimeout.toNat) :
    (l.heard cfg chan hs).state = l.state := by
  rcases h with h | h
  · rw [Link.heard_state, Link.sent_up h]
    exact Link.sendSteps_state hshort
  · rw [Link.heard_stalled h, h]

/-! ## The pair presented -/

/-- A channel that has presented its pair presents it as it stands (R128, R134). -/
theorem State.pairAsItStands_present (h : t.link k = l.present) :
    t.PairAsItStands k ((t.link k).presented.channel, (t.link k).presented.handshake) := by
  have hpair : (t.link k).presented = (t.link k).pairNow := by rw [h]; rfl
  rw [hpair]
  exact (Link.Hears.refl _).pairAsItStands

/-- The pair presented in a session (R127, R128; 13.1). -/
theorem State.presented_session (h : t.link k = l.present)
    (hst : l.state = .up ∨ l.state = .stalled) :
    (t.link k).presented.handshake.extractLsb' 5 3 = 5
      ∧ (t.link k).presented.handshake.getLsbD 4
          = decide ((t.link k).state = .up ∧ (t.link k).onOffer.isSome = true)
      ∧ (t.link k).presented.handshake.getLsbD 3 = (t.link k).sendSeq
      ∧ (t.link k).presented.handshake.getLsbD 1 = (t.link k).receiveAck
      ∧ (t.link k).presented.handshake.getLsbD 0 = decide (0 < (t.link k).refusalDisplay)
      ∧ ((t.link k).state = .up → ∀ j, (t.link k).onOffer = some j →
        ∀ v, (t.link k).head[j]? = some v → (t.link k).presented.channel = v
          ∧ (t.link k).presented.handshake.getLsbD 2
            = decide (j + 1 = (t.link k).head.length)) := by
  have hpair := State.pairAsItStands_present h
  have hst' : (t.link k).state = .up ∨ (t.link k).state = .stalled := by rwa [h]
  unfold State.PairAsItStands at hpair
  rcases hst' with hst' | hst' <;> simp only [hst'] at hpair <;>
    obtain ⟨h5, h4, h3, h1, h0, -, hoffer⟩ := hpair
  · exact ⟨h5, h4.trans (by simp [hst']), h3, h1, h0, fun _ => hoffer trivial⟩
  · exact ⟨h5, h4.trans (by simp [hst']), h3, h1, h0, fun hup => by rw [hst'] at hup; cases hup⟩

/-- Settles O45: the fourth invalid presence ends the session, and at any other arrival the loss
count is written and the link can leave UP by the acknowledge timeout alone. -/
theorem presenceLossEndsTheSession : Obligations.PresenceLossEndsTheSession := by
  unfold Obligations.PresenceLossEndsTheSession
  refine ⟨fun s k chan hs c hc hrun hst hloss hv => ?_, fun s k chan hs c hc h => ?_⟩
  · have hexec : exec c s = .next (s.arrival k chan hs) := by rcases hc with rfl | rfl <;> rfl
    rw [hexec, State.arrival_losesSession hrun hst hloss hv]
    obtain ⟨hkeeps, hmailbox, hqueue, hevents⟩ := s.keepsElsewhere_endSession k
      (s.link k).lost
    refine ⟨_, rfl, hkeeps.trans rfl, hmailbox, hqueue, ?_,
      s.referralEnded_endSession k (s.link k).lost, fun j => s.link_endSession k j (s.link k).lost⟩
    rw [← flagBit_linkEvent, ← hevents]
    rfl
  · have hexec : exec c s = .next (s.arrival k chan hs) := by rcases hc with rfl | rfl <;> rfl
    obtain ⟨t, ht, hframe, hother, hlink, -, hevents⟩ := State.arrival_heard h chan
    have hsession := Link.heard_session (cfg := s.settings) (chan := chan) (hs := hs) h.2.1
    obtain ⟨hpresence, -⟩ := State.presented_session hlink hsession
    refine ⟨t, hexec.trans (congrArg _ ht), hframe, hother, ?_, ?_, fun hst => ?_, fun hshort => ?_,
      hpresence⟩
    · rw [hlink]
      exact (Link.heard_loss _ _ _ _).trans (if_congr handshakePresent_iff rfl rfl)
    · rw [hlink]
      exact hsession
    · have hstays := Link.heard_stalled (cfg := s.settings) (chan := chan) (hs := hs) hst
      exact ⟨by rw [hlink]; exact hstays, hevents (by rw [hstays, hst])⟩
    · have hstays := Link.heard_keepsState (chan := chan) (hs := hs) h.2.1 hshort
      exact ⟨by rw [hlink]; exact hstays, hevents hstays⟩

end Sys2Proof.Machine
end

-- ==== Proofs: what an arrival sends ====
section
/-! SUPPORT. Sending and then receiving at one arrival: the messages that wait, the acknowledge
timeout and a HELD RESULT (R137 to R139, R161). -/

namespace Sys2Proof.Machine

-- The proofs are elaborated one after another: many at once take the text past its memory limit.
set_option Elab.async false

variable {s t : State} {k : LinkNo} {chan hs : Byte} {l : Link} {cfg : Settings} {j : Nat}

/-! ## From sending to the end of the arrival -/

/-- Messages that wait once sending is done keep their places (R141, R152). -/
theorem Link.heard_head (cfg : Settings) (chan hs : Byte) {l : Link} {m : List Byte}
    {ms : List (List Byte)} (h : (l.sent cfg hs).outbound = m :: ms) :
    (l.heard cfg chan hs).head = m := by
  obtain ⟨ns, hns⟩ := Link.outbound_receiveStep cfg (handshakePresent hs) (shownBy chan hs)
    (l.sent cfg hs)
  rw [Link.head, Link.heard, hns, h]
  rfl

/-- Where no message can finish at an arrival, the queue and the request in process are those that
sending leaves (R141). -/
theorem Link.heard_unfinished (cfg : Settings) (chan : Byte)
    (h : hs.getLsbD 4 = false ∨ l.assembly = []) :
    (l.heard cfg chan hs).outbound = (l.sent cfg hs).outbound
      ∧ (l.heard cfg chan hs).inProcess = (l.sent cfg hs).inProcess := by
  refine Link.receiveStep_unfinished ?_
  rcases h with h | h
  · exact .inl fun he => by
      have hoffer : hs.getLsbD 4 = true := he.2.1
      rw [h] at hoffer
      cases hoffer
  · obtain ⟨-, -, -, hassembly, -⟩ := Link.receiving_eq (l.sendsOnly_sent cfg hs).receiving
    exact .inr (.inr (by rw [hassembly]; simp [Link.noteLoss, h]))

/-! ## The acknowledge timeout -/

/-- An octet that stays on offer sees no refusal recognised (R137). -/
theorem Link.StaysOnOffer.recognises (h : l.StaysOnOffer hs) :
    (l.seeRefusal (handshakePresent hs) (hs.getLsbD 0)).recognises = false := by
  obtain ⟨hseen, h⟩ := h
  cases hv : handshakePresent hs with
  | false => simp [Link.seeRefusal, Link.recognises, Config.refusalFrames]
  | true =>
    obtain ⟨-, hrefuse⟩ := h.resolve_left (not_not_intro (handshakePresent_iff.mp hv))
    cases hr : hs.getLsbD 0 with
    | false => simp [Link.seeRefusal, Link.recognises, Config.refusalFrames]
    | true =>
      cases hlatch : l.refusalLatch with
      | true => simpa [Link.seeRefusal, Link.recognises, Config.refusalFrames, hlatch] using hseen
      | false =>
        have hzero : l.refusalSeen = 0 := by
          rw [hr, hlatch] at hrefuse
          simpa using hrefuse
        simp [Link.seeRefusal, Link.recognises, Config.refusalFrames, hlatch, hzero]

theorem Link.sent_stays (hup : l.state = .up) (ho : l.onOffer = some j) (h : l.StaysOnOffer hs) :
    ∃ n b, l.sent cfg hs = (Link.countAck cfg.ackTimeout
      { l.noteLoss hs with refusalSeen := n, refusalLatch := b }).offerHead := by
  have ha : handshakePresent hs = false ∨ hs.getLsbD 1 ≠ l.sendSeq := h.2.imp
    (fun hv => Bool.eq_false_iff.mpr fun hp => hv (handshakePresent_iff.mp hp)) And.left
  rw [Link.sent_up hup]
  exact Link.sendSteps_stays (l := l.noteLoss hs) (by simp [Link.noteLoss, ho]) ha
    (Link.StaysOnOffer.recognises (l := l.noteLoss hs) h)

/-- The acknowledge count runs out, and the link stalls (R138, R139). -/
theorem Link.sent_stalls (hup : l.state = .up) (ho : l.onOffer = some j) (h : l.StaysOnOffer hs)
    (ht : cfg.ackTimeout.toNat ≤ l.ackCount + 1) : ∃ n b, l.sent cfg hs =
      Link.stall { l.noteLoss hs with
        refusalSeen := n, refusalLatch := b, ackCount := l.ackCount + 1 } := by
  obtain ⟨n, b, e⟩ := Link.sent_stays (cfg := cfg) hup ho h
  refine ⟨n, b, e.trans ?_⟩
  rw [Link.countAck_timeout (by exact ht)]
  exact Link.offerHead_stalled (Link.enterHeld_state _)

/-- The acknowledge count goes up, and the octet stays on offer (R138). -/
theorem Link.sent_counts (hup : l.state = .up) (ho : l.onOffer = some j) (h : l.StaysOnOffer hs)
    (ht : l.ackCount + 1 < cfg.ackTimeout.toNat) : ∃ n b, l.sent cfg hs =
      { l.noteLoss hs with
        refusalSeen := n, refusalLatch := b, ackCount := l.ackCount + 1 } := by
  obtain ⟨n, b, e⟩ := Link.sent_stays (cfg := cfg) hup ho h
  refine ⟨n, b, e.trans ?_⟩
  rw [Link.countAck_short (by exact ht)]
  exact Link.offerHead_onOffer (by simp [Link.noteLoss, ho])

/-- Settles O46: sending ends in STALLED, and nothing that waited is left. -/
theorem acknowledgeTimeoutStallsTheLink : Obligations.AcknowledgeTimeoutStallsTheLink := by
  unfold Obligations.AcknowledgeTimeoutStallsTheLink
  intro s k chan hs c j hc h hup ho hstays ht
  have hexec : exec c s = .next (s.arrival k chan hs) := by rcases hc with rfl | rfl <;> rfl
  obtain ⟨t, harrival, hframe, hother, hlink, hflags, -⟩ := State.arrival_heard h chan
  obtain ⟨n, b, hsent⟩ := Link.sent_stalls hup ho hstays ht
  have hsending := (s.link k).sending_heard s.settings chan hs
  rw [hsent, Link.sending_stall] at hsending
  obtain ⟨hst, -, hseq, hon, -⟩ := Link.sending_eq hsending
  refine ⟨t, hexec.trans (congrArg _ harrival), hframe, hother, ?_, ?_, ?_, hflags hup hst,
    fun hoffer hheld => ?_⟩
  · rw [hlink]; exact hst
  · rw [hlink]; exact hon
  · rw [hlink]; exact hseq
  · rw [hlink]
    refine (Link.heard_unfinished _ chan (.inl hoffer)).1.trans ?_
    rw [hsent]
    exact Link.stall_outbound hheld

/-! ## A HELD RESULT -/

/-- With the head message gone a HELD RESULT has joined, and the next message is on offer (R135,
R161). -/
theorem Link.heard_joins {m : Link} {q : InProcess} {res : List Byte}
    (hsent : l.sent cfg hs = m.passHead) (hup : m.state = .up) (hq : m.inProcess = some q)
    (hres : q.phase = .held res) (hroom : m.outbound.tail.length < 4) (hempty : l.assembly = []) :
    (l.heard cfg chan hs).outbound = m.outbound.tail ++ [res]
      ∧ (l.heard cfg chan hs).inProcess = none ∧ (l.heard cfg chan hs).onOffer = some 0
      ∧ (l.heard cfg chan hs).ackCount = 0 ∧ (l.heard cfg chan hs).sendSeq = m.sendSeq
      ∧ (l.heard cfg chan hs).state = .up := by
  rw [Link.passHead_held hup hq hres hroom] at hsent
  obtain ⟨hout, hproc⟩ := Link.heard_unfinished (hs := hs) cfg chan (.inr hempty)
  obtain ⟨hst, -, hseq, hon, hack, -⟩ := Link.sending_eq (l.sending_heard cfg chan hs)
  rw [hout, hproc, hst, hseq, hon, hack, hsent]
  exact ⟨rfl, rfl, rfl, rfl, rfl, hup⟩

/-- Settles O48: each cause of room passes the head message or empties the queue, and the RESULT
joins there. -/
theorem heldResultsTakeTheFirstRoom : Obligations.HeldResultsTakeTheFirstRoom := by
  unfold Obligations.HeldResultsTakeTheFirstRoom
  intro s k chan hs c q m head rest j hc h hup hqueue hrest ho hq hm hempty
  have hexec : exec c s = .next (s.arrival k chan hs) := by rcases hc with rfl | rfl | rfl <;> rfl
  obtain ⟨t, harrival, hframe, hother, hlink, hflags, hevents⟩ := State.arrival_heard h chan
  have hnext : exec c s = .next t := hexec.trans (congrArg _ harrival)
  have hhead : (s.link k).head = head := by rw [Link.head, hqueue]; rfl
  have htail : (s.link k).outbound.tail = rest := by rw [hqueue]; rfl
  have hroom : (s.link k).outbound.tail.length < 4 := by rw [htail]; omega
  have hlinks : ((s.link k).heard s.settings chan hs).state = .up →
      t = { s with links := t.links } := fun hst => by
    have hsame := hevents (hst.trans hup.symm)
    rw [hsame] at hframe
    exact hframe
  refine ⟨fun hv ha hj => ?_, fun hv hr hlast hseen hlatch => ?_, fun hstays ht => ?_⟩
  · obtain ⟨n, b, hsent⟩ := Link.sendSteps_finishes (t := s.settings.ackTimeout)
      (l := (s.link k).noteLoss hs) (r := hs.getLsbD 0) ho
      (by rw [Nat.not_lt, hj, ← hhead]; exact Nat.le_refl _) (handshakePresent_iff.mpr hv) ha
    obtain ⟨hout, hproc, hon, -, hseq, hst⟩ := Link.heard_joins (chan := chan)
      ((Link.sent_up hup).trans hsent) hup hq hm hroom hempty
    refine ⟨t, hnext, hlinks hst, hother, ?_⟩
    rw [hlink]
    exact ⟨htail ▸ hout, hproc, hon, hseq⟩
  · have hsent := Link.sendSteps_drops (t := s.settings.ackTimeout)
      (l := (s.link k).noteLoss hs) ho ⟨handshakePresent_iff.mpr hv, hr, hseen, hlatch⟩
      (hlast.imp_right fun hj => by rw [← hhead] at hj; exact hj)
    obtain ⟨hout, hproc, hon, hack, hseq, hst⟩ := Link.heard_joins (chan := chan)
      ((Link.sent_up hup).trans hsent) hup hq hm hroom hempty
    refine ⟨t, hnext, hlinks hst, hother, ?_⟩
    rw [hlink]
    exact ⟨htail ▸ hout, hproc, hon, hack, hseq⟩
  · obtain ⟨n, b, hsent⟩ := Link.sent_stalls hup ho hstays ht
    have hsending := (s.link k).sending_heard s.settings chan hs
    rw [hsent, Link.sending_stall] at hsending
    obtain ⟨hst, -, -, hon, -⟩ := Link.sending_eq hsending
    obtain ⟨hout, hproc⟩ := Link.heard_unfinished (hs := hs) s.settings chan (.inr hempty)
    obtain ⟨hjoined, hleft⟩ := Link.stall_held (l := { (s.link k).noteLoss hs with
      refusalSeen := n, refusalLatch := b, ackCount := (s.link k).ackCount + 1 }) hq hm
    obtain ⟨-, hoffer, -⟩ := State.presented_session hlink (.inr hst)
    have hstall : (t.link k).state = .stalled := by rw [hlink]; exact hst
    refine ⟨t, hnext, hframe, hother, ?_, ?_, hstall, ?_, ?_, hflags hup hst⟩
    · rw [hlink]; exact hout.trans (hsent ▸ hjoined)
    · rw [hlink]; exact hproc.trans (hsent ▸ hleft)
    · rw [hlink]; exact hon
    · exact hoffer.trans (by simp [hstall])

end Sys2Proof.Machine
end

-- ==== Proofs: the send machine ====
section
/-! SUPPORT. The send machine, clause by clause: what each end of sending leaves once the whole
arrival has been handled (R128, R135 to R138). -/

namespace Sys2Proof.Machine

-- The proofs are elaborated one after another: many at once take the text past its memory limit.
set_option Elab.async false

variable {s t : State} {k : LinkNo} {chan hs : Byte} {l m : Link} {cfg : Settings} {j : Nat}
  {x : List Byte} {xs : List (List Byte)}

/-! ## The octet on offer after an arrival -/

/-- What is on offer after an arrival is what sending has put there, with its counts. -/
theorem Link.heard_offer (hsent : l.sent cfg hs = m) : (l.heard cfg chan hs).onOffer = m.onOffer
    ∧ (l.heard cfg chan hs).ackCount = m.ackCount
    ∧ (l.heard cfg chan hs).sendSeq = m.sendSeq := by
  obtain ⟨-, -, hseq, hon, hack, -⟩ := Link.sending_eq (l.sending_heard cfg chan hs)
  rw [← hsent]
  exact ⟨hon, hack, hseq⟩

/-- With nothing on offer, the head message starts (R135). -/
theorem Link.heard_starts (hup : l.state = .up) (ho : l.onOffer = none)
    (hq : l.outbound = x :: xs) :
    (l.heard cfg chan hs).onOffer = some 0 ∧ (l.heard cfg chan hs).head = x
      ∧ (l.heard cfg chan hs).ackCount = 0 ∧ (l.heard cfg chan hs).sendSeq = l.sendSeq := by
  obtain ⟨n, b, e⟩ := Link.sendSteps_starts (l := l.noteLoss hs) (t := cfg.ackTimeout)
    (v := handshakePresent hs) (a := hs.getLsbD 1) (r := hs.getLsbD 0) hup ho
    (by simp [Link.noteLoss, hq])
  have hsent := (Link.sent_up hup).trans e
  obtain ⟨hon, hack, hseq⟩ := Link.heard_offer (chan := chan) hsent
  exact ⟨hon, Link.heard_head (ms := xs) _ _ _ (by rw [hsent]; exact hq), hack, hseq⟩

/-- A message that is not empty heads a queue. -/
theorem Link.outbound_of_head (h : l.head ≠ []) : ∃ xs, l.outbound = l.head :: xs := by
  unfold Link.head at h ⊢
  cases ho : l.outbound with
  | nil => exact absurd (by rw [ho]; rfl) h
  | cons y ys => exact ⟨ys, rfl⟩

/-- An acknowledged octet gives way to the next one of its message (R136). -/
theorem Link.heard_advances (hup : l.state = .up) (ho : l.onOffer = some j)
    (hj : j + 1 < l.head.length) (hv : handshakePresent hs = true)
    (ha : hs.getLsbD 1 = l.sendSeq) (hr : hs.getLsbD 0 = false) :
    (l.heard cfg chan hs).onOffer = some (j + 1) ∧ (l.heard cfg chan hs).head = l.head
      ∧ (l.heard cfg chan hs).ackCount = 0 ∧ (l.heard cfg chan hs).sendSeq = !l.sendSeq := by
  obtain ⟨n, b, e⟩ := Link.sendSteps_advances (l := l.noteLoss hs) (t := cfg.ackTimeout) ho hj hv ha
    hr
  have hsent := (Link.sent_up hup).trans e
  obtain ⟨hon, hack, hseq⟩ := Link.heard_offer (chan := chan) hsent
  obtain ⟨xs, hxs⟩ := Link.outbound_of_head (l := l) (by rintro hn; simp [hn] at hj)
  exact ⟨hon, Link.heard_head _ _ _ (by rw [hsent]; exact hxs), hack, hseq⟩

/-- An octet that stays on offer short of ACK_TIMEOUT is counted (R138). -/
theorem Link.heard_counts (hup : l.state = .up) (ho : l.onOffer = some j) (hh : l.head ≠ [])
    (h : l.StaysOnOffer hs) (ht : l.ackCount + 1 < cfg.ackTimeout.toNat) :
    (l.heard cfg chan hs).onOffer = some j ∧ (l.heard cfg chan hs).head = l.head
      ∧ (l.heard cfg chan hs).ackCount = l.ackCount + 1
      ∧ (l.heard cfg chan hs).sendSeq = l.sendSeq := by
  obtain ⟨n, b, hsent⟩ := Link.sent_counts hup ho h ht
  obtain ⟨hon, hack, hseq⟩ := Link.heard_offer (chan := chan) hsent
  obtain ⟨xs, hxs⟩ := Link.outbound_of_head hh
  exact ⟨hon.trans ho, Link.heard_head _ _ _ (by rw [hsent]; exact hxs), hack, hseq⟩

/-- Where the head message leaves, the next one starts (R136, R137). -/
theorem Link.heard_passes (hsent : l.sent cfg hs = m.passHead) (hup : m.state = .up) :
    (l.heard cfg chan hs).sendSeq = m.sendSeq
      ∧ (∀ y ys, m.outbound.tail = y :: ys → (l.heard cfg chan hs).onOffer = some 0
        ∧ (l.heard cfg chan hs).head = y ∧ (l.heard cfg chan hs).ackCount = 0)
      ∧ (hs.getLsbD 4 = false → m.HoldsNothing →
        (l.heard cfg chan hs).outbound = m.outbound.tail) := by
  obtain ⟨hon, hack, hseq⟩ := Link.heard_offer (chan := chan) hsent
  refine ⟨hseq.trans m.passHead_sendSeq, fun y ys hq => ?_, fun hoffer hn => ?_⟩
  · obtain ⟨hfirst, hzero, ns, hns⟩ := Link.passHead_next hup hq
    exact ⟨hon.trans hfirst, Link.heard_head _ _ _ (hsent ▸ hns), hack.trans hzero⟩
  · exact (Link.heard_unfinished _ _ (.inl hoffer)).1.trans (hsent ▸ Link.passHead_outbound hn)

/-- A link that leaves UP at an arrival has nothing on offer (R139). -/
theorem Link.heard_up (hup : l.state = .up) (ho : (l.heard cfg chan hs).onOffer = some j) :
    (l.heard cfg chan hs).state = .up := by
  obtain ⟨hst, -, -, hon, -⟩ := Link.sending_eq (l.sending_heard cfg chan hs)
  rw [hst, Link.sent_up hup]
  rw [hon, Link.sent_up hup] at ho
  rcases Link.sendSteps_up (l.noteLoss hs) cfg.ackTimeout (handshakePresent hs) (hs.getLsbD 1)
    (hs.getLsbD 0) with h | h
  · exact h.trans hup
  · rw [h] at ho
    cases ho

theorem Link.heard_refusals (h : l.state = .up ∨ l.state = .stalled) (hseen : l.refusalSeen ≤ 1) :
    (l.heard cfg chan hs).refusals =
      if handshakePresent hs = false then (0, l.refusalLatch)
      else if hs.getLsbD 0 = false then (0, false)
      else if l.refusalLatch = true then (l.refusalSeen, true)
      else if l.refusalSeen = 0 then (1, false)
      else (0, true) := by
  obtain ⟨-, -, -, -, -, hseen', hlatch'⟩ := Link.sending_eq (l.sending_heard cfg chan hs)
  have hsent : ∃ m : Link, m.refusals = l.refusals ∧ (l.sent cfg hs).refusals =
      (m.seeRefusal (handshakePresent hs) (hs.getLsbD 0)).dropRefused.refusals := by
    rcases h with h | h
    · rw [Link.sent_up h]
      exact Link.sendSteps_refusals (l.noteLoss hs) _ _ _ _
    · exact ⟨l.noteLoss hs, rfl, by rw [Link.sent_stalled h]⟩
  obtain ⟨m, hm, e⟩ := hsent
  obtain ⟨hms, hml⟩ := Prod.mk.inj hm
  rw [Link.refusals, hseen', hlatch', ← hms, ← hml]
  exact e.trans (Link.settled_refusals (hms.trans_le hseen) _ _)

/-- Settles O49: each clause is an end of sending, and the pair is that of the channel as it then
stands. -/
theorem sendingOffersRepeatsAndDrops : Obligations.SendingOffersRepeatsAndDrops := by
  unfold Obligations.SendingOffersRepeatsAndDrops
  intro s k chan hs valid hrun hvalid hloss
  have hv : handshakePresent hs = valid := hvalid.symm
  have hin : (s.link k).state = .up ∨ (s.link k).state = .stalled → s.ArrivesInSession k hs :=
    fun hst => ⟨hrun, hst, hloss.imp_left fun h => handshakePresent_iff.mp (hv.trans h)⟩
  refine ⟨fun hup => ?_, fun hst hseen => ?_⟩
  · obtain ⟨t, harrival, hframe, hother, hlink, -⟩ := State.arrival_heard (hin (.inl hup)) chan
    refine ⟨t, congrArg Host.Outcome.next harrival, hframe, hother, ?_⟩
    have hpair := State.presented_session hlink (Link.heard_session (.inl hup))
    rw [hlink] at hpair ⊢
    refine ⟨fun m ms ho hq => Link.heard_starts hup ho hq,
      fun j ho hj h1 ha hr => Link.heard_advances hup ho hj (hv.trans h1) ha hr,
      fun j ho hj h1 ha hn => ?_, fun j ho h1 hr hlast hseen hlatch => ?_,
      fun j ho hh hstays ht => Link.heard_counts hup ho hh hstays ht, fun j ho y hy => ?_⟩
    · obtain ⟨n, b, e⟩ := Link.sendSteps_finishes (l := (s.link k).noteLoss hs)
        (t := s.settings.ackTimeout) (r := hs.getLsbD 0) ho hj.not_lt (hv.trans h1) ha
      have hsent := (Link.sent_up hup).trans e
      obtain ⟨hseq, hnext, hout⟩ := Link.heard_passes (chan := chan) hsent hup
      exact ⟨hseq, hnext,
        fun hq => (Link.heard_offer (hsent.trans (Link.passHead_last (by exact hn) hq))).1,
        fun hoffer => hout hoffer hn⟩
    · have e := Link.sendSteps_drops (l := (s.link k).noteLoss hs) (t := s.settings.ackTimeout) ho
        ⟨hv.trans h1, hr, hseen, hlatch⟩ hlast
      obtain ⟨hseq, hnext, hout⟩ :=
        Link.heard_passes (chan := chan) ((Link.sent_up hup).trans e) hup
      exact ⟨hseq, hnext, hout⟩
    · obtain ⟨h5, h4, h3, -, -, hoffer⟩ := hpair
      have hst := Link.heard_up (chan := chan) hup ho
      obtain ⟨hchannel, hfinal⟩ := hoffer hst j ho y hy
      exact ⟨hchannel, h5, h4.trans (decide_eq_true ⟨hst, Option.isSome_of_eq_some ho⟩), h3,
        hfinal⟩
  · obtain ⟨t, harrival, -, -, hlink, -⟩ := State.arrival_heard (hin hst) chan
    refine ⟨t, congrArg Host.Outcome.next harrival, ?_⟩
    rw [hlink, ← hv]
    exact Link.heard_refusals hst hseen

end Sys2Proof.Machine
end

-- ==== Proofs: the receive machine ====
section
/-! SUPPORT. The receive machine through a whole arrival: the confirmation run, the octets of a
message, its end and its refusal (R140 to R145, R152, R155). -/

namespace Sys2Proof.Machine

-- The proofs are elaborated one after another: many at once take the text past its memory limit.
set_option Elab.async false

variable {s t : State} {k : LinkNo} {chan hs : Byte} {l : Link} {cfg : Settings}

/-! ## Step 6 on the channel that the arrival found -/

/-- The channel in step 6 once the arrival has been noted (R140, R145). -/
def Link.noted (cfg : Settings) (chan hs : Byte) (l : Link) : Link :=
  (l.sent cfg hs).noteArrival (handshakePresent hs) (shownBy chan hs)

/-- What the arrival notes hangs on what the channel had received, and not on what it sends. -/
theorem Link.noted_eq (cfg : Settings) (chan hs : Byte) (l : Link) :
    (l.noted cfg chan hs).expectedSeq = l.expectedSeq
      ∧ (l.noted cfg chan hs).receiveAck = l.receiveAck
      ∧ (l.noted cfg chan hs).assembly = l.assembly
      ∧ (l.noted cfg chan hs).before = shownBy chan hs
      ∧ (l.noted cfg chan hs).assemblyCount = l.assemblyCount
      ∧ (l.noted cfg chan hs).refusalDisplay = l.refusalDisplay - 1 := by
  obtain ⟨-, hexpected, hack, hassembly, -, -, hcount, hdisplay⟩ :=
    Link.receiving_eq (l.sendsOnly_sent cfg hs).receiving
  exact ⟨hexpected, hack, hassembly, rfl, hcount, congrArg (· - 1) hdisplay⟩

/-- The confirmation run that the arrival leaves (R140, R145). -/
theorem Link.noted_run (cfg : Settings) (chan hs : Byte) (l : Link) : (l.noted cfg chan hs).run =
    if hs.extractLsb' 5 3 ≠ 5 ∨ 0 < l.refusalDisplay then 0
    else if 0 < l.run ∧ l.before = shownBy chan hs then min 3 (l.run + 1)
    else 1 := by
  obtain ⟨-, -, -, -, hrun, hbefore, -, hdisplay⟩ :=
    Link.receiving_eq (l.sendsOnly_sent cfg hs).receiving
  refine if_congr ?_ rfl ?_
  · rw [hdisplay, Ne, ← handshakePresent_iff]
    rw [Bool.or_eq_true, decide_eq_true_iff]
    simp [Link.noteLoss]
  · rw [hrun, hbefore]
    rfl

/-- A request leaves at an arrival where its RESULT was HELD alone (R161). -/
theorem Link.request_sent (cfg : Settings) (hs : Byte) (l : Link) :
    (l.sent cfg hs).inProcess = l.inProcess
      ∨ ¬l.HoldsNothing ∧ (l.sent cfg hs).inProcess = none :=
  (l.sendsOnly_sent cfg hs).request

/-- A request that does not leave at an arrival is the one that the arrival found (R142, R161). -/
theorem Link.request_stays (hempty : l.assembly = [])
    (h : l.HoldsNothing ∨ (l.heard cfg chan hs).inProcess.isSome = true) :
    (l.sent cfg hs).inProcess = l.inProcess := by
  refine (l.request_sent cfg hs).resolve_right fun ⟨hheld, hleft⟩ => ?_
  rcases h with hn | hn
  · exact hheld hn
  · rw [(Link.heard_unfinished cfg chan (.inr hempty)).2, hleft] at hn
    cases hn

/-- Sending puts no request in process (R134). -/
theorem Link.request_of_sent (h : (l.sent cfg hs).inProcess.isSome = true) :
    l.inProcess.isSome = true := by
  rcases l.request_sent cfg hs with hkept | ⟨-, hleft⟩
  · rwa [← hkept]
  · rw [hleft] at h
    cases h

theorem Link.noted_hasSession (h : l.state = .up ∨ l.state = .stalled) :
    (l.noted cfg chan hs).hasSession = true := by
  rw [Link.hasSession_iff]
  exact (Link.heard_state cfg chan hs l) ▸ Link.heard_session h

theorem Link.heard_ineligible (h : ¬l.Eligible (handshakePresent hs) (shownBy chan hs)) :
    l.heard cfg chan hs =
      if l.assembly = [] then l.noted cfg chan hs
      else if cfg.assemblyTimeout.toNat ≤ l.assemblyCount + 1 then
        (l.noted cfg chan hs).refuseMessage
      else { l.noted cfg chan hs with assemblyCount := l.assemblyCount + 1 } := by
  obtain ⟨-, hexpected, -, hassembly, -, -, hcount, -⟩ :=
    Link.receiving_eq (l.sendsOnly_sent cfg hs).receiving
  have hsent : ¬(l.sent cfg hs).Eligible (handshakePresent hs) (shownBy chan hs) := by
    rwa [Link.Eligible, hexpected]
  rw [Link.heard, Link.receiveStep_ineligible hsent, hassembly, hcount]
  rfl

theorem Link.heard_eligible (h : l.Eligible (handshakePresent hs) (shownBy chan hs)) :
    l.heard cfg chan hs =
      if 0 < l.refusalDisplay ∨ (l.noted cfg chan hs).run < cfg.confirmCount.toNat then
        l.noted cfg chan hs
      else if l.assembly = [] ∧ (l.sent cfg hs).inProcess.isSome then l.noted cfg chan hs
      else if l.assembly.length = 16 ∨ (hs.getLsbD 2 = true ∧ l.assembly.length < 2) then
        (l.noted cfg chan hs).refuseMessage
      else (l.noted cfg chan hs).takeOctet chan (hs.getLsbD 3) (hs.getLsbD 2) := by
  obtain ⟨-, hexpected, -, hassembly, -, -, -, hdisplay⟩ :=
    Link.receiving_eq (l.sendsOnly_sent cfg hs).receiving
  have hsent : (l.sent cfg hs).Eligible (handshakePresent hs) (shownBy chan hs) := by
    rwa [Link.Eligible, hexpected]
  rw [Link.heard, Link.receiveStep_eligible hsent, hassembly, hdisplay]
  rfl

/-- Settles O47: with no eligible octet step 6 counts, or ends the message at the timeout. -/
theorem assemblyTimeoutRefusesTheMessage : Obligations.AssemblyTimeoutRefusesTheMessage := by
  unfold Obligations.AssemblyTimeoutRefusesTheMessage
  intro s k chan hs c run hc h hnot hrun
  have hexec : exec c s = .next (s.arrival k chan hs) := by rcases hc with rfl | rfl <;> rfl
  obtain ⟨t, harrival, hframe, hother, hlink, -⟩ := State.arrival_heard h chan
  have hineligible : ¬(s.link k).Eligible (handshakePresent hs) (shownBy chan hs) := by
    rintro ⟨hv, hoffer, hseq⟩
    rcases hnot with hn | hn | hn
    · exact hn (handshakePresent_iff.mp hv)
    · exact Bool.false_ne_true (hn.symm.trans hoffer)
    · exact hn hseq
  obtain ⟨hexpected, hack, hassembly, hbefore, hcount, hdisplay⟩ :=
    (s.link k).noted_eq s.settings chan hs
  have hproc : (s.link k).HoldsNothing →
      ((s.link k).noted s.settings chan hs).inProcess = (s.link k).inProcess := fun hn =>
    ((s.link k).request_sent s.settings hs).resolve_right fun hheld => hheld.1 hn
  have hnext : ((s.link k).noted s.settings chan hs).run = run :=
    ((s.link k).noted_run s.settings chan hs).trans hrun.symm
  have hheard := Link.heard_ineligible (cfg := s.settings) hineligible
  obtain ⟨-, -, -, -, hrefuse, -⟩ := State.presented_session hlink (Link.heard_session h.2.1)
  refine ⟨t, hexec.trans (congrArg _ harrival), hframe, hother, ?_⟩
  rw [hlink] at hrefuse ⊢
  by_cases hempty : (s.link k).assembly = []
  · rw [if_pos hempty] at hheard
    rw [hheard, if_neg fun hn => hn.1 hempty]
    exact ⟨hack, hexpected, hbefore, hproc, hassembly, hnext, hcount.trans (if_pos hempty).symm,
      hdisplay⟩
  · rw [if_neg hempty] at hheard
    by_cases ht : s.settings.assemblyTimeout.toNat ≤ (s.link k).assemblyCount + 1
    · rw [if_pos ht] at hheard
      rw [hheard] at hrefuse
      rw [hheard, if_pos ⟨hempty, ht⟩]
      exact ⟨hack, hexpected, hbefore, hproc, rfl, rfl, rfl, rfl, hrefuse⟩
    · rw [if_neg ht] at hheard
      rw [hheard, if_neg fun hn => ht hn.2]
      exact ⟨hack, hexpected, hbefore, hproc, hassembly, hnext, (if_neg hempty).symm, hdisplay⟩

/-! ## The end of a message -/

/-- A finished message touches the buffer, the request in process and the outbound queue (R141). -/
theorem Link.finishMessage_eq (l : Link) (msg : List Byte) : l.finishMessage msg = { l with
    assembly := []
    inProcess := (l.finishMessage msg).inProcess
    outbound := (l.finishMessage msg).outbound } := by
  unfold Link.finishMessage
  dsimp only
  split
  · rfl
  · rcases Link.placeResult_cases (Reply.result (msg.tail.headD 0) { outcome := .badFormat })
      { l with assembly := [], inProcess := some ⟨msg.headD 0, msg.tail.headD 0, none, .handed⟩ }
      with ⟨-, e⟩ | ⟨-, -, e⟩ | ⟨-, -, e⟩ <;> rw [e]

/-- A message that is a circuit request is handed on (R141, R152). -/
theorem Link.finishMessage_request {msg : List Byte} {q : LineRequest}
    (h : Decode.lineRequest msg = some q) : (l.finishMessage msg).inProcess =
      some ⟨msg.headD 0, msg.tail.headD 0, some q, .handed⟩ := by
  simp only [Link.finishMessage, h]

/-- The RESULT of a message with a wrong frame joins the outbound queue, or is HELD (R152, R155). -/
theorem Link.finishMessage_malformed {msg : List Byte} (h : Decode.lineRequest msg = none)
    (hs : l.hasSession = true) :
    ((l.finishMessage msg).inProcess = none ∧ (l.finishMessage msg).outbound.getLast? =
        some (Reply.result (msg.tail.headD 0) { outcome := .badFormat }))
      ∨ (4 ≤ (l.finishMessage msg).outbound.length ∧ (l.finishMessage msg).inProcess =
        some ⟨msg.headD 0, msg.tail.headD 0, none,
          .held (Reply.result (msg.tail.headD 0) { outcome := .badFormat })⟩) := by
  simp only [Link.finishMessage, h]
  rcases Link.placeResult_cases (Reply.result (msg.tail.headD 0) { outcome := .badFormat })
      { l with assembly := [], inProcess := some ⟨msg.headD 0, msg.tail.headD 0, none, .handed⟩ }
      with ⟨hn, -⟩ | ⟨-, -, e⟩ | ⟨-, hfull, e⟩
  · exact absurd (hs.symm.trans hn) (by simp)
  · rw [e]
    exact .inl ⟨rfl, by simp⟩
  · rw [e]
    exact .inr ⟨hfull, rfl⟩

/-- An octet that is taken is acknowledged by its SEQ, and the next one is expected (R141). -/
theorem Link.takeOctet_receives (l : Link) (c : Byte) (q f : Bool) :
    (l.takeOctet c q f).receiveAck = q ∧ (l.takeOctet c q f).expectedSeq = (!l.expectedSeq)
      ∧ (l.takeOctet c q f).assemblyCount = 0 ∧ (l.takeOctet c q f).run = l.run := by
  unfold Link.takeOctet
  dsimp only
  split
  · rw [Link.finishMessage_eq]
    exact ⟨rfl, rfl, rfl, rfl⟩
  · exact ⟨rfl, rfl, rfl, rfl⟩

/-- The request that a finished message becomes is in the hands of the Circuit Manager (R155). -/
theorem State.handed_of_inProcess {kind tag : Byte} {q : LineRequest}
    (h : (t.link k).inProcess = some ⟨kind, tag, some q, .handed⟩) :
    t.handed k = some (tag, q) := by
  rw [State.handed, h]

/-- What the last octet of a message makes of the channel (R141, R152, R155). -/
theorem Link.takeOctet_final (hs : l.hasSession = true) {c : Byte} {q : Bool} {msg : List Byte}
    (hmsg : msg = l.assembly ++ [c]) :
    (l.takeOctet c q true).assembly = []
      ∧ (∀ r, Decode.lineRequest msg = some r → (l.takeOctet c q true).inProcess =
        some ⟨msg.headD 0, msg.tail.headD 0, some r, .handed⟩)
      ∧ (Decode.lineRequest msg = none →
        ((l.takeOctet c q true).inProcess = none ∧ (l.takeOctet c q true).outbound.getLast? =
            some (Reply.result (msg.tail.headD 0) { outcome := .badFormat }))
          ∨ (4 ≤ (l.takeOctet c q true).outbound.length ∧ (l.takeOctet c q true).inProcess =
            some ⟨msg.headD 0, msg.tail.headD 0, none,
              .held (Reply.result (msg.tail.headD 0) { outcome := .badFormat })⟩)) := by
  have hfinish : l.takeOctet c q true = Link.finishMessage msg { l with
      assembly := msg, receiveAck := q, expectedSeq := !l.expectedSeq, assemblyCount := 0 } := by
    rw [hmsg]
    rfl
  rw [hfinish]
  exact ⟨by rw [Link.finishMessage_eq], fun _ hr => Link.finishMessage_request hr,
    fun hr => Link.finishMessage_malformed hr hs⟩

/-- Settles O50: an eligible octet meets the tests of step 6 one after another, and a refusal shown
passes it over. -/
theorem confirmedOctetsJoinTheMessage : Obligations.ConfirmedOctetsJoinTheMessage := by
  unfold Obligations.ConfirmedOctetsJoinTheMessage
  refine ⟨fun s k chan hs final run msg hrun hst hdisplay hv hoffer hseq hfinal hnext hmsg => ?_,
    fun s k chan hs h => ?_⟩
  · have h : s.ArrivesInSession k hs := ⟨hrun, hst, .inl hv⟩
    obtain ⟨t, harrival, hframe, hother, hlink, -⟩ := State.arrival_heard h chan
    obtain ⟨hexpected, hack, hassembly, -, hcount, -⟩ := (s.link k).noted_eq s.settings chan hs
    have hnext' : ((s.link k).noted s.settings chan hs).run = run := by
      rw [Link.noted_run, if_neg (by simp [hv, hdisplay]), hnext, hfinal, shownBy, hoffer]
    have hheard := Link.heard_eligible (cfg := s.settings) (chan := chan)
      ⟨handshakePresent_iff.mpr hv, hoffer, hseq⟩
    rw [hnext', ← hfinal] at hheard
    obtain ⟨-, -, -, hbit1, hbit0, -⟩ := State.presented_session hlink (Link.heard_session hst)
    refine ⟨t, congrArg Host.Outcome.next harrival, hframe, hother, ?_⟩
    rw [hlink] at hbit0 hbit1 ⊢
    by_cases hshort : run < s.settings.confirmCount.toNat
    · rw [if_pos (.inr hshort)] at hheard
      rw [if_pos hshort, hheard]
      exact ⟨hassembly, hnext', hack, hexpected, hcount⟩
    rw [if_neg (by simp [hdisplay, hshort])] at hheard
    rw [if_neg hshort]
    by_cases hbusy : (s.link k).assembly = [] ∧ (s.link k).inProcess.isSome = true
    · rw [if_pos hbusy]
      intro hstays
      have hkept := Link.request_stays hbusy.1 hstays
      rw [if_pos ⟨hbusy.1, by rw [hkept]; exact hbusy.2⟩] at hheard
      rw [hheard]
      exact ⟨hassembly.trans hbusy.1, hnext', hkept, hack, hexpected, hcount⟩
    rw [if_neg fun hn => hbusy ⟨hn.1, Link.request_of_sent hn.2⟩] at hheard
    rw [if_neg hbusy]
    by_cases hrefuse : (s.link k).assembly.length = 16
        ∨ (final = true ∧ (s.link k).assembly.length < 2)
    · rw [if_pos hrefuse] at hheard
      rw [hheard] at hbit0
      rw [if_pos hrefuse, hheard]
      exact ⟨rfl, rfl, rfl, rfl, hack, hexpected, hbit0⟩
    rw [if_neg hrefuse] at hheard
    rw [if_neg hrefuse]
    rw [hheard] at hlink hbit1
    rw [hheard]
    obtain ⟨htaken, htoggled, hzero, hkept⟩ := Link.takeOctet_receives
      ((s.link k).noted s.settings chan hs) chan (hs.getLsbD 3) final
    refine ⟨htaken, htoggled.trans (congrArg not hexpected), hzero, hkept.trans hnext',
      hbit1.trans htaken, ?_⟩
    rw [← hassembly] at hmsg
    cases final with
    | false => exact hmsg.symm
    | true =>
      obtain ⟨hempty, hrequest, hmalformed⟩ := Link.takeOctet_final (q := hs.getLsbD 3)
        (Link.noted_hasSession hst) hmsg
      exact ⟨hempty, fun q hq => ⟨hrequest q hq,
        State.handed_of_inProcess (by rw [hlink]; exact hrequest q hq)⟩, hmalformed⟩
  · obtain ⟨t, harrival, -, -, hlink, -⟩ := State.arrival_heard h chan
    obtain ⟨hexpected, hack, hassembly, -, hcount, hdisplay⟩ :=
      (s.link k).noted_eq s.settings chan hs
    obtain ⟨-, -, -, -, hrefuse, -⟩ := State.presented_session hlink (Link.heard_session h.2.1)
    refine ⟨t, congrArg Host.Outcome.next harrival, hrefuse, fun hshown hpassed => ?_⟩
    have hheard : (s.link k).heard s.settings chan hs = (s.link k).noted s.settings chan hs := by
      by_cases he : (s.link k).Eligible (handshakePresent hs) (shownBy chan hs)
      · rw [Link.heard_eligible he, if_pos (.inl hshown)]
      · rw [Link.heard_ineligible he, if_pos]
        exact hpassed.resolve_right fun hn => he ⟨handshakePresent_iff.mpr hn.1, hn.2⟩
    rw [hlink, hheard]
    exact ⟨hdisplay, ((s.link k).noted_run s.settings chan hs).trans (if_pos (.inr hshown)),
      hassembly, hcount, hack, hexpected⟩

end Sys2Proof.Machine
end

-- ==== Proofs: the octets of a message ====
section
/-! SUPPORT. A message closed by its check, and the line requests that a message carries (R150 to
R153; 13.2): the check makes the sum 0, kind and parameters are read back as they were sent. -/

namespace Sys2Proof.Machine

-- The proofs are elaborated one after another: many at once take the text past its memory limit.
set_option Elab.async false

/-! ## The check -/

theorem checkSum_append (a b : List Byte) :
    Decode.checkSum (a ++ b) = Decode.checkSum a + Decode.checkSum b := by
  induction a with
  | nil => exact (BitVec.zero_add _).symm
  | cons x rest ih => exact (congrArg (x + ·) ih).trans (BitVec.add_assoc _ _ _).symm

theorem checkSum_singleton (x : Byte) : Decode.checkSum [x] = x := BitVec.add_zero x

/-- The sum of a message's octets as it is written out, from the first octet on. -/
theorem checkSum_cons (a : Byte) (l : List Byte) :
    Decode.checkSum (a :: l) = l.foldl (· + ·) a := by
  induction l generalizing a with
  | nil => exact checkSum_singleton a
  | cons b rest ih => rw [List.foldl_cons, ← ih]; exact (BitVec.add_assoc _ _ _).symm

/-- The check makes the sum 0 (R150). -/
theorem checkSum_withCheck (m : List Byte) : Decode.checkSum (Decode.withCheck m) = 0 := by
  rw [Decode.withCheck, checkSum_append, checkSum_singleton]
  exact BitVec.add_right_neg _

/-- No other octet in the place of the check makes the sum 0 (R150). -/
theorem withCheck_eq_append_iff (m : List Byte) (c : Byte) :
    Decode.withCheck m = m ++ [c] ↔ Decode.checkSum (m ++ [c]) = 0 := by
  refine ⟨fun h => h ▸ checkSum_withCheck m, fun h => ?_⟩
  rw [checkSum_append, checkSum_singleton] at h
  rw [Decode.withCheck, eq_neg_of_add_eq_zero_right h]

/-! ## Kind and parameters -/

theorem length_destOctets (dests : List (Byte × Byte)) :
    (dests.flatMap fun d => [d.1, d.2]).length = 2 * dests.length := by
  induction dests with
  | nil => rfl
  | cons d rest ih =>
    rw [List.flatMap_cons, List.length_append, ih, List.length_cons]
    exact (Nat.add_comm 2 _)

theorem pairs_destOctets (dests : List (Byte × Byte)) :
    Decode.pairs (dests.flatMap fun d => [d.1, d.2]) = dests := by
  induction dests with
  | nil => rfl
  | cons d rest ih => exact congrArg (d :: ·) ih

/-- Width and cutover of an OPEN share an octet: width in bits 3..0, cutover in bit 4 (13.2). -/
theorem widthOctet_eq (w : BitVec 4) (sf : Bool) :
    (if sf then 16 else 0) + w.setWidth 8 = octet (mark sf 4 + w.toNat) := by
  refine BitVec.eq_of_toNat_eq ?_
  rw [BitVec.toNat_add, BitVec.toNat_setWidth, toNat_octet]
  cases sf with
  | false => simp [mark]
  | true => simp [mark]

theorem widthOctet_fields (w : BitVec 4) (sf : Bool) :
    ((if sf then 16 else 0) + w.setWidth 8 : Byte).extractLsb' 0 4 = w
      ∧ ((if sf then 16 else 0) + w.setWidth 8 : Byte).getLsbD 4 = sf := by
  have hw : w.toNat < 16 := w.isLt
  have hsf := sf.toNat_le
  rw [widthOctet_eq, mark_eq]
  exact ⟨BitVec.eq_of_toNat_eq ((octet_field _ (by decide)).trans (by omega)),
    octet_bit (by decide) (by omega)⟩

theorem LineRequest.wellFormed_open_iff {sl ss lease : Byte} {w : BitVec 4} {sf : Bool}
    {dests : List (Byte × Byte)} :
    (LineRequest.openCircuit sl ss w sf lease dests).wellFormed = true
      ↔ 1 ≤ dests.length ∧ dests.length ≤ 4 := by
  simp [LineRequest.wellFormed]

/-- The parameters of an OPEN: four octets, then one to four destination pairs (R151). -/
theorem parameters_open (sl ss wc lease : Byte) {dests : List (Byte × Byte)}
    (hmin : 1 ≤ dests.length) (hmax : dests.length ≤ 4) :
    Decode.parameters 1 ([sl, ss, wc, lease] ++ dests.flatMap fun d => [d.1, d.2])
      = some (.openCircuit sl ss (wc.extractLsb' 0 4) (wc.getLsbD 4) lease dests) := by
  have hlen : 2 ≤ (dests.flatMap fun d => [d.1, d.2]).length
      ∧ (dests.flatMap fun d => [d.1, d.2]).length ≤ 8
      ∧ (dests.flatMap fun d => [d.1, d.2]).length % 2 = 0 := by
    rw [length_destOctets]
    omega
  exact (if_pos hlen).trans
    (congrArg (fun ds => some (LineRequest.openCircuit sl ss _ _ lease ds))
      (pairs_destOctets dests))

/-- A request that a message can carry is read from its kind and its parameters (R151; 13.2). -/
theorem parameters_requestOctets {r : LineRequest} (h : r.wellFormed = true) :
    Decode.parameters (Decode.requestOctets r).1 (Decode.requestOctets r).2 = some r := by
  cases r with
  | openCircuit sl ss w sf lease dests =>
    obtain ⟨hmin, hmax⟩ := LineRequest.wellFormed_open_iff.mp h
    obtain ⟨hwidth, hcutover⟩ := widthOctet_fields w sf
    refine (parameters_open sl ss _ lease hmin hmax).trans ?_
    rw [hwidth, hcutover]
  | add i g l f => rfl
  | drop i g l f => rfl
  | release i g => rfl
  | renew i g v => rfl
  | status i g => rfl

/-- A request has two to twelve octets of parameters (R151). -/
theorem length_requestOctets {r : LineRequest} (h : r.wellFormed = true) :
    2 ≤ (Decode.requestOctets r).2.length ∧ (Decode.requestOctets r).2.length ≤ 12 := by
  cases r with
  | openCircuit sl ss w sf lease dests =>
    have hmax := (LineRequest.wellFormed_open_iff.mp h).2
    rw [Decode.requestOctets, List.length_append, length_destOctets, List.length_cons]
    simp only [List.length_cons, List.length_nil]
    omega
  | add i g l f => simp [Decode.requestOctets]
  | drop i g l f => simp [Decode.requestOctets]
  | release i g => simp [Decode.requestOctets]
  | renew i g v => simp [Decode.requestOctets]
  | status i g => simp [Decode.requestOctets]

/-- A message with its check is read by its kind and by what stands between tag and check (R152). -/
theorem lineRequest_withCheck (kind tag : Byte) (ps : List Byte) :
    Decode.lineRequest (Decode.withCheck (kind :: tag :: ps)) = Decode.parameters kind ps := by
  have hsum := checkSum_withCheck (kind :: tag :: ps)
  exact (if_pos ⟨hsum, List.concat_ne_nil _ _⟩).trans
    (congrArg (Decode.parameters kind) List.dropLast_concat)

theorem length_encodeLineRequest (tag : Byte) (r : LineRequest) :
    (Decode.encodeLineRequest tag r).length = (Decode.requestOctets r).2.length + 3 := by
  simp [Decode.encodeLineRequest, Decode.withCheck]

/-- Settles O4: the message passes its check, and its kind gives its parameters back. -/
theorem lineRequestsRoundTrip : Obligations.LineRequestsRoundTrip := by
  intro tag r hwf
  obtain ⟨hmin, hmax⟩ := length_requestOctets hwf
  have hread : Decode.lineRequest (Decode.encodeLineRequest tag r) = some r :=
    (lineRequest_withCheck _ tag _).trans (parameters_requestOctets hwf)
  rw [length_encodeLineRequest]
  exact ⟨hread, rfl, checkSum_withCheck _, by omega, by omega⟩

end Sys2Proof.Machine
end

-- ==== Proofs: notices and RESULTs ====
section
/-! SUPPORT. A notice and a RESULT, octet by octet, and what each does to the link that it is handed
to (R155, R158 to R163; 13.2). -/

namespace Sys2Proof.Machine

-- The proofs are elaborated one after another: many at once take the text past its memory limit.
set_option Elab.async false

/-! ## Notices -/

/-- A message that is written out with an octet in the place of its check is closed by that octet
exactly if its octets add up to 0 (R150). -/
theorem withCheck_cons_eq_iff (a : Byte) (l : List Byte) (c : Byte) :
    Decode.withCheck (a :: l) = a :: (l ++ [c]) ↔ (l ++ [c]).foldl (· + ·) a = 0 := by
  rw [← checkSum_cons]
  exact withCheck_eq_append_iff (a :: l) c

/-- A notice raises NOTICE_LOST unless it joins the queue (R160, R162). -/
theorem State.flags_notify (s : State) (k : LinkNo) (n : Notice) (x g : Byte) :
    (s.notify k n x g).events.flags =
      if (s.link k).hasSession = true ∧ (s.link k).outbound.length < 4 then s.events.flags
      else s.events.flags ||| flagBit noticeLostEvent := by
  unfold State.notify Config.outboundRoom
  by_cases hs : (s.link k).hasSession = true
  · by_cases hr : (s.link k).outbound.length < 4
    · simp [hs, hr]
    · simp [hs, hr, State.raise]
  · simp [hs, State.raise]

/-! ## RESULTs -/

theorem OutcomeCode.code_lt (o : OutcomeCode) : o.code < 32 := by cases o <;> decide

/-- The octet of a RESULT that holds the outcome and the three presence bits (R158). -/
def Reply.outcomeOctet (r : Reply) : Byte :=
  octet (r.outcome.code + mark r.reference.isSome 5 + mark r.state.isSome 6 + mark r.lease.isSome 7)

theorem Reply.outcomeOctet_fields (r : Reply) :
    (r.outcomeOctet.extractLsb' 0 5).toNat = r.outcome.code
      ∧ r.outcomeOctet.getLsbD 5 = r.reference.isSome
      ∧ r.outcomeOctet.getLsbD 6 = r.state.isSome
      ∧ r.outcomeOctet.getLsbD 7 = r.lease.isSome := by
  have hcode := r.outcome.code_lt
  have href := r.reference.isSome.toNat_le
  have hstate := r.state.isSome.toNat_le
  have hlease := r.lease.isSome.toNat_le
  simp only [Reply.outcomeOctet, mark_eq]
  refine ⟨(octet_field _ (by decide)).trans ?_, octet_bit (by decide) ?_, octet_bit (by decide) ?_,
    octet_bit (by decide) ?_⟩
  · omega
  · omega
  · omega
  · omega

/-- A RESULT octet by octet, each octet of what is absent 00h, closed by its check (R158; 13.2). -/
theorem Reply.result_eq (tag : Byte) (r : Reply) {st : Byte} (h : octet r.stateCode = st) :
    r.result tag = [0x81, tag, r.outcomeOctet, r.index, r.generation, st, r.lease.getD 0,
      ((r.result tag)[7]?).getD 0] := by
  rw [← h]
  rfl

/-- What becomes of a RESULT of the request in process (R155). -/
theorem Link.placeResult_of_inProcess {l : Link} {q : InProcess} (h : l.inProcess = some q)
    (m : List Byte) : l.placeResult m =
      if ¬(l.state = .up ∨ l.state = .stalled) then { l with inProcess := none }
      else if l.outbound.length < 4 then
        { l with outbound := l.outbound ++ [m], inProcess := none }
      else { l with inProcess := some { q with phase := .held m } } := by
  rcases l.placeResult_cases m with ⟨hs, e⟩ | ⟨hs, hr, e⟩ | ⟨hs, hr, e⟩
  · rw [e, if_pos (mt l.hasSession_iff.mpr (by simp [hs]))]
  · rw [e, if_neg (not_not.mpr (l.hasSession_iff.mp hs)), if_pos hr]
  · rw [e, if_neg (not_not.mpr (l.hasSession_iff.mp hs)), if_neg (Nat.not_lt.mpr hr), h]
    rfl

/-- Settles O40: a notice by its link and its flag, each message octet by octet, and a RESULT by
where it is placed. -/
theorem messagesJoinTheOutboundQueue : Obligations.MessagesJoinTheOutboundQueue := by
  refine ⟨fun s k n x g => ⟨_, rfl, s.notify_eq k n x g, fun j => ?_, ?_⟩,
    fun n number x g check => ?_, fun s k q reply m outcome check hq hm hout hcheck => ⟨?_, ?_⟩⟩
  · simp only [State.link_notify, Link.hasSession_iff, ite_not]
  · simp only [State.flags_notify, Link.hasSession_iff]
    rfl
  · cases n with
    | live => exact withCheck_cons_eq_iff 0x82 [number, x, g] check
    | changed => exact withCheck_cons_eq_iff 0x84 [number, x, g] check
    | retiredLease => exact withCheck_cons_eq_iff 0x83 [number, x, g, 1] check
    | retiredHost => exact withCheck_cons_eq_iff 0x83 [number, x, g, 2] check
    | retiredAdopted => exact withCheck_cons_eq_iff 0x83 [number, x, g, 3] check
  · subst hm
    obtain rfl : outcome = reply.outcomeOctet := hout
    subst hcheck
    refine ⟨reply.result_eq q.tag ?_, checkSum_withCheck _, reply.outcomeOctet_fields⟩
    unfold Reply.stateCode
    rcases reply.state with _ | st
    · rfl
    · cases st <;> rfl
  · refine ⟨_, rfl, s.answerLine_eq k reply, fun j => ?_⟩
    rw [State.link_answerLine, hq, hm, ← Link.placeResult_of_inProcess hq]

end Sys2Proof.Machine
end

-- ==== Proofs: the ends of a referral ====
section
/-! SUPPORT. What a denial and an approval leave of the part (R173, R174), as DECIDE answers them and as
a referral timeout brings a denial about (R171). -/

namespace Sys2Proof.Machine

-- The proofs are elaborated one after another: many at once take the text past its memory limit.
set_option Elab.async false

variable {s : State} {k : LinkNo} {r : Referral}

/-! ## Denial -/

/-- The answer that the line unit has to a referral that is denied (R174). -/
def Referral.denial (r : Referral) : Reply where
  outcome := .denied
  reference := some (indexOctet r.circuit, r.generation)

/-- A denial in full: the record is freed, the RESULT is placed, and the referral record is EMPTY
(R174). -/
theorem State.denyReferral_eq (s : State) (k : LinkNo) (r : Referral) : s.denyReferral k r = { s with
    manager := (s.freeRecord r.circuit).manager
    links := (s.answerLine k r.denial).links
    referrals := (s.setReferral k none).referrals } := by
  have h : s.denyReferral k r
      = ((s.freeRecord r.circuit).answerLine k r.denial).setReferral k none := rfl
  rw [h, State.answerLine_eq, State.links_answerLine_congr (s.links_freeRecord _), State.freeRecord_eq]
  rfl

/-- What a denial of link k's referral leaves of the part (R174). -/
structure State.Denies (s : State) (k : LinkNo) (r : Referral) (t : State) : Prop where
  kept : s.KeepsElsewhere t
  referral : ∀ j : LinkNo, t.referral j = if k = j then none else s.referral j
  record : s.RecordBecomes t r.circuit { generation := (s.record r.circuit).generation }
  map : s.MapBecomes t fun _ _ _ e => released r.circuit e
  queue : t.manager.queue = s.manager.queue
  mailbox : t.mailbox = s.mailbox
  events : t.events = s.events
  attentionCount : t.manager.attentionCount = s.countCleared r.circuit
  links : t.links = (s.answerLine k r.denial).links

theorem State.denies_denyReferral (s : State) (k : LinkNo) (r : Referral) :
    s.Denies k r (s.denyReferral k r) := by
  have hfree := s.freeRecord_eq r.circuit
  rw [State.denyReferral_eq]
  refine ⟨?_, fun j => s.referral_setReferral k j none, s.record_freeRecord r.circuit,
    s.mapBecomes_freeRecord r.circuit, ?_, rfl, rfl, ?_, rfl⟩
  · rw [State.KeepsElsewhere, hfree]
    rfl
  · rw [hfree]
  · rw [hfree]

/-! ## Approval -/

/-- Two states with one Referral Unit have the same referrals. -/
theorem State.referral_congr {t : State} (h : t.referrals = s.referrals) (k : LinkNo) :
    t.referral k = s.referral k := by
  simp only [State.referral, h]

/-- The answer that the line unit has to a referral that is approved (R173). -/
def State.approval (s : State) (r : Referral) : Reply where
  outcome := .ok
  reference := some (indexOctet r.circuit, (s.record r.circuit).generation)
  state := some .opening
  lease := (s.record r.circuit).remaining

theorem State.report_openReferred (s : State) (r : Referral) :
    (s.openReferred r).report r.circuit = s.approval r := by
  rw [State.report, State.record_openReferred]
  rfl

/-- An approval in full: the ACTIVATE is staged, the RESULT is placed, and the referral record is EMPTY
(R173). -/
theorem State.approveReferral_writes (s : State) (k : LinkNo) (r : Referral) :
    s.approveReferral k r = { s with
      manager := (s.openReferred r).manager
      links := (s.answerLine k (s.approval r)).links
      referrals := (s.setReferral k none).referrals } := by
  rw [State.approveReferral_eq, State.report_openReferred, State.answerLine_eq,
    State.links_answerLine_congr (s := s) (t := s.openReferred r) rfl]
  rfl

/-- What an approval of link k's referral leaves of the part (R173). -/
structure State.Approves (s : State) (k : LinkNo) (r : Referral) (t : State) : Prop where
  kept : s.KeepsElsewhere t
  referral : ∀ j : LinkNo, t.referral j = if k = j then none else s.referral j
  record : s.RecordBecomes t r.circuit { s.record r.circuit with
    state := .opening, staged := some ⟨.activate, r.cutover, .owner⟩ }
  map : t.manager.map = s.manager.map
  queue : t.manager.queue
    = s.manager.queue ++ [⟨r.circuit, .activate, r.cutover, s.timing.tally, false⟩]
  mailbox : t.mailbox = s.mailbox
  events : t.events = s.events
  attentionCount : t.manager.attentionCount = s.manager.attentionCount
  links : t.links = (s.answerLine k (s.approval r)).links

theorem State.approves_approveReferral (s : State) (k : LinkNo) (r : Referral) :
    s.Approves k r (s.approveReferral k r) := by
  have hstages := s.stages_openReferred r
  rw [State.approveReferral_writes]
  refine ⟨rfl, fun j => s.referral_setReferral k j none, fun j => ?_, rfl, hstages.queue, rfl, rfl, rfl,
    rfl⟩
  exact (hstages.acts.recordBecomes j).trans (by rw [State.record_openReferred])

/-! ## DECIDE -/

/-- An APPROVE of a WAITING referral, where the queue has room (R173). -/
theorem State.takeDecide_approve {l : Byte} (hl : l.toNat = k.val) (hk : s.referral k = some r)
    (hroom : s.HasRoom) : s.takeDecide l 1 = (⟨.ok, respond [(0, 3), (1, indexOctet r.circuit),
      (2, r.generation), (3, 2), (8, l)], some r.circuit⟩, s.approveReferral k r) := by
  have hq : s.queueHasRoom = true := decide_eq_true hroom
  have hstate : ((s.approveReferral k r).record r.circuit).state = .opening := by
    rw [(s.approves_approveReferral k r).record, if_pos rfl]
  unfold State.takeDecide
  rw [linkOf_eq l k hl]
  simp only [show (1 : Byte).toNat = 1 from rfl, hk, hq, if_true, hstate]
  rfl

/-- A DENY of a WAITING referral (R174). -/
theorem State.takeDecide_deny {l : Byte} (hl : l.toNat = k.val) (hk : s.referral k = some r) :
    s.takeDecide l 2 = (⟨.ok, respond [(0, 3), (1, indexOctet r.circuit), (2, r.generation), (3, 0),
      (8, l)], none⟩, s.denyReferral k r) := by
  have hstate : ((s.denyReferral k r).record r.circuit).state = .free := by
    rw [(s.denies_denyReferral k r).record, if_pos rfl]
  unfold State.takeDecide
  rw [linkOf_eq l k hl]
  simp only [show (2 : Byte).toNat = 2 from rfl, hk, hstate]
  rfl

/-- Settles O23: both verdicts are taken, and the answer of the mailbox leaves what they write. -/
theorem verdictsEndAReferral : Obligations.VerdictsEndAReferral := by
  unfold Obligations.VerdictsEndAReferral
  refine ⟨fun s await k r hr hk hv href hno hroom => ?_, fun s await k r hr hk hv href => ?_⟩
  · let n := s.noteCommand 0x0F await
    let m := n.approveReferral k r
    have hbody : State.hostDecide n = (⟨.ok, respond [(0, 3), (1, indexOctet r.circuit),
        (2, r.generation), (3, 2), (8, s.request 0)], some r.circuit⟩, m) := by
      have htaken := State.takeDecide_approve (s := n) hk href hroom
      rwa [← hv] at htaken
    have ha := n.approves_approveReferral k r
    obtain ⟨hlinks, hreferrals, hcount, htable, hmap⟩ := m.finishCommand_keeps await ⟨.ok, _, _⟩
    exact ⟨_, congrArg Host.Outcome.next (State.takeCommand_ready hr hbody),
      State.KeepsElsewhere.trans (State.KeepsElsewhere.trans (t := n) rfl ha.kept)
        (m.keepsElsewhere_finishCommand _ _),
      fun j => (State.referral_congr hreferrals j).trans (ha.referral j),
      fun j => (State.record_congr htable j).trans (ha.record j), hmap.trans ha.map,
      State.queue_finishCommand ha.queue rfl hno _, hcount.trans ha.attentionCount,
      (hlinks.trans ha.links).trans (State.links_answerLine_congr (s := s) (t := n) rfl _ _),
      State.answersStaged_finishCommand ha.mailbox (congrArg Events.flags ha.events) _ _⟩
  · let n := s.noteCommand 0x0F await
    let m := n.denyReferral k r
    have hbody : State.hostDecide n = (⟨.ok, respond [(0, 3), (1, indexOctet r.circuit),
        (2, r.generation), (3, 0), (8, s.request 0)], none⟩, m) := by
      have htaken := State.takeDecide_deny (s := n) hk href
      rwa [← hv] at htaken
    have hd := n.denies_denyReferral k r
    have hans := State.answersAtOnce_complete hd.mailbox .ok
    rw [hd.events] at hans
    exact ⟨_, congrArg Host.Outcome.next (State.takeCommand_ready hr hbody),
      State.KeepsElsewhere.trans (State.KeepsElsewhere.trans (t := n) rfl hd.kept)
        (m.keepsElsewhere_finishCommand _ _),
      hd.referral, hd.record, hd.map, hd.queue, hd.attentionCount,
      hd.links.trans (State.links_answerLine_congr (s := s) (t := n) rfl _ _), hans _⟩

/-! ## Timeouts -/

/-- With no timeout handed on for its link, a row of REFERRAL_TIMEOUT does nothing (R171). -/
theorem State.takeTimeout_none (h : ∀ x ∈ s.manager.timeouts, x.link ≠ k) : s.takeTimeout k = s := by
  have hfind : s.manager.timeouts.find? (fun x => decide (x.link = k)) = none :=
    List.find?_eq_none.mpr fun x hx => by simpa using h x hx
  rw [State.takeTimeout, hfind]

/-- The oldest timeout of a link leaves the list, and is taken (R171). -/
theorem State.takeTimeout_oldest {before after : List Timeout} {x : Timeout}
    (hts : s.manager.timeouts = before ++ x :: after) (hx : x.link = k)
    (hb : ∀ y ∈ before, y.link ≠ k) :
    s.takeTimeout k = (s.setTimeouts (before ++ after)).timeOut x := by
  have hfind : s.manager.timeouts.find? (fun y => decide (y.link = k)) = some x := by
    rw [hts, List.find?_append, List.find?_eq_none.mpr fun y hy => by simpa using hb y hy,
      List.find?_cons_of_pos (by simpa using hx)]
    rfl
  have herase : s.manager.timeouts.erase x = before ++ after := by
    rw [hts, List.erase_append_right _ fun hmem => hb x hmem hx, List.erase_cons_head]
  rw [State.takeTimeout, hfind]
  dsimp only
  rw [herase]

/-- A timeout that names no waiting referral does nothing more (R171). -/
theorem State.timeOut_stale {x : Timeout}
    (h : ∀ r ∈ s.referral x.link, ¬(r.circuit = x.circuit ∧ r.generation = x.generation)) :
    s.timeOut x = s := by
  unfold State.timeOut
  cases hr : s.referral x.link with
  | none => rfl
  | some r => exact if_neg (h r hr)

/-- A timeout that names the waiting referral denies it (R171, R174). -/
theorem State.timeOut_denies {x : Timeout} (hr : s.referral x.link = some r)
    (hc : r.circuit = x.circuit) (hg : r.generation = x.generation) :
    s.timeOut x = s.denyReferral x.link r := by
  unfold State.timeOut
  rw [hr]
  exact if_pos ⟨hc, hg⟩

/-- Settles O43: the timeout leaves the list, and by the reference that it names it denies or does
nothing. -/
theorem referralTimeoutsDenyTheirReferral : Obligations.ReferralTimeoutsDenyTheirReferral := by
  unfold Obligations.ReferralTimeoutsDenyTheirReferral
  refine fun s k => ⟨fun hnone => congrArg Host.Outcome.next (State.takeTimeout_none hnone),
    fun before after x hts hx hb => ?_⟩
  let n := s.setTimeouts (before ++ after)
  have hexec : exec (.referralTimeout k) s = .next (n.timeOut x) :=
    congrArg Host.Outcome.next (State.takeTimeout_oldest hts hx hb)
  subst hx
  refine ⟨fun hstale => ?_, fun r hr hc hg => ?_⟩
  · rw [hexec, State.timeOut_stale (s := n) hstale]
    rfl
  · have hd := n.denies_denyReferral x.link r
    rw [← State.timeOut_denies (s := n) hr hc hg] at hd
    exact ⟨_, hexec, hd.kept, hd.referral, hd.record, hd.map, hd.queue, hd.mailbox, hd.events,
      hd.attentionCount, hd.links.trans (State.links_answerLine_congr (s := s) (t := n) rfl _ _)⟩

end Sys2Proof.Machine
end

-- ==== Proofs: host writes, refused commands and device reset ====
section
/-! SUPPORT. A host write of one octet and the row that it is, the COMMAND writes that no command
body takes, ABANDON, and the register map after device reset (R179, R184, R186, R187, R191; 13.6). -/

namespace Sys2Proof.Machine

-- The proofs are elaborated one after another: many at once take the text past its memory limit.
set_option Elab.async false

variable {s : State} {code : BitVec 7} {await : Bool}

/-! ## Host writes -/

/-- The row of a CONTROL write is the write: CP_RESET goes before ABANDON (R187, R188). -/
theorem exec_controlRow (s : State) (v : Byte) :
    exec (if v.getLsbD 1 then .cpReset else if v.getLsbD 0 then .abandon
      else .registerWrite 0x34 v) s = .next (s.writeControl v) := by
  by_cases hreset : v.getLsbD 1
  · rw [State.writeControl, if_pos hreset, if_pos hreset]
    rfl
  · by_cases habandon : v.getLsbD 0
    · rw [State.writeControl, if_neg hreset, if_pos habandon, if_neg hreset, if_pos habandon]
      rfl
    · rw [if_neg hreset, if_neg habandon]
      rfl

/-- The row of a ROLE write is the write, by bit 0 alone (R92; 13.6). -/
theorem exec_roleRow (s : State) (v : Byte) :
    exec (if v.getLsbD 0 then .writeMaster (List.replicate 8 []) else .writeSlave) s
      = .next (s.writeRole v) := by
  unfold State.writeRole
  cases v.getLsbD 0 <;> rfl

/-- A write to an address of the bank FILL_k (R84; 13.6). -/
theorem State.writeRegister_fill (s : State) {a : BitVec 7} (h : 0x68 ≤ a.toNat ∧ a.toNat ≤ 0x6F)
    (v : Byte) : s.writeRegister a v = s.writeFill (Decode.bankLink a) v := by
  simp only [State.writeRegister]
  repeat rw [if_neg (by omega)]
  rw [if_pos (by omega)]

/-- Settles O5, address by address: each row is the branch of the register write at its address. -/
theorem hostWritesAreTheirRows : Obligations.HostWritesAreTheirRows := by
  unfold Obligations.HostWritesAreTheirRows
  intro s a v
  have haddress : ∀ {n : Nat}, a.toNat = n → a = BitVec.ofNat 7 n := fun h => by
    rw [← h, BitVec.ofNat_toNat, BitVec.setWidth_eq]
  unfold Decode.hostWrite
  split
  case h_1 h =>
    rw [haddress h]
    exact exec_commandRow _ _ s
  case h_2 h =>
    rw [haddress h]
    exact exec_controlRow s v
  case h_3 h => rw [haddress h]; rfl
  case h_4 h => rw [haddress h]; rfl
  case h_5 h => rw [haddress h]; rfl
  case h_6 h => rw [haddress h]; rfl
  case h_7 h =>
    rw [haddress h]
    exact exec_roleRow s v
  case h_8 h => rw [haddress h]; rfl
  case h_9 =>
    split
    next hfill => exact congrArg Host.Outcome.next (s.writeRegister_fill hfill v).symm
    next => rfl

/-! ## COMMAND writes that no command body takes -/

/-- A COMMAND write is refused in AWAITING (R186). -/
theorem State.takeCommand_awaiting (h : s.mailbox.awaiting = true) (body : State → Answer × State) :
    s.takeCommand code await body = s.refuseWrite := by
  rw [State.takeCommand, if_pos h]

/-- A code that names no command is answered by the Host Port itself (R184). -/
theorem commandBody_undefined (h : code = 0 ∨ 0x11 ≤ code.toNat) :
    commandBody code = State.hostUndefined := by
  unfold commandBody
  rcases h with rfl | h
  · rfl
  · generalize code.toNat = n at h
    match n, h with
    | n + 17, _ => rfl

/-- Settles O7: in AWAITING every COMMAND write is refused alike, and in READY an undefined code is
answered at once. -/
theorem refusedAndUndefinedCommandWrites : Obligations.RefusedAndUndefinedCommandWrites := by
  unfold Obligations.RefusedAndUndefinedCommandWrites
  refine fun s code await => ⟨fun c haw hc => ?_, fun hr hcode => ?_⟩
  · have hrefused : ∀ code body, s.takeCommand code await body = s.refuseWrite := fun _ body =>
      State.takeCommand_awaiting haw body
    rcases hc with rfl | rfl | rfl | rfl | rfl
    · exact congrArg Host.Outcome.next (hrefused _ _)
    · exact congrArg Host.Outcome.next (hrefused _ _)
    · exact (exec_commandRow code await s).trans (congrArg Host.Outcome.next (hrefused _ _))
    · exact congrArg Host.Outcome.next (hrefused _ _)
    · exact congrArg Host.Outcome.next (hrefused _ _)
  · have htaken := State.takeCommand_ready (code := code) (await := await) hr
      (congrFun (commandBody_undefined hcode) _)
    exact ⟨_, congrArg Host.Outcome.next htaken, rfl, rfl, rfl, rfl,
      State.answersAtOnce_complete rfl _ _⟩

/-! ## ABANDON -/

/-- Settles O9: the marks are cleared and the mailbox completes, in AWAITING alone. -/
theorem abandonEndsTheWaitAlone : Obligations.AbandonEndsTheWaitAlone := by
  unfold Obligations.AbandonEndsTheWaitAlone
  refine fun s => ⟨fun hr => ?_, fun haw => ?_, rfl⟩
  · have hnot : ¬s.mailbox.awaiting = true := by rw [hr]; decide
    exact congrArg Host.Outcome.next (if_neg hnot)
  · exact congrArg Host.Outcome.next ((if_pos haw).trans (State.complete_eq _ _))

/-! ## Device reset -/

/-- The register map at device reset (13.6). -/
theorem State.readRegister_reset (a : BitVec 7) : State.reset.readRegister a =
    if a = 0x3C then 0x10 else if a = 0x3E then 0x01 else if a = 0x44 then 2
    else if a = 0x45 then 0x40 else if a = 0x46 then 0x20 else if a = 0x47 then 0x32
    else if 0x50 ≤ a ∧ a < 0x58 then 1 else if 0x58 ≤ a ∧ a < 0x60 then 1
    else if 0x60 ≤ a ∧ a < 0x68 then 1#8 <<< (a - 0x60).toNat
    else if 0x68 ≤ a ∧ a < 0x70 then 0xFF else 0 := by
  revert a
  decide

/-- Settles O3: the registers of the reset state read as the map says, whatever the pins. -/
theorem deviceResetGivesTheRegisterMap : Obligations.DeviceResetGivesTheRegisterMap := by
  unfold Obligations.DeviceResetGivesTheRegisterMap
  have hquiet : State.reset.events.irqLow = false := by decide
  exact fun s => ⟨s.deviceReset, rfl, rfl, State.readRegister_reset, fun _ => rfl, hquiet⟩

end Sys2Proof.Machine
end

-- ==== Proofs: read transactions ====
section
/-! SUPPORT. The parts of a read transaction: the snapshot, the octet sent, and the flag that
EVENT_VECTOR's octet clears (R177, R178, R196). -/

namespace Sys2Proof.Machine

-- The proofs are elaborated one after another: many at once take the text past its memory limit.
set_option Elab.async false

variable {i : Fin 13}

/-! ## The snapshot -/

/-- The snapshot holds each address as it reads (R178). -/
theorem State.getElem_window (s : State) (a : BitVec 7) : s.window[a.toNat] = s.readRegister a := by
  simp [State.window]

/-! ## The flag that a code names -/

/-- The flag of a code is the one at its position (R192). -/
theorem getElem_flagBit {c : Nat} (hc : 1 ≤ c) : (flagBit c)[i] = decide (c = i.val + 1) := by
  have hi : i.val < 13 := i.isLt
  rw [flagBit, Fin.getElem_fin, BitVec.getElem_shiftLeft, BitVec.getElem_one]
  rcases (by omega : c = i.val + 1 ∨ i.val < c - 1 ∨ c ≤ i.val) with rfl | h | h
  · simp
  · simp [h, show c ≠ i.val + 1 by omega]
  · simp [show i.val - (c - 1) ≠ 0 by omega, show c ≠ i.val + 1 by omega]

/-- A code that is not 0 clears the flag at its position (R196). -/
theorem State.clearCode_of_ne_zero (s : State) {code : Byte} (h : code ≠ 0) :
    (s.clearCode code).events.flags = s.events.flags &&& ~~~ flagBit code.toNat := by
  rw [State.clearCode, if_neg h]

/-- A code clears the flag that it names and no other; 0 names none (R196). -/
theorem State.flags_clearCode (s : State) (code : Byte) (i : Fin 13) :
    (s.clearCode code).events.flags[i] =
      (s.events.flags[i] && decide (code.toNat ≠ i.val + 1)) := by
  by_cases h : code = 0
  · rw [h]
    exact (Bool.and_true _).symm
  · have hbit := getElem_flagBit (i := i) (c := code.toNat) (by bv_omega)
    rw [s.clearCode_of_ne_zero h, decide_not, ← hbit]
    simp only [Fin.getElem_fin, BitVec.getElem_and, BitVec.getElem_not]

/-- Clearing by a code writes the flags alone (R196). -/
theorem State.clearCode_eq (s : State) (code : Byte) : s.clearCode code =
    { s with events := { s.events with flags := (s.clearCode code).events.flags } } := by
  unfold State.clearCode
  split <;> rfl

theorem State.port_clearCode (s : State) (code : Byte) : (s.clearCode code).port = s.port := by
  rw [State.clearCode_eq]

/-! ## The octet sent -/

/-- A data octet sent: the octet of the snapshot at its address, then the address behind it, and the
flag that EVENT_VECTOR's octet clears (R177, R196). -/
theorem State.sendOctet_snapshot {s : State} {w : Vector Byte 128} (hw : s.port.snapshot = some w) :
    s.sendOctet = { s with
        port := { s.port with
          sent := w[s.port.next.toNat]
          next := if s.port.next = 0x7F then 0 else s.port.next + 1 }
        events := { s.events with flags := s.sendOctet.events.flags } }
      ∧ ∀ i : Fin 13, s.sendOctet.events.flags[i] = (s.events.flags[i]
          && decide (s.port.next ≠ 0x39 ∨ w[s.port.next.toNat].toNat ≠ i.val + 1)) := by
  have hnext : s.port.next + 1 = if s.port.next = 0x7F then 0 else s.port.next + 1 := by
    split
    next h => rw [h]; rfl
    next => rfl
  rcases s.sendOctet_cases with ⟨hnone, -⟩ | ⟨w', hw', hsend⟩
  · rw [hw] at hnone
    cases hnone
  · obtain rfl : w = w' := Option.some.inj (hw.symm.trans hw')
    rw [hsend, ← hnext]
    by_cases ha : s.port.next = eventVectorAddress
    · rw [if_pos ha]
      refine ⟨State.clearCode_eq _ _, fun i => ?_⟩
      rw [State.flags_clearCode]
      simp [show s.port.next = 0x39 from ha]
    · rw [if_neg ha]
      refine ⟨rfl, fun i => ?_⟩
      rw [decide_eq_true (.inl ha), Bool.and_true]
      rfl

/-! ## EVENT_VECTOR -/

/-- EVENT_VECTOR reads the lowest code among the flags set and enabled (R196). -/
theorem Events.vector_lowest {e : Events} (hi : (e.flags &&& e.enables)[i] = true)
    (hlow : ∀ j < i, (e.flags &&& e.enables)[j] = false) : e.vector = octet (i.val + 1) := by
  have hfind : ((List.range 13).find? fun n => (e.flags &&& e.enables).getLsbD n) = some i.val := by
    rw [List.find?_range_eq_some]
    refine ⟨?_, List.mem_range.mpr i.isLt, fun j hj => ?_⟩
    · exact hi
    · have hj13 : j < 13 := by omega
      have hclear := hlow ⟨j, hj13⟩ hj
      rw [Fin.getElem_fin, ← BitVec.getLsbD_eq_getElem] at hclear
      rw [hclear]
      rfl
  rw [Events.vector, hfind]

/-- EVENT_VECTOR reads 0 where no flag is set and enabled (R196). -/
theorem Events.vector_none {e : Events} (h : e.flags &&& e.enables = 0) : e.vector = 0 := by
  rw [Events.vector, h]
  rfl

/-- A transaction of the EVENT_VECTOR octet alone sends it as it reads, and clears the flag that it
names (R178, R196). -/
theorem State.readPart_whole (s : State) : s.readPart .whole =
    ((s.makeSnapshot eventVectorAddress).notePort s.events.vector).clearCode s.events.vector := by
  have hw : s.window[(eventVectorAddress).toNat] = s.events.vector := s.getElem_window _
  rw [← hw]
  rfl

/-- Settles O35: the octet sent is the snapshot's, and EVENT_VECTOR's names the flag that it
clears. -/
theorem readsComeFromOneSnapshot : Obligations.ReadsComeFromOneSnapshot := by
  unfold Obligations.ReadsComeFromOneSnapshot
  refine fun s => ⟨fun start => ⟨s.makeSnapshot start, rfl, rfl, fun a => ?_⟩, fun hnone => ?_,
    fun w hw => ⟨s.sendOctet, rfl, State.sendOctet_snapshot hw⟩, ?_⟩
  · exact (Vector.getElem?_eq_getElem a.isLt).trans (congrArg some (s.getElem_window a))
  · rcases s.sendOctet_cases with ⟨-, hsame⟩ | ⟨w, hw, -⟩
    · exact congrArg Host.Outcome.next hsame
    · rw [hnone] at hw
      cases hw
  · let n := (s.makeSnapshot eventVectorAddress).notePort s.events.vector
    have hclear := n.clearCode_eq s.events.vector
    have hport := n.port_clearCode s.events.vector
    refine ⟨n.clearCode s.events.vector, congrArg Host.Outcome.next s.readPart_whole, ?_,
      fun i hi hlow => ?_, fun hnone => ?_⟩
    · rw [hport]
      exact hclear
    · have hv := Events.vector_lowest hi hlow
      have hcode : s.events.vector.toNat = i.val + 1 := by
        rw [hv, toNat_octet_of_lt (by omega)]
      have hne : s.events.vector ≠ 0 := fun h0 => by simp [h0] at hcode
      rw [hport, n.clearCode_of_ne_zero hne, hcode]
      exact ⟨hcode, rfl⟩
    · have hv := Events.vector_none hnone
      rw [hport, hv]
      exact ⟨hv, rfl⟩

end Sys2Proof.Machine
end

-- ==== Proofs: the transactions of the SPI port ====
section
/-! SUPPORT. The port through a run of edges: the bits of an octet, the octets of a transaction, its
end by CS_N or RST_N, and the level of SDO meanwhile (R177 to R179). -/

namespace Sys2Proof.Decode

-- The proofs are elaborated one after another: many at once take the text past its memory limit.
set_option Elab.async false

open Machine

/-! ## A port within a transaction -/

/-- Within a transaction, behind this header, with so many bits of an octet sampled and after a
falling edge of SCK: SDO shows the next bit (R177). -/
def SpiPort.within (header : Option (Bool × BitVec 7)) (count : Nat) (shift : Byte) : SpiPort where
  csLow := true
  taking := true
  header := header
  count := count
  shift := shift
  shown := SpiPort.next { header := header, count := count }

/-- The octet in progress once another bit has been sampled (R177). -/
def shiftIn (v : Byte) (b : Bool) : Byte := (v <<< 1) ||| (BitVec.ofBool b).setWidth 8

variable {header : Option (Bool × BitVec 7)} {count : Nat} {shift : Byte}

/-- The second of two runs of edges finds the port that the first leaves. -/
theorem edges_append (p : SpiPort) (es fs : List SpiEdge) : p.edges (es ++ fs) =
    (((p.edges es).1.edges fs).1, (p.edges es).2 ++ ((p.edges es).1.edges fs).2) := by
  induction es generalizing p with
  | nil => rfl
  | cons e es ih => simp only [List.cons_append, SpiPort.edges, ih, List.append_assoc]

/-- One run of edges and then another: their commands follow one another. -/
theorem edges_then {p q r : SpiPort} {es fs : List SpiEdge} {cs ds : List Instr}
    (h : p.edges es = (q, cs)) (g : q.edges fs = (r, ds)) : p.edges (es ++ fs) = (r, cs ++ ds) := by
  rw [edges_append, h, g]

theorem clocked_append (xs ys : List Bool) : clocked (xs ++ ys) = clocked xs ++ clocked ys :=
  List.flatMap_append

/-- The fall of CS_N begins a transaction, in no octet yet (R177). -/
theorem edges_csFall (es : List SpiEdge) :
    SpiPort.edges {} (.csFall :: es) = (SpiPort.within none 0 0).edges es := rfl

/-! ## The bits of an octet -/

/-- Bits that complete no octet are sampled, and make no command (R177). -/
theorem edges_bits (bits : List Bool) (h : count + bits.length < 8) :
    (SpiPort.within header count shift).edges (clocked bits)
      = (SpiPort.within header (count + bits.length) (bits.foldl shiftIn shift), []) := by
  induction bits generalizing count shift with
  | nil => rfl
  | cons b bits ih =>
    rw [List.length_cons] at h
    have hbit : (SpiPort.within header count shift).edges (clocked [b])
        = (SpiPort.within header (count + 1) (shiftIn shift b), []) := by
      have hne : count ≠ 7 := by omega
      simp [clocked, SpiPort.edges, SpiPort.edge, SpiPort.within, SpiPort.sample, hne, SpiPort.next,
        shiftIn]
    have hcount : count + 1 + bits.length = count + (b :: bits).length := by
      rw [List.length_cons]
      omega
    rw [← List.singleton_append, clocked_append, edges_then hbit (ih (by omega)), hcount]
    rfl

/-- The eighth bit completes the octet, and the next octet begins (R177). -/
theorem edges_lastBit (b : Bool) : (SpiPort.within header 7 shift).edges (clocked [b]) =
    (SpiPort.within ((SpiPort.within header 7 0).complete (shiftIn shift b)).1.header 0 0,
      ((SpiPort.within header 7 0).complete (shiftIn shift b)).2) :=
  Prod.ext (by rcases header with _ | ⟨_ | _, a⟩ <;> rfl)
    ((List.append_nil _).trans (by rcases header with _ | ⟨_ | _, a⟩ <;> rfl))

/-- The bit shifted in stands in bit 0, and every other bit moves up by one (R177). -/
theorem getElem_shiftIn (v : Byte) (b : Bool) {i : Nat} (hi : i < 8) :
    (shiftIn v b)[i] = if i = 0 then b else v[i - 1] := by
  rcases i with _ | i <;> simp [shiftIn]

/-- The first seven bits of an octet on the line and the last shift in that octet (R177). -/
theorem shiftIn_octetBits (v : Byte) :
    shiftIn (((octetBits v).take 7).foldl shiftIn 0) (v.getLsbD 0) = v := by
  have hseven : (octetBits v).take 7 = [v.getLsbD 7, v.getLsbD 6, v.getLsbD 5, v.getLsbD 4,
    v.getLsbD 3, v.getLsbD 2, v.getLsbD 1] := rfl
  refine BitVec.eq_of_getElem_eq fun i hi => ?_
  rw [hseven]
  interval_cases i <;> simp [getElem_shiftIn]

/-- The eight bits of an octet complete it (R177). -/
theorem edges_octetBits (v : Byte) : (SpiPort.within header 0 0).edges (clocked (octetBits v)) =
    (SpiPort.within ((SpiPort.within header 7 0).complete v).1.header 0 0,
      ((SpiPort.within header 7 0).complete v).2) := by
  have hbits : octetBits v = (octetBits v).take 7 ++ [v.getLsbD 0] := rfl
  have hseven := edges_bits (header := header) (count := 0) (shift := 0) ((octetBits v).take 7)
    (Nat.lt_succ_self 7)
  rw [hbits, clocked_append, edges_then hseven (edges_lastBit _), shiftIn_octetBits]
  rfl

/-! ## The octets of a transaction -/

/-- The address octet gives direction and starting address, and makes the snapshot of a read (R177,
R178). -/
theorem edges_addressOctet (v : Byte) :
    (SpiPort.within none 0 0).edges (clocked (octetBits v)) =
      (SpiPort.within (some (v.getLsbD 7, v.extractLsb' 0 7)) 0 0,
        if v.getLsbD 7 then [.eventVectorRead (.address (v.extractLsb' 0 7))] else []) :=
  edges_octetBits v

/-- The command of a data octet, by direction and address (R177 to R179). -/
def dataCommand (read : Bool) (a : BitVec 7) (v : Byte) : Instr :=
  if read then .eventVectorRead .octet else hostWrite a v

/-- A data octet makes its command, and the next one falls on the next address (R177). -/
theorem edges_dataOctet (read : Bool) (a : BitVec 7) (v : Byte) :
    (SpiPort.within (some (read, a)) 0 0).edges (clocked (octetBits v)) =
      (SpiPort.within (some (read, a + 1)) 0 0, [dataCommand read a v]) := by
  rw [edges_octetBits]
  cases read <;> rfl

/-- The data octets make their commands at one address after another (R177). -/
theorem edges_data (read : Bool) (a : BitVec 7) (data : List Byte) :
    (SpiPort.within (some (read, a)) 0 0).edges (clocked (data.flatMap octetBits)) =
      (SpiPort.within (some (read, a + BitVec.ofNat 7 data.length)) 0 0,
        data.zipIdx.map fun d => dataCommand read (a + BitVec.ofNat 7 d.2) d.1) := by
  induction data generalizing a with
  | nil => simp [clocked, SpiPort.edges]
  | cons v data ih =>
    have hnext : ∀ n, a + 1 + BitVec.ofNat 7 n = a + BitVec.ofNat 7 (n + 1) := fun n => by
      rw [BitVec.ofNat_add, BitVec.add_assoc, BitVec.add_comm (BitVec.ofNat 7 n)]
      rfl
    rw [List.flatMap_cons, clocked_append, edges_then (edges_dataOctet read a v) (ih (a + 1)),
      hnext, List.zipIdx_cons, Nat.zero_add, List.zipIdx_succ, List.map_cons, List.map_map]
    simp only [Function.comp_def, hnext, List.length_cons, List.singleton_append, BitVec.add_zero]

/-- The commands of a transaction, by its address octet and its data octets (R177 to R179). -/
def transactionCommands (addr : Byte) (data : List Byte) : List Instr :=
  if addr.getLsbD 7 then
    .eventVectorRead (.address (addr.extractLsb' 0 7)) ::
      List.replicate data.length (.eventVectorRead .octet)
  else data.zipIdx.map fun d => hostWrite (addr.extractLsb' 0 7 + BitVec.ofNat 7 d.2) d.1

/-- The header of a transaction after so many data octets (R177). -/
def headerAfter (addr : Byte) (n : Nat) : Option (Bool × BitVec 7) :=
  some (addr.getLsbD 7, addr.extractLsb' 0 7 + BitVec.ofNat 7 n)

/-- A transaction with CS_N still low: its octets make their commands, and the bits behind them are
within the octet in progress (R177). -/
theorem edges_transaction (addr : Byte) (data : List Byte) (stray : List Bool)
    (h : stray.length < 8) :
    SpiPort.edges {} (.csFall :: clocked (octetBits addr ++ data.flatMap octetBits ++ stray)) =
      (SpiPort.within (headerAfter addr data.length) stray.length (stray.foldl shiftIn 0),
        transactionCommands addr data) := by
  have hstray := edges_bits (header := headerAfter addr data.length) (count := 0) (shift := 0) stray
    (by omega)
  rw [Nat.zero_add] at hstray
  rw [edges_csFall, clocked_append, clocked_append,
    edges_then (edges_then (edges_addressOctet addr) (edges_data _ _ data)) hstray,
    List.append_nil, transactionCommands]
  cases addr.getLsbD 7
  · rfl
  · simp [dataCommand, List.map_const']

/-! ## The end of a transaction -/

/-- With no transaction in progress SCK moves nothing (R177). -/
theorem edges_passedOver {p : SpiPort} (h : p.taking = false) (bits : List Bool) :
    p.edges (clocked bits) = (p, []) := by
  induction bits with
  | nil => rfl
  | cons b bits ih =>
    have hbit : p.edges (clocked [b]) = (p, []) := by
      simp [clocked, SpiPort.edges, SpiPort.edge, h]
    rw [← List.singleton_append, clocked_append, edges_then hbit ih, List.append_nil]

/-- RST_N low ends a transaction and resets the part, and what is left of it has no effect while
RST_N is low, nor after it has risen, until CS_N rises (R177). -/
theorem edges_reset {p q : SpiPort} {es : List SpiEdge} {cs : List Instr}
    (h : p.edges es = (q, cs)) (late : List Bool) :
    (p.edges (es ++ [SpiEdge.rstFall] ++ clocked late ++ [SpiEdge.rstRise] ++ clocked late
      ++ [SpiEdge.csRise])).2 = cs ++ [Instr.deviceReset] := by
  have hlow : q.edges [.rstFall] = ({ q.finish with rstLow := true }, [.deviceReset]) := rfl
  have hhigh : ({ q.finish with rstLow := true } : SpiPort).edges [.rstRise]
      = ({ q.finish with rstLow := false }, []) := rfl
  have hlate := edges_then (edges_then (edges_then (edges_then h hlow) (edges_passedOver rfl late))
    hhigh) (edges_passedOver rfl late)
  simp only [List.append_nil] at hlate
  exact (congrArg Prod.snd (edges_then hlate rfl)).trans (List.append_nil _)

end Sys2Proof.Decode

/-! ## SDO -/

namespace Sys2Proof.Machine

open Decode

/-- Within a transaction SDO shows the next bit of a read's data octet, and 0 otherwise (R177). -/
theorem State.sdo_within (s : State) (header : Option (Bool × BitVec 7)) (count : Nat)
    (shift : Byte) : s.sdo (SpiPort.within header count shift) =
    match header, s.port.snapshot with
    | some (true, a), some w => some (w[a.toNat].getLsbD (7 - count))
    | _, _ => some false := by
  unfold State.sdo
  rcases header with _ | ⟨_ | _, a⟩ <;> cases s.port.snapshot <;> rfl

/-- Once CS_N has risen or RST_N has fallen SDO is high impedance (R177). -/
theorem State.sdoAfter_ended (s : State) {e : SpiEdge} (h : e = .csRise ∨ e = .rstFall)
    (es : List SpiEdge) : s.sdoAfter (es ++ [e]) = none := by
  rw [State.sdoAfter, edges_append]
  rcases h with rfl | rfl
  · rfl
  · simp [SpiPort.edges, SpiPort.edge, State.sdo]

/-- Settles O6: the octets of a transaction make their commands one after another, and the port that
they leave says what SDO shows. -/
theorem transactionsMakeTheirCommands : Obligations.TransactionsMakeTheirCommands := by
  unfold Obligations.TransactionsMakeTheirCommands
  rintro addr data stray bits cmds hstray hbits (rfl : cmds = transactionCommands addr data)
  have hall := edges_transaction addr data stray hstray
  rw [← hbits] at hall
  have honly : SpiPort.edges {} (.csFall :: clocked stray) =
      (SpiPort.within none (0 + stray.length) (stray.foldl shiftIn 0), []) := by
    rw [edges_csFall, edges_bits stray (by omega)]
  refine ⟨?_, ?_, edges_reset hall, fun s => ⟨?_, ?_, s.sdoAfter_ended (.inl rfl) _,
    s.sdoAfter_ended (.inr rfl) _⟩⟩
  · exact congrArg Prod.snd (edges_then honly rfl)
  · exact (congrArg Prod.snd (edges_then hall rfl)).trans (List.append_nil _)
  · rw [State.sdoAfter, honly]
    exact s.sdo_within none _ _
  · rw [State.sdoAfter, hall, State.sdo_within, headerAfter]
    cases addr.getLsbD 7 <;> cases s.port.snapshot <;> rfl

end Sys2Proof.Machine
end

-- ==== Proofs: a step with a command waiting ====
section
/-! SUPPORT. A step takes the command at the front of the queue, and nothing else of the state decides
which one it executes. -/

namespace Sys2Proof.Machine

/-- With a command waiting, a step executes it on the state with the queue's rest. -/
theorem step_pending_cons {s : State} {c : Instr} {rest : List Instr}
    (hpending : s.pending = c :: rest) : step s = exec c { s with pending := rest } := by
  rw [step, hpending]

/-- Settles O1: the queue of the state stepped is the front command and the rest, and the rest
replaces it. -/
theorem stepExecutesTheFrontCommand : Obligations.StepExecutesTheFrontCommand := by
  unfold Obligations.StepExecutesTheFrontCommand
  intro s c rest
  have hqueue : ({ s with pending := c :: rest } : State).pending = c :: rest := rfl
  exact step_pending_cons hqueue

end Sys2Proof.Machine
end
